-- ==== Sys2Proof/Word.lean ====
section
/-! DEFINITION. The widths the manual gives its numbers. -/

namespace Sys2Proof

/-- One byte of the host link. -/
abbrev Byte := BitVec 8

/-- A tag: the one-byte number carried by every request and report (R138, R165). -/
abbrev Tag := BitVec 8

/-- A value of the millisecond clock, a 32-bit count that wraps (R180). -/
abbrev Clock := BitVec 32

/-- The factory-unique 64-bit identity of a node. -/
abbrev Ident := BitVec 64

/-- A check word: the low 16 bits of an identity (section 1.2). -/
abbrev CheckWord := BitVec 16

/-- The 16-bit handle a node draws for one census round (R6). -/
abbrev Handle := BitVec 16

/-- A short address, 1..240 (a plain number: the controller orders and compares addresses only). -/
abbrev Address := Nat

end Sys2Proof
end

