-- ==== Sys2Proof/Syntax.lean ====
section
/-! DEFINITION. The commands the block takes: one constructor of Instr for each row of
spec/opcode_table.json, and the things their operands name. -/

namespace Sys2Proof

/-- The two string lines. -/
inductive Line where
  | A | B
deriving DecidableEq, Repr

/-- The codes of a node's REFUSAL (section 1.2). `unlisted` stands for a code that is none of the three,
which makes the answer not well formed (R4). -/
inductive RefusalCode where
  | range | writeProtected | busy | unlisted
deriving DecidableEq, Repr

/-- An answer of a node, by its fields (section 1.2, Answers). -/
inductive Answer where
  | stub (handle : Handle)
  | identity (ident : Ident) (memorySize : Nat)
  | ack (check : CheckWord)
  | status (check : CheckWord) (attention : Bool)
  | data (check : CheckWord) (bytes : List Byte)
  | refusal (check : CheckWord) (code : RefusalCode)
deriving DecidableEq, Repr

/-- One answer as it stood on the cable in a window, with the facts that R4 judges besides its kind and fields:
whether its line frame check is correct, whether it began inside the 32 bit-times (an answer that did not began after
them) and whether it ended within the listening limit of R3. The manual gives no bit layout of an answer, so these three are facts of what was heard
(DESIGN CHOICE, safe: log entry 5). -/
structure HeardAnswer where
  answer : Answer
  checkOk : Bool
  inWindow : Bool
  inLimit : Bool
deriving DecidableEq, Repr

/-- What was on the line during and after an answer window: nothing, or some answers and perhaps, inside the window,
energy besides them. -/
inductive Heard where
  | silence
  | energy (answers : List HeardAnswer) (stray : Bool)
deriving DecidableEq, Repr

/-- One answer heard alone and whole. -/
def Heard.alone (a : Answer) : Heard := .energy [⟨a, true, true, true⟩] false

/-- Energy that never forms an answer. -/
def Heard.noise : Heard := .energy [] true

/-- The commands of the block, in the order of spec/opcode_table.json. A host request carries its tag byte and the
bytes of its body; a command about one line carries the line; a window carries what was heard in it. -/
inductive Instr where
  | getRoster (tag : Tag) (body : List Byte)
  | getEntry (tag : Tag) (body : List Byte)
  | getLine (tag : Tag) (body : List Byte)
  | getHeld (tag : Tag) (body : List Byte)
  | getLink (tag : Tag) (body : List Byte)
  | getParam (tag : Tag) (body : List Byte)
  | setParam (tag : Tag) (body : List Byte)
  | cancel (tag : Tag) (body : List Byte)
  | reset (tag : Tag) (body : List Byte)
  | census (tag : Tag) (body : List Byte)
  | readNode (tag : Tag) (body : List Byte)
  | writeNode (tag : Tag) (body : List Byte)
  | forget (tag : Tag) (body : List Byte)
  | linePower (tag : Tag) (body : List Byte)
  | stop (tag : Tag) (body : List Byte)
  | unknownKind (kind : Byte) (tag : Tag) (body : List Byte)
  | powerOnReset
  | rxByte (byte : Byte)
  | rxGapTimeout
  | reportSent
  | settlingExpiry (line : Line)
  | overcurrentTrip (line : Line)
  | lineGrant (line : Line)
  | callSent (line : Line)
  | slotWindow (line : Line) (heard : Heard)
  | claimWindow (line : Line) (heard : Heard)
  | bindOutcome (line : Line) (heard : Heard)
  | hushWindow (line : Line) (heard : Heard)
  | pollWindow (line : Line) (heard : Heard)
  | pollDue (line : Line)
  | attemptWindow (line : Line) (heard : Heard)
  | releaseWindow (line : Line) (heard : Heard)
  | quarantineExpiry (line : Line)
  | hushExpiry
deriving DecidableEq, Repr

end Sys2Proof
end

