-- ==== Sys2Proof/Decode.lean ====
section
/-! DEFINITION. The command that a word of bits spells. The manual numbers no bits for any row of the command
table (the layout of calls and answers is not given, and a request is a frame of bytes, read in
Sys2Proof/Machine/Operands.lean), so no word spells a command. -/

namespace Sys2Proof

/-- The command spelled by the low `nbits` bits of `w`: none, for the table gives no row any bits. -/
def decodeTableWord (_nbits _w : Nat) : Option Instr := none

end Sys2Proof
end

