-- ==== Sys2Proof/Config.lean ====
section
/-! DEFINITION. The fixed sizes and spans of the part.
The manual leaves no result value open, so there is no free value here (DEDUCED: log entry 25). -/

namespace Sys2Proof.Config

/-- Entries the roster holds (R17). -/
abbrev rosterMax : Nat := 256

/-- Addresses of a line, 1..addressMax (R42). -/
abbrev addressMax : Nat := 240

/-- Frames the inbound buffer holds (R142). -/
abbrev inboundMax : Nat := 4

/-- Slots of the report queue (R161). -/
abbrev reportSlots : Nat := 48

/-- Entries of the request table (R150). -/
abbrev tableMax : Nat := 24

/-- Records of a line's transaction queue (R107). -/
abbrev queueMax : Nat := 16

/-- Records of the hush list (R82). -/
abbrev hushMax : Nat := 16

/-- The unreserved room below which the dispatcher takes no frame (R144). -/
abbrev takeRoom : Nat := 2

/-- The unreserved room an event report needs (R164). -/
abbrev eventRoom : Nat := 3

/-- The passed-over count at which a contender goes before the others (R125). -/
abbrev passedLimit : Nat := 4

/-- Length of the settling timer in milliseconds (R128). -/
abbrev settlingMs : Nat := 100

/-- Length of the receive gap timer in milliseconds (R140). -/
abbrev gapMs : Nat := 20

/-- The longest span any timer covers, in milliseconds (R180). -/
abbrev longestSpan : Nat := 600000

/-- The sync byte of a frame, 5A hex (R138). -/
abbrev syncByte : Byte := 0x5A


/-- The round budget that a budget of 0 stands for (R56). -/
abbrev budgetForZero : Nat := 32

/-- The largest exponent of a round (section 1.2, ROLL). -/
abbrev exponentMax : Nat := 12

end Sys2Proof.Config
end

