-- ==== Sys2Proof/Machine/State.lean ====
section
/-! DEFINITION. The state of the part as plain data, block by block, and the state right after a power-on reset. -/

namespace Sys2Proof.Machine

/-- The stops of the machine. The manual describes none: a line fault is a state of a line (R131) and a request that
is turned away is answered REFUSED (R166). No meaning raises a fault, so there is no constructor. -/
inductive Fault
deriving DecidableEq, Repr

/-- The refusals of the model. -/
inductive Refusal where
  /-- Raised by an arm of `exec` whose command has no meaning yet; safe, since nothing can be proved of that command.
  No arm raises it: every command has its meaning. -/
  | notModelled (mnemonic : String)
deriving DecidableEq, Repr

/-! ## The roster (chapter 02) -/

/-- The state of an entry with the fields present in that state only (R19): a BOUND entry has its address and the
lease its last BIND carried, a LOST entry may have a held address, an UNBOUND entry has neither. -/
inductive Standing where
  | bound (address : Address) (lease : Nat)
  | lost (held : Option Address)
  | unbound
deriving DecidableEq, Repr

/-- One node's record in the roster (section 2.1). `serial` is the model's own field: it tells an entry from a later
entry made for the same identity (section 6.1), and the part never shows it (DESIGN CHOICE, safe: log entry 8). -/
structure Entry where
  serial : Nat
  identity : Ident
  line : Line
  standing : Standing
  misses : Nat
  attention : Bool
  memorySize : Nat
  returns : Nat
  lastSeen : Clock
  forgetting : Option Tag
  pendingTx : Nat
deriving DecidableEq, Repr

/-! ## Addresses (chapter 03) -/

/-- A quarantine record (R46). `seq` is the model's own field: the order of entry into quarantine, by which records
of equal expiry stand (DESIGN CHOICE, safe: log entry 9). -/
structure QuarantineRec where
  address : Address
  hold : Nat
  expiry : Clock
  origin : Option Ident
  seq : Nat
deriving DecidableEq, Repr

/-! ## Held nodes (chapter 05) -/

/-- Why a node was hushed (R82). -/
inductive HushReason where
  | clash | rosterFull | noAddress | forgotten
deriving DecidableEq, Repr

/-- A hush record (R82). -/
structure HushRec where
  identity : Ident
  line : Line
  reason : HushReason
  expiry : Clock
deriving DecidableEq, Repr

/-! ## Census (chapter 04) -/

/-- The exponent policy of a census (R68, R69). -/
inductive Policy where
  | fixed | adaptive
deriving DecidableEq, Repr

/-- A halt mark that is set (R71, R116). -/
inductive Halt where
  | cancel | stop
deriving DecidableEq, Repr

/-- The totals of a census (R70). -/
structure Totals where
  rounds : Nat
  slots : Nat
  boundNew : Nat
  returned : Nat
  moved : Nat
  clashes : Nat
  rosterFull : Nat
  noAddress : Nat
  spoiled : Nat
  bindUnconfirmed : Nat
deriving DecidableEq, Repr

/-- A census context (section 4.2). The round counters E, S, C, K and B are spelled out. -/
structure Census where
  tag : Tag
  policy : Policy
  exponent : Nat
  budget : Nat
  scopeLength : Nat
  scopeBits : BitVec 64
  roundNumber : Nat
  slotIndex : Nat
  emptySlots : Nat
  singleSlots : Nat
  collidedSlots : Nat
  spoiledSlots : Nat
  boundNodes : Nat
  totals : Totals
  halt : Option Halt
deriving DecidableEq, Repr

/-- The decision of a find that its report tells of (R63, R79), before the round number and slot index are added. -/
inductive FindEvent where
  | nodeFound (identity : Ident) (line : Line) (address : Address) (memorySize : Nat)
  | nodeReturned (identity : Ident) (line : Line) (address : Address) (returns : Nat)
  | nodeMoved (identity : Ident) (oldLine newLine : Line) (address : Address) (returns : Nat)
  | identityClash (identity : Ident) (foundLine boundLine : Line) (address : Address)
  | rosterFull (identity : Ident) (line : Line)
  | noAddress (identity : Ident) (line : Line)
deriving DecidableEq, Repr

/-! ## Polling (chapter 06) -/

/-- The poll cycle of a line that is UP (section 6.1). Phase NONE is the absence of a cycle; `running` tells RUNNING
from WAITING. Members are roster entries, named by serial. -/
structure PollCycle where
  running : Bool
  start : Clock
  period : Nat
  nextDue : Clock
  members : List Nat
  remaining : List Nat
  late : Bool
deriving DecidableEq, Repr

/-! ## Transactions (chapter 07) -/

/-- The kind of a transaction with the fields of that kind (section 7.1). -/
inductive TxnWork where
  | read (offset length : Nat)
  | write (offset : Nat) (bytes : List Byte)
  | release
deriving DecidableEq, Repr

/-- A transaction record (section 7.1). `inFlight` says that one of its attempts holds the line. A record is running
from its first grant, that is, when `attempts` is above 0. -/
structure Txn where
  tag : Tag
  work : TxnWork
  target : Ident
  attempts : Nat
  unheard : Nat
  halt : Option Halt
  inFlight : Bool
deriving DecidableEq, Repr

/-! ## The line engine (chapters 01 and 08) -/

/-- The state of a line (section 8.2). -/
inductive LinePower where
  | off | settling | up | fault
deriving DecidableEq, Repr

/-- A call by its fields (section 1.2, Calls). -/
inductive Call where
  | roll (exponent scopeLength : Nat) (scopeBits : BitVec 64)
  | step
  | claim (handle : Handle)
  | bind (handle : Handle) (address : Address) (leaseMs : Nat)
  | hush (handle : Handle) (hushS : Nat)
  | poll (address : Address)
  | read (address : Address) (offset length : Nat)
  | write (address : Address) (offset : Nat) (bytes : List Byte)
  | release (address : Address) (hushS : Nat)
deriving DecidableEq, Repr

/-- Which part of the line engine runs the operation in progress, at which of its calls, and what it remembers:
a poll its member; a slot operation the find it is answering (R63 to R66). -/
inductive OpWork where
  | poll (serial : Nat) (identity : Ident)
  | attempt
  | slotOpening
  | slotClaim
  | slotBind (serial : Nat) (identity : Ident) (memorySize : Nat) (event : FindEvent)
  | slotHush (identity : Ident) (reason : HushReason) (event : Option FindEvent) (isMatched : Bool)
deriving DecidableEq, Repr

/-- A line operation in progress (R126): the work, its present call, and whether the call's last bit has been sent
and its answer window is open (R3). -/
structure LineOp where
  work : OpWork
  call : Call
  listening : Bool
deriving DecidableEq, Repr

/-- The six line counters (R135): 32 bits each, wrapping. -/
structure LineCounters where
  callsSent : BitVec 32
  silent : BitVec 32
  garbled : BitVec 32
  mismatches : BitVec 32
  overruns : BitVec 32
  rounds : BitVec 32
deriving DecidableEq, Repr

/-- The direction of a LINE_POWER (section 8.2). -/
inductive Direction where
  | off | on
deriving DecidableEq, Repr

/-- Everything kept once per line: supervisor, allocator, census sequencer, poll scheduler, executor, arbiter. -/
structure LineState where
  power : LinePower
  openPower : Option (Tag × Direction)
  settleAt : Option Clock
  speed : Option Nat
  counters : LineCounters
  pool : List Address
  quarantine : List QuarantineRec
  nextSeq : Nat
  census : Option Census
  poll : Option PollCycle
  queue : List Txn
  op : Option LineOp
  passedT : Nat
  passedP : Nat
  passedC : Nat
deriving DecidableEq, Repr

/-! ## Operating parameters (chapter 11) -/

/-- The parameter table (R172). -/
structure Params where
  pollPeriod : Nat
  missLimit : Nat
  nodeLease : Nat
  quarantineMargin : Nat
  hushTime : Nat
  retryLimit : Nat
  speedA : Nat
  speedB : Nat
  expMin : Nat
  expMax : Nat
  hostRate : Nat
  attentionReports : Nat
deriving DecidableEq, Repr

/-! ## The host link (chapters 09 and 10) -/

/-- A good frame, less sync, length and CRC (R138). -/
structure Frame where
  kind : Byte
  tag : Tag
  body : List Byte
deriving DecidableEq, Repr

/-- The receiver (R139, R140): hunting, or collecting with the bytes gathered after the sync and the expiry of the
receive gap timer. -/
inductive Receiver where
  | hunting
  | collecting (bytes : List Byte) (gapAt : Clock)
deriving DecidableEq, Repr

/-- Kinds of long request (R148). -/
inductive LongKind where
  | census | readNode | writeNode | forget | linePower | stop
deriving DecidableEq, Repr

/-- State of a request table entry (R150). -/
inductive ReqState where
  | queued | running | halting
deriving DecidableEq, Repr

/-- A request table entry (R150). -/
structure Req where
  tag : Tag
  kind : LongKind
  line : Line
  state : ReqState
  target : Option Ident
deriving DecidableEq, Repr

/-- The stop record: the tag of the open STOP (R151) and the number of requests open at its admission, which its
CLOSED carries (R155; DEDUCED, safe: log entry 17). -/
structure StopRec where
  tag : Tag
  openCount : Nat
deriving DecidableEq, Repr

/-- Refusal reasons (R166). -/
inductive Reason where
  | malformed | unknownKind | tagZero | tagInUse | stopping | tableFull | lineNotUp | lineBusy
  | censusActive | unknownNode | notBound | forgetting | badRange | queueFull | badParam
  | paramConflict | paramLocked
deriving DecidableEq, Repr

/-- Outcomes of a long request (R160, R167). -/
inductive CloseOutcome where
  | done | budget | cancelled | stopped | lineDown | faulted | noAnswer | nodeBusy | nodeRefused
  | targetLost | targetGone
deriving DecidableEq, Repr

/-- Whether a WRITE's data were stored (R114). -/
inductive Stored where
  | no | yes | unknown
deriving DecidableEq, Repr

/-- How a FORGET's entry left (section 7.6, R160). -/
inductive ForgetDetail where
  | none | released | unconfirmed | found | wentLost | unpowered | direct
deriving DecidableEq, Repr

/-- The result a CLOSED carries, by kind (R160). -/
inductive CloseResult where
  | census (totals : Totals)
  | read (attempts : Nat) (bytes : Option (List Byte)) (code : Option RefusalCode)
  | write (attempts : Nat) (stored : Stored) (code : Option RefusalCode)
  | forget (target : Ident) (detail : ForgetDetail)
  | linePower (line : Line) (power : LinePower) (lost : Nat)
  | stop (openCount : Nat)
deriving DecidableEq, Repr

/-- Why an entry went LOST through misses (R97). -/
inductive LossCause where
  | poll | transaction | limit
deriving DecidableEq, Repr

/-- Event reports with their contents less dropped_before (R79, R97, R133, R169). -/
inductive Event where
  | nodeFound (identity : Ident) (line : Line) (address : Address) (memorySize round slot : Nat)
      (unconfirmed : Bool)
  | nodeReturned (identity : Ident) (line : Line) (address : Address) (returns round slot : Nat)
  | nodeMoved (identity : Ident) (oldLine newLine : Line) (address : Address)
      (returns round slot : Nat)
  | identityClash (identity : Ident) (foundLine boundLine : Line) (address : Address)
      (round slot : Nat)
  | rosterFull (identity : Ident) (line : Line) (round slot : Nat)
  | noAddress (identity : Ident) (line : Line) (round slot : Nat)
  | roundSummary (round exponent emptySlots singleSlots collidedSlots spoiledSlots boundNodes
      nextExponent : Nat)
  | nodeLost (identity : Ident) (line : Line) (address : Address) (lastSeen : Clock)
      (cause : LossCause)
  | attention (identity : Ident) (line : Line) (address : Address) (heardAt : Clock)
  | lineFault (line : Line) (trippedAt : Clock) (lost : Nat)
deriving DecidableEq, Repr

/-- Results of a CANCEL (R152). -/
inductive CancelResult where
  | notOpen | notCancellable | cancelling
deriving DecidableEq, Repr

/-- Contents of LINE_INFO (R54, R136). -/
structure LineInfo where
  line : Line
  clock : Clock
  power : LinePower
  openPower : Option (Tag × Direction)
  settlingLeft : Option Nat
  speed : Option Nat
  boundCount : Nat
  freeCount : Nat
  quarantineCount : Nat
  earliest : Option (Clock × Nat)
  census : Option Tag
  queueLength : Nat
  pollRunning : Option Bool
  counters : LineCounters
deriving DecidableEq, Repr

/-- Contents of LINK_INFO (R158). -/
structure LinkInfo where
  clock : Clock
  hostRate : Nat
  rxTimeouts : BitVec 16
  rxBadLength : BitVec 16
  rxCrcErrors : BitVec 16
  rxDiscards : BitVec 16
  dropped : BitVec 16
  waiting : Nat
  occupied : Nat
  reserved : Nat
  stop : Option Tag
  requests : List Req
deriving DecidableEq, Repr

/-- A report less its tag. An entry shown in a page or an ENTRY_INFO is carried as it stood when the report was made;
the bytes sent (Report.frame) take the fields the layouts name. -/
inductive ReportBody where
  | rosterPage (total start : Nat) (entries : List Entry)
  | entryInfo (identity : Ident) (known : Option (Nat × Entry))
  | lineInfo (info : LineInfo)
  | heldList (clock : Clock) (records : List HushRec)
  | linkInfo (info : LinkInfo)
  | paramValue (id value : Nat)
  | cancelReply (target : Tag) (kind : Option LongKind) (result : CancelResult)
  | taken (kind : LongKind)
  | refused (kind : Byte) (reason : Reason)
  | closed (outcome : CloseOutcome) (result : CloseResult)
  | event (droppedBefore : BitVec 16) (event : Event)
  | ready (soft : Bool) (hostRate : Nat)
deriving DecidableEq, Repr

/-- A report in the queue (R161). `rateAfter` marks the PARAM_VALUE of an accepted change of host_rate: the rate the
link takes when its last byte has left (R143, R178). -/
structure Report where
  tag : Tag
  body : ReportBody
  rateAfter : Option Nat
deriving DecidableEq, Repr

/-! ## The whole part -/

/-- The state of the part, and the queue of commands waiting for it. `departed` is the transmitter's: the clock value
at which a report's last byte left while another waited behind it, whose transmission has not begun at that value (R161,
R171; DESIGN CHOICE, unsafe: log entry 15). -/
structure State where
  clock : Clock
  params : Params
  linkRate : Nat
  rx : Receiver
  rxTimeouts : BitVec 16
  rxBadLength : BitVec 16
  rxCrcErrors : BitVec 16
  rxDiscards : BitVec 16
  inbound : List Frame
  reports : List Report
  departed : Option Clock
  dropped : BitVec 16
  table : List Req
  stop : Option StopRec
  roster : List Entry
  nextSerial : Nat
  hush : List HushRec
  lineA : LineState
  lineB : LineState
  pending : List Instr
deriving DecidableEq, Repr

/-- The parameters at their defaults (R172). -/
def Params.default : Params :=
  { pollPeriod := 500, missLimit := 3, nodeLease := 5000, quarantineMargin := 1000, hushTime := 60,
    retryLimit := 2, speedA := 2, speedB := 2, expMin := 0, expMax := 10, hostRate := 2,
    attentionReports := 1 }

/-- The six line counters at 0 (R135). -/
def LineCounters.zero : LineCounters :=
  { callsSent := 0, silent := 0, garbled := 0, mismatches := 0, overruns := 0, rounds := 0 }

/-- A line after a reset (R42, R55, R57, R91, R123, R124, R137). -/
def LineState.reset : LineState :=
  { power := .off, openPower := none, settleAt := none, speed := none, counters := .zero,
    pool := List.range' 1 Config.addressMax, quarantine := [], nextSeq := 0, census := none,
    poll := none, queue := [], op := none, passedT := 0, passedP := 0, passedC := 0 }

/-- The part right after a power-on reset: every block at its reset value and READY, tag 0 and cause POWER_ON, queued
as the first report (R157, R170, R179; DEDUCED, unsafe: log entry 16). The serial and sequence counts at 0 are the
model's: DESIGN CHOICE (log entries 8 and 9). -/
def State.reset : State :=
  { clock := 0, params := .default, linkRate := Params.default.hostRate, rx := .hunting,
    rxTimeouts := 0, rxBadLength := 0, rxCrcErrors := 0, rxDiscards := 0, inbound := [],
    reports := [{ tag := 0, body := .ready false Params.default.hostRate, rateAfter := none }],
    departed := none, dropped := 0, table := [], stop := none, roster := [], nextSerial := 0, hush := [],
    lineA := .reset, lineB := .reset, pending := [] }

end Sys2Proof.Machine
end

