-- ==== Sys2Proof/Machine/Flags.lean ====
section
/-! DEFINITION. What the blocks read off the state: room in the report queue, time remaining, who is BOUND, which
contenders wait for a line. -/

namespace Sys2Proof.Machine

/-- The line engine of a line. -/
def State.line (s : State) : Line → LineState
  | .A => s.lineA
  | .B => s.lineB

/-! ## The report queue's room (R162) -/

/-- V, the reserved slots: one for each open long request, in the request table and the stop record together. -/
def State.reserved (s : State) : Nat := s.table.length + if s.stop.isSome then 1 else 0

/-- U, the unreserved room: 48 less the occupied and the reserved slots. -/
def State.room (s : State) : Nat := Config.reportSlots - s.reports.length - s.reserved

/-! ## Time remaining (R46, R82, R180) -/

/-- Milliseconds from `now` to an expiry, judged by the time remaining and not by the raw clock value. No timer covers
more than 600000 ms, so a larger difference is an expiry already past, which reads as 0.
DEDUCED, safe (log entry 22): an expiry whose command comes late has no time left. -/
def timeLeft (now expiry : Clock) : Nat :=
  let d := (expiry - now).toNat
  if d ≤ Config.longestSpan then d else 0

/-! ## Entries -/

/-- Is this the state BOUND? -/
def Standing.isBound : Standing → Bool
  | .bound _ _ => true
  | _ => false

/-- The address of a BOUND entry. -/
def Entry.address (e : Entry) : Option Address :=
  match e.standing with
  | .bound a _ => some a
  | _ => none

/-- The held address of a LOST entry. -/
def Entry.held (e : Entry) : Option Address :=
  match e.standing with
  | .lost h => h
  | _ => none

/-- Is the entry BOUND on the line? -/
def Entry.boundOn (e : Entry) (l : Line) : Bool := e.line == l && e.standing.isBound

/-- The identity index (R18): the entry bearing an identity, if one does. -/
def State.lookup (s : State) (i : Ident) : Option Entry := s.roster.find? (·.identity == i)

/-- The entry with a serial, if it still exists. -/
def State.entryOf (s : State) (n : Nat) : Option Entry := s.roster.find? (·.serial == n)

/-- The entries BOUND on a line, in roster order. -/
def State.boundEntries (s : State) (l : Line) : List Entry := s.roster.filter (·.boundOn l)

/-- Is the entry with this serial still in the roster and BOUND on the line (R93)? -/
def State.memberBound (s : State) (l : Line) (n : Nat) : Bool :=
  s.roster.any fun e => e.serial == n && e.boundOn l

/-! ## The line operation in progress and the contenders (R124) -/

/-- Is the operation a poll? -/
def LineOp.isPoll (o : LineOp) : Bool :=
  match o.work with
  | .poll _ _ => true
  | _ => false

/-- Is the operation a transaction attempt? -/
def LineOp.isAttempt (o : LineOp) : Bool :=
  match o.work with
  | .attempt => true
  | _ => false

/-- Is the operation a slot operation of the census? -/
def LineOp.isSlot (o : LineOp) : Bool :=
  match o.work with
  | .slotOpening | .slotClaim | .slotBind _ _ _ _ | .slotHush _ _ _ _ => true
  | _ => false

/-- A slot operation of the line's census is in progress. -/
def LineState.slotInProgress (L : LineState) : Bool := L.op.any LineOp.isSlot

/-- A poll of the line's cycle is in progress. -/
def LineState.pollInProgress (L : LineState) : Bool := L.op.any LineOp.isPoll

/-- An attempt holds the line. -/
def LineState.attemptInFlight (L : LineState) : Bool := L.op.any LineOp.isAttempt

/-- The line's cycle is RUNNING. -/
def LineState.cycleRunning (L : LineState) : Bool := L.poll.any PollCycle.running

/-- A LINE_POWER(off) is open for the line (R130). -/
def LineState.offOpen (L : LineState) : Bool := L.openPower.any (·.2 == .off)

/-- Some remaining member of the line's cycle is BOUND on the line (R93). -/
def State.membersLeft (s : State) (l : Line) : Bool :=
  (s.line l).poll.any fun c => c.remaining.any (s.memberBound l)

/-- The transaction executor waits for its line (R110). -/
def State.waitsT (s : State) (l : Line) : Bool :=
  !(s.line l).queue.isEmpty && !(s.line l).attemptInFlight

/-- The poll scheduler waits for its line (R93). -/
def State.waitsP (s : State) (l : Line) : Bool :=
  (s.line l).cycleRunning && !(s.line l).pollInProgress && s.membersLeft l

/-- The census sequencer waits for its line (R59). -/
def State.waitsC (s : State) (l : Line) : Bool :=
  (s.line l).census.isSome && !(s.line l).slotInProgress

/-- The contenders, in order of priority (section 8.1). -/
inductive Contender where
  | executor | scheduler | sequencer
deriving DecidableEq, Repr

/-- Does the contender wait for the line? -/
def State.waits (s : State) (l : Line) : Contender → Bool
  | .executor => s.waitsT l
  | .scheduler => s.waitsP l
  | .sequencer => s.waitsC l

/-- A contender's passed-over count (R124). -/
def LineState.passed (L : LineState) : Contender → Nat
  | .executor => L.passedT
  | .scheduler => L.passedP
  | .sequencer => L.passedC

/-- The contender a grant goes to (R125): the highest priority among those waiting with a count of 4 or more, else the
highest priority among those waiting. -/
def State.chosen (s : State) (l : Line) : Option Contender :=
  let waiting := [Contender.executor, .scheduler, .sequencer].filter (s.waits l)
  match waiting.find? (fun c => Config.passedLimit ≤ (s.line l).passed c) with
  | some c => some c
  | none => waiting.head?

/-- Does the arbiter grant the line (R125): UP, no LINE_POWER(off) open, no operation in progress? -/
def LineState.grantable (L : LineState) : Bool :=
  L.power == .up && !L.offOpen && L.op.isNone

end Sys2Proof.Machine
end

