-- ==== Sys2Proof/Machine/Ops.lean ====
section
/-! DEFINITION. The operations every block uses: updates of a line and of an entry, the passing of time, joining the
report queue, refusing a request and closing one. -/

namespace Sys2Proof.Machine

/-- What a meaning answers. -/
abbrev Out := Host.Outcome State Fault Refusal

/-! ## Updates -/

/-- The state with one line engine replaced. -/
def State.setLine (s : State) (l : Line) (L : LineState) : State :=
  match l with
  | .A => { s with lineA := L }
  | .B => { s with lineB := L }

/-- The state with one line engine changed. -/
def State.modLine (s : State) (l : Line) (f : LineState → LineState) : State :=
  s.setLine l (f (s.line l))

/-- The state with the entry of one serial changed. -/
def State.updEntry (s : State) (n : Nat) (f : Entry → Entry) : State :=
  { s with roster := s.roster.map fun e => if e.serial = n then f e else e }

/-- The state with the entry of one identity changed. -/
def State.updNamed (s : State) (i : Ident) (f : Entry → Entry) : State :=
  { s with roster := s.roster.map fun e => if e.identity = i then f e else e }

/-- A 16-bit count increased by 1, saturating at 65535 (R142, R164). -/
def bump16 (c : BitVec 16) : BitVec 16 := if c = 0xFFFF then c else c + 1

/-- The clock carried to a timer's expiry when it stands short of it; unchanged when the expiry is due or past.
DESIGN CHOICE, unsafe (log entry 3): an expiry command brings its moment with it, and it may also come late. -/
def State.passTo (s : State) (expiry : Clock) : State :=
  { s with clock := s.clock + BitVec.ofNat 32 (timeLeft s.clock expiry) }

/-- One millisecond passes: the clock counts on, wrapping (R180). -/
def State.tick (s : State) : State := { s with clock := s.clock + 1 }

/-! ## The report queue (R161 to R164) -/

/-- A report joins the tail of the queue. -/
def State.push (s : State) (tag : Tag) (body : ReportBody) : State :=
  { s with reports := s.reports ++ [{ tag := tag, body := body, rateAfter := none }] }

/-- An event report is brought (R164): queued with dropped_before when the unreserved room is at least 3, otherwise
dropped and counted. -/
def State.pushEvent (s : State) (tag : Tag) (e : Event) : State :=
  if Config.eventRoom ≤ s.room then
    { s.push tag (.event s.dropped e) with dropped := 0 }
  else { s with dropped := bump16 s.dropped }

/-- Several line events, tag 0, each judged in turn for room (R164, R165). -/
def State.pushLineEvents (s : State) (es : List Event) : State :=
  es.foldl (fun s e => s.pushEvent 0 e) s

/-- The request is answered REFUSED with its tag, its kind byte and the reason (R166). -/
def State.refuse (s : State) (f : Frame) (r : Reason) : State := s.push f.tag (.refused f.kind r)

/-! ## Opening and closing long requests (R149, R150, R155) -/

/-- The open request holding a tag. -/
def State.request (s : State) (tag : Tag) : Option Req := s.table.find? (·.tag == tag)

/-- An admitted request is answered TAKEN and joins the table (R149, R150). -/
def State.take (s : State) (r : Req) : State :=
  { s.push r.tag (.taken r.kind) with table := s.table ++ [r] }

/-- The state of the open request holding a tag is changed. -/
def State.setReqState (s : State) (tag : Tag) (f : ReqState → ReqState) : State :=
  { s with table := s.table.map fun r => if r.tag = tag then { r with state := f r.state } else r }

/-- The STOP closes at the moment the request table holds no entry (R155). -/
def State.settleStop (s : State) : State :=
  match s.stop with
  | some r =>
    if s.table.isEmpty then { s.push r.tag (.closed .done (.stop r.openCount)) with stop := none }
    else s
  | none => s

/-- A close claim (R149): the request leaves the table and its CLOSED takes the slot reserved for it; when it was the
last, an open STOP closes right behind it (R155). A claim for a tag that no entry holds is ignored. -/
def State.close (s : State) (tag : Tag) (o : CloseOutcome) (r : CloseResult) : State :=
  if s.table.any (·.tag == tag) then
    (({ s with table := s.table.filter (·.tag != tag) }).push tag (.closed o r)).settleStop
  else s

/-- The FORGET with this tag closes DONE with a detail (section 7.6). -/
def State.closeForget (s : State) (tag : Tag) (i : Ident) (d : ForgetDetail) : State :=
  s.close tag .done (.forget i d)

end Sys2Proof.Machine
end

