-- ==== Sys2Proof/Machine/Allocator.lean ====
section
/-! DEFINITION. The address allocator of each line: free pool and quarantine list (chapter 03). -/

namespace Sys2Proof.Machine

/-- Addresses go to the tail of a line's pool, in the order given (R45). -/
def State.giveBack (s : State) (l : Line) (addrs : List Address) : State :=
  s.modLine l fun L => { L with pool := L.pool ++ addrs }

/-- The head of a line's pool is taken (R44). -/
def State.dropHead (s : State) (l : Line) : State :=
  s.modLine l fun L => { L with pool := L.pool.tail }

/-- Does a record stand before another: sooner expiry, or the same and an earlier entry into quarantine (R46)? -/
def QuarantineRec.before (now : Clock) (x y : QuarantineRec) : Bool :=
  timeLeft now x.expiry < timeLeft now y.expiry ||
    (timeLeft now x.expiry == timeLeft now y.expiry && x.seq < y.seq)

/-- A record placed by its expiry (R46, R47). -/
def insertRecord (now : Clock) (r : QuarantineRec) : List QuarantineRec → List QuarantineRec
  | [] => [r]
  | x :: xs => if r.before now x then r :: x :: xs else x :: insertRecord now r xs

/-- A list of records put in order (R48). -/
def orderRecords (now : Clock) (rs : List QuarantineRec) : List QuarantineRec :=
  rs.foldr (insertRecord now) []

/-- An address enters quarantine (R47): hold is the lease plus quarantine_margin as it stands, expiry the clock plus
hold. -/
def State.quarantineAddress (s : State) (l : Line) (a : Address) (lease : Nat)
    (origin : Option Ident) : State :=
  let hold := lease + s.params.quarantineMargin
  s.modLine l fun L =>
    { L with
      quarantine := insertRecord s.clock
        { address := a, hold := hold, expiry := s.clock + BitVec.ofNat 32 hold, origin := origin,
          seq := L.nextSeq } L.quarantine
      nextSeq := L.nextSeq + 1 }

/-- A held address leaves quarantine early and goes to the pool tail (R50). -/
def State.releaseEarly (s : State) (l : Line) (a : Address) : State :=
  s.modLine l fun L =>
    { L with quarantine := L.quarantine.filter (·.address != a), pool := L.pool ++ [a] }

/-- A held address, if there is one, leaves quarantine early. -/
def State.releaseHeld (s : State) (l : Line) : Option Address → State
  | some a => s.releaseEarly l a
  | none => s

/-- The origin of the record holding an address becomes none (R53). -/
def State.clearOrigin (s : State) (l : Line) (a : Address) : State :=
  s.modLine l fun L =>
    { L with quarantine := L.quarantine.map fun r =>
        if r.address = a then { r with origin := none } else r }

/-- A record extended at a ROLL: the later of its expiry and the moment plus its hold (R48). -/
def QuarantineRec.extend (now : Clock) (r : QuarantineRec) : QuarantineRec :=
  if timeLeft now r.expiry < r.hold then { r with expiry := now + BitVec.ofNat 32 r.hold } else r

/-- Every record of the line is extended at the last bit of a ROLL and the list put in order (R48). -/
def State.extendQuarantine (s : State) (l : Line) : State :=
  s.modLine l fun L =>
    { L with quarantine := orderRecords s.clock (L.quarantine.map (·.extend s.clock)) }

/-- The expiry claim on the roster (R32): a LOST entry of the line that still holds the address clears it. That the
line is looked at as well is DEDUCED, safe (log entry 23). -/
def State.expiryClaim (s : State) (l : Line) (r : QuarantineRec) : State :=
  match r.origin with
  | some i =>
    s.updNamed i fun e =>
      if e.line = l ∧ e.standing = .lost (some r.address) then { e with standing := .lost none }
      else e
  | none => s

/-- The records of the line that are due leave quarantine in list order, their addresses go to the pool tail, and
each origin entry clears its held address (R49). -/
def State.expireDue (s : State) (l : Line) : State :=
  let due := (s.line l).quarantine.filter fun r => timeLeft s.clock r.expiry == 0
  let s := s.modLine l fun L =>
    { L with
      quarantine := L.quarantine.filter fun r => timeLeft s.clock r.expiry != 0
      pool := L.pool ++ due.map (·.address) }
  due.foldl (fun s r => s.expiryClaim l r) s

/-- An address placed in ascending order. -/
def insertAddress (a : Address) : List Address → List Address
  | [] => [a]
  | x :: xs => if a ≤ x then a :: x :: xs else x :: insertAddress a xs

/-- Addresses in ascending order. -/
def ascending (as_ : List Address) : List Address := as_.foldr insertAddress []

/-- Every quarantine record of the line is dropped and its address goes to the pool tail, ascending (R51). -/
def State.emptyQuarantine (s : State) (l : Line) : State :=
  s.modLine l fun L =>
    { L with pool := L.pool ++ ascending (L.quarantine.map (·.address)), quarantine := [] }

/-- The moment at which the soonest record of the line is due: the least time remaining. -/
def soonest (now : Clock) : List Clock → Option Clock
  | [] => none
  | x :: xs =>
    match soonest now xs with
    | none => some x
    | some y => if timeLeft now x ≤ timeLeft now y then some x else some y

/-- QUARANTINE_EXPIRY: a quarantine record's expiry is reached (R49). Without a record there is nothing to expire. -/
def execQuarantineExpiry (l : Line) (s : State) : Out :=
  match soonest s.clock ((s.line l).quarantine.map (·.expiry)) with
  | some t => .next ((s.passTo t).expireDue l)
  | none => .next s

end Sys2Proof.Machine
end

