-- ==== Sys2Proof/Machine/HushList.lean ====
section
/-! DEFINITION. The hush list (chapter 05). -/

namespace Sys2Proof.Machine

/-- Does a record with the same identity, reason and line stand in the list (R83)? -/
def hushMatch (hs : List HushRec) (i : Ident) (l : Line) (r : HushReason) : Bool :=
  hs.any fun h => h.identity == i && h.line == l && h.reason == r

/-- The list with the record bearing an identity taken out (R86). -/
def hushWithout (hs : List HushRec) (i : Ident) : List HushRec := hs.filter (·.identity != i)

/-- A record entered or refreshed (R83): an old record of its identity is taken out of its place; a new record entering
a full list takes the place of the head (R84); the record is placed at the tail. -/
def hushEnter (hs : List HushRec) (h : HushRec) : List HushRec :=
  if hs.any (·.identity == h.identity) then hushWithout hs h.identity ++ [h]
  else if hs.length < Config.hushMax then hs ++ [h]
  else hs.tail ++ [h]

/-- The hush claim (R83), with hush_s as the HUSH carried it; its expiry is the clock at the HUSH plus hush_s seconds. -/
def State.hushClaim (s : State) (i : Ident) (l : Line) (r : HushReason) (hushS : Nat) : State :=
  let expiry := s.clock + BitVec.ofNat 32 (hushS * 1000)
  { s with hush := hushEnter s.hush { identity := i, line := l, reason := r, expiry := expiry } }

/-- The removal claim of a bind decision (R86). -/
def State.hushRemove (s : State) (i : Ident) : State := { s with hush := hushWithout s.hush i }

/-- The records that are due leave the list together (R85). -/
def State.hushExpireDue (s : State) : State :=
  { s with hush := s.hush.filter fun h => timeLeft s.clock h.expiry != 0 }

/-- HUSH_EXPIRY: a hush record's expiry is reached (R85). Without a record there is nothing to expire. -/
def execHushExpiry (s : State) : Out :=
  match soonest s.clock (s.hush.map (·.expiry)) with
  | some t => .next (s.passTo t).hushExpireDue
  | none => .next s

end Sys2Proof.Machine
end

