-- ==== Sys2Proof/WellFormed.lean ====
section
/-! DEFINITION. When a command is well formed: a request's body has the length and the fields that the kind table
gives (R145, R146, R159), and an unknown kind is none of the fifteen request kinds and fits a frame (R138). -/

namespace Sys2Proof

/-- The fifteen request kind codes (R146). -/
def requestKinds : List Byte :=
  [0x01, 0x02, 0x03, 0x04, 0x05, 0x06, 0x07, 0x08, 0x09, 0x10, 0x11, 0x12, 0x13, 0x14, 0x15]

/-- Byte `i` of a body as a number, 0 past its end. -/
def bodyByte (body : List Byte) (i : Nat) : Nat := (body.getD i 0).toNat

/-- Is a body well formed for a kind: its length fits the kind table and no field takes a value the table marks as
malformed (R145, R146, R159)? A kind that is no request kind has no well-formed body. -/
def bodyWellFormed (kind : Byte) (body : List Byte) : Bool :=
  let at_ := bodyByte body
  if kind = 0x01 then body.length == 2 && 1 ≤ at_ 1 && at_ 1 ≤ 8
  else if kind = 0x02 then body.length == 8
  else if kind = 0x03 then body.length == 1 && at_ 0 ≤ 1
  else if kind = 0x04 then body.length == 0
  else if kind = 0x05 then body.length == 0
  else if kind = 0x06 then body.length == 1
  else if kind = 0x07 then body.length == 3
  else if kind = 0x08 then body.length == 1
  else if kind = 0x09 then body.length == 0
  else if kind = 0x10 then body.length == 13 && at_ 0 ≤ 1 && at_ 1 ≤ 1
  else if kind = 0x11 then
    body.length == 11 && at_ 8 * 256 + at_ 9 ≤ 4095 && 1 ≤ at_ 10 && at_ 10 ≤ 32
  else if kind = 0x12 then
    11 ≤ body.length && body.length ≤ 42 && at_ 8 * 256 + at_ 9 ≤ 4095
  else if kind = 0x13 then body.length == 8
  else if kind = 0x14 then body.length == 2 && at_ 0 ≤ 1 && at_ 1 ≤ 1
  else if kind = 0x15 then body.length == 0
  else false

/-- Is a command well formed? -/
def Instr.wellFormed : Instr → Bool
  | .getRoster _ b => bodyWellFormed 0x01 b
  | .getEntry _ b => bodyWellFormed 0x02 b
  | .getLine _ b => bodyWellFormed 0x03 b
  | .getHeld _ b => bodyWellFormed 0x04 b
  | .getLink _ b => bodyWellFormed 0x05 b
  | .getParam _ b => bodyWellFormed 0x06 b
  | .setParam _ b => bodyWellFormed 0x07 b
  | .cancel _ b => bodyWellFormed 0x08 b
  | .reset _ b => bodyWellFormed 0x09 b
  | .census _ b => bodyWellFormed 0x10 b
  | .readNode _ b => bodyWellFormed 0x11 b
  | .writeNode _ b => bodyWellFormed 0x12 b
  | .forget _ b => bodyWellFormed 0x13 b
  | .linePower _ b => bodyWellFormed 0x14 b
  | .stop _ b => bodyWellFormed 0x15 b
  | .unknownKind k _ b => !requestKinds.contains k && b.length ≤ 250
  | .powerOnReset => true
  | .rxByte _ => true
  | .rxGapTimeout => true
  | .reportSent => true
  | .settlingExpiry _ => true
  | .overcurrentTrip _ => true
  | .lineGrant _ => true
  | .callSent _ => true
  | .slotWindow _ _ => true
  | .claimWindow _ _ => true
  | .bindOutcome _ _ => true
  | .hushWindow _ _ => true
  | .pollWindow _ _ => true
  | .pollDue _ => true
  | .attemptWindow _ _ => true
  | .releaseWindow _ _ => true
  | .quarantineExpiry _ => true
  | .hushExpiry => true

end Sys2Proof
end

