-- ==== Sys2Proof/Machine/Operands.lean ====
section
/-! DEFINITION. The operands of the commands: the requests that frames spell, with the bytes that spell them (R145,
R146, R159), and what an answer window is classed as (R4). -/

namespace Sys2Proof.Machine

/-! ## Numbers in bytes, most significant byte first (00, Byte order) -/

/-- The number that bytes spell, most significant first. -/
def number (bs : List Byte) : Nat := bs.foldl (fun n b => n * 256 + b.toNat) 0

/-- A number in `k` bytes, most significant first. -/
def bytesOf : Nat → Nat → List Byte
  | 0, _ => []
  | k + 1, n => bytesOf k (n / 256) ++ [BitVec.ofNat 8 n]

/-! ## Lines, policies, directions -/

/-- The line a code names: 0 for A, 1 for B (R146). -/
def lineOfCode (n : Nat) : Line := if n = 0 then .A else .B

/-- The code of a line (R146). -/
def lineCode : Line → Nat
  | .A => 0
  | .B => 1

/-- The policy a code names: 0 for FIXED, 1 for ADAPTIVE (R146). -/
def policyOfCode (n : Nat) : Policy := if n = 0 then .fixed else .adaptive

/-- The code of a policy (R146). -/
def policyCode : Policy → Nat
  | .fixed => 0
  | .adaptive => 1

/-- The direction a code names: 0 for off, 1 for on (R146). -/
def directionOfCode (n : Nat) : Direction := if n = 0 then .off else .on

/-- The code of a direction (R146). -/
def directionCode : Direction → Nat
  | .off => 0
  | .on => 1

/-- The kind code of a long request (R146). -/
def LongKind.code : LongKind → Byte
  | .census => 0x10
  | .readNode => 0x11
  | .writeNode => 0x12
  | .forget => 0x13
  | .linePower => 0x14
  | .stop => 0x15

/-! ## Requests (R146, R159) -/

/-- A request by its fields. -/
inductive Request where
  | getRoster (start count : Nat)
  | getEntry (identity : Ident)
  | getLine (line : Line)
  | getHeld
  | getLink
  | getParam (id : Nat)
  | setParam (id value : Nat)
  | cancel (target : Tag)
  | reset
  | census (line : Line) (policy : Policy) (exponent budget scopeLength : Nat)
      (scopeBits : BitVec 64)
  | readNode (target : Ident) (offset length : Nat)
  | writeNode (target : Ident) (offset : Nat) (bytes : List Byte)
  | forget (target : Ident)
  | linePower (line : Line) (direction : Direction)
  | stop
deriving DecidableEq, Repr

/-- The kind byte of a request (R146). -/
def Request.kind : Request → Byte
  | .getRoster _ _ => 0x01
  | .getEntry _ => 0x02
  | .getLine _ => 0x03
  | .getHeld => 0x04
  | .getLink => 0x05
  | .getParam _ => 0x06
  | .setParam _ _ => 0x07
  | .cancel _ => 0x08
  | .reset => 0x09
  | .census _ _ _ _ _ _ => 0x10
  | .readNode _ _ _ => 0x11
  | .writeNode _ _ _ => 0x12
  | .forget _ => 0x13
  | .linePower _ _ => 0x14
  | .stop => 0x15

/-- The body bytes of a request (R146, R159). -/
def Request.body : Request → List Byte
  | .getRoster start count => bytesOf 1 start ++ bytesOf 1 count
  | .getEntry i => bytesOf 8 i.toNat
  | .getLine l => bytesOf 1 (lineCode l)
  | .getHeld => []
  | .getLink => []
  | .getParam id => bytesOf 1 id
  | .setParam id value => bytesOf 1 id ++ bytesOf 2 value
  | .cancel t => [t]
  | .reset => []
  | .census l p e b n bits =>
    bytesOf 1 (lineCode l) ++ bytesOf 1 (policyCode p) ++ bytesOf 1 e ++ bytesOf 1 b ++
      bytesOf 1 n ++ bytesOf 8 bits.toNat
  | .readNode i off len => bytesOf 8 i.toNat ++ bytesOf 2 off ++ bytesOf 1 len
  | .writeNode i off bs => bytesOf 8 i.toNat ++ bytesOf 2 off ++ bs
  | .forget i => bytesOf 8 i.toNat
  | .linePower l d => bytesOf 1 (lineCode l) ++ bytesOf 1 (directionCode d)
  | .stop => []

/-- The fields of a request within the values its body can carry and the kind table allows (R146). -/
def Request.inRange : Request → Bool
  | .getRoster start count => start ≤ 255 && 1 ≤ count && count ≤ 8
  | .getParam id => id ≤ 255
  | .setParam id value => id ≤ 255 && value ≤ 65535
  | .census _ _ e b n _ => e ≤ 255 && b ≤ 255 && n ≤ 255
  | .readNode _ off len => off ≤ 4095 && 1 ≤ len && len ≤ 32
  | .writeNode _ off bs => off ≤ 4095 && 1 ≤ bs.length && bs.length ≤ 32
  | _ => true

/-- What a frame's kind and body are read as: a kind that is no request kind, a body not well formed for its kind, or
a request (R145). -/
inductive Reading where
  | unknownKind
  | malformed
  | request (r : Request)
deriving DecidableEq, Repr

/-- The identity in the 8 bytes of a body from position `i`. -/
def identAt (body : List Byte) (i : Nat) : Ident := BitVec.ofNat 64 (number ((body.drop i).take 8))

/-- The fields of a well-formed body, by kind (R146, R159). -/
def readBody (kind : Byte) (body : List Byte) : Request :=
  let at_ := bodyByte body
  if kind = 0x01 then .getRoster (at_ 0) (at_ 1)
  else if kind = 0x02 then .getEntry (identAt body 0)
  else if kind = 0x03 then .getLine (lineOfCode (at_ 0))
  else if kind = 0x04 then .getHeld
  else if kind = 0x05 then .getLink
  else if kind = 0x06 then .getParam (at_ 0)
  else if kind = 0x07 then .setParam (at_ 0) (at_ 1 * 256 + at_ 2)
  else if kind = 0x08 then .cancel (body.getD 0 0)
  else if kind = 0x09 then .reset
  else if kind = 0x10 then
    .census (lineOfCode (at_ 0)) (policyOfCode (at_ 1)) (at_ 2) (at_ 3) (at_ 4) (identAt body 5)
  else if kind = 0x11 then .readNode (identAt body 0) (at_ 8 * 256 + at_ 9) (at_ 10)
  else if kind = 0x12 then .writeNode (identAt body 0) (at_ 8 * 256 + at_ 9) (body.drop 10)
  else if kind = 0x13 then .forget (identAt body 0)
  else if kind = 0x14 then .linePower (lineOfCode (at_ 0)) (directionOfCode (at_ 1))
  else .stop

/-- A frame's kind and body judged, body checks before every other check (R145). -/
def readRequest (kind : Byte) (body : List Byte) : Reading :=
  if requestKinds.contains kind then
    if bodyWellFormed kind body then .request (readBody kind body) else .malformed
  else .unknownKind

/-! ## Answer windows (R4) -/

/-- The check word of an identity: its low 16 bits (section 1.2). -/
def checkWord (i : Ident) : CheckWord := i.setWidth 16

/-- Is the identity one a node can bear: neither all zeros nor all ones (00, Numbers)? -/
def validIdentity (i : Ident) : Bool := i != 0 && i != BitVec.allOnes 64

/-- Does the call admit the answer, with its fields well formed (R4)? -/
def Call.admits : Call → Answer → Bool
  | .roll _ _ _, .stub _ => true
  | .step, .stub _ => true
  | .claim _, .identity _ m => m ≤ 4096
  | .bind _ _ _, .ack _ => true
  | .hush _ _, .ack _ => true
  | .poll _, .status _ _ => true
  | .read _ _ n, .data _ bs => bs.length == n
  | .read _ _ _, .refusal _ c => c != .unlisted
  | .write _ _ _, .ack _ => true
  | .write _ _ _, .refusal _ c => c != .unlisted
  | .release _ _, .ack _ => true
  | _, _ => false

/-- The class of an answer window (R4). -/
inductive WindowClass where
  | silence
  | garbled
  | valid (a : Answer)
deriving DecidableEq, Repr

/-- A window classed: silence when no energy was heard inside the 32 bit-times; valid when exactly one answer was heard,
begun inside them, ended within the listening limit, with a correct check, a kind the call admits and nothing
besides; garbled otherwise (R4). -/
def Call.classify (c : Call) : Heard → WindowClass
  | .silence => .silence
  | .energy hs stray =>
    if !stray && hs.all (!·.inWindow) then .silence
    else
      match hs, stray with
      | [h], false =>
        if h.checkOk && h.inWindow && h.inLimit && c.admits h.answer then .valid h.answer
        else .garbled
      | _, _ => .garbled

end Sys2Proof.Machine
end

