-- ==== Sys2Proof/Machine/Transactions.lean ====
section
/-! DEFINITION. The transaction queue of each line: closing, purging and halting its records (chapter 07). -/

namespace Sys2Proof.Machine

/-- The outcome a halt mark gives (R75, R116). -/
def Halt.outcome : Halt → CloseOutcome
  | .cancel => .cancelled
  | .stop => .stopped

/-- The stored field of a WRITE that was not acknowledged (R114): NO when no attempt could have stored the data,
UNKNOWN when some attempt was unheard or is cut short in flight. -/
def Txn.stored (r : Txn) : Stored := if r.unheard = 0 ∧ r.inFlight = false then .no else .unknown

/-- A record, already out of its queue, closes: the target's pending count falls by 1 (R36, R108) and a READ or WRITE
queues its CLOSED (R114). A RELEASE makes no CLOSED of its own (R119, R122). -/
def State.closeTxn (s : State) (r : Txn) (o : CloseOutcome) (bytes : Option (List Byte))
    (code : Option RefusalCode) : State :=
  let s := s.updNamed r.target fun e => { e with pendingTx := e.pendingTx - 1 }
  match r.work with
  | .read _ _ => s.close r.tag o (.read r.attempts bytes code)
  | .write _ _ => s.close r.tag o (.write r.attempts (if o = .done then .yes else r.stored) code)
  | .release => s

/-- The line's queue replaced. -/
def State.setQueue (s : State) (l : Line) (q : List Txn) : State :=
  s.modLine l fun L => { L with queue := q }

/-- Records close in order with one outcome. -/
def State.closeTxns (s : State) (rs : List Txn) (o : CloseOutcome) : State :=
  rs.foldl (fun s r => s.closeTxn r o none none) s

/-- The purge of every record naming an identity: each READ or WRITE closes TARGET_LOST in queue order and a RELEASE is
removed; an attempt in flight runs on, its record gone (R115, R121). -/
def State.purge (s : State) (l : Line) (i : Ident) : State :=
  let q := (s.line l).queue
  (s.setQueue l (q.filter (·.target != i))).closeTxns (q.filter (·.target == i)) .targetLost

/-- A halt claim on a READ or WRITE (R116): in flight it is marked, keeping its first mark, and goes to HALTING;
queued or between attempts it is removed and closes at once. -/
def State.haltTxn (s : State) (l : Line) (tag : Tag) (m : Halt) : State :=
  match (s.line l).queue.find? (·.tag == tag) with
  | none => s
  | some r =>
    if r.inFlight then
      (s.setQueue l ((s.line l).queue.map fun x =>
        if x.tag = tag then { x with halt := some (x.halt.getD m) } else x)).setReqState tag
          fun _ => .halting
    else (s.setQueue l ((s.line l).queue.filter (·.tag != tag))).closeTxn r m.outcome none none

/-- The RELEASE of the FORGET with this tag is still queued: its first attempt has not been granted (R120). -/
def State.releaseQueued (s : State) (l : Line) (tag : Tag) : Bool :=
  (s.line l).queue.any fun r => r.tag == tag && r.attempts == 0

/-- A cancel or STOP of a FORGET whose RELEASE is queued (R33, R120): the RELEASE is removed, forgetting cleared, and
the FORGET closes. A running RELEASE is not changed (R121). -/
def State.haltForget (s : State) (l : Line) (tag : Tag) (i : Ident) (m : Halt) : State :=
  if s.releaseQueued l tag then
    ((s.setQueue l ((s.line l).queue.filter (·.tag != tag))).updNamed i fun e =>
      { e with forgetting := none, pendingTx := e.pendingTx - 1 }).close tag m.outcome
        (.forget i .none)
  else s

/-- What a record's attempt came to (R111, R119). -/
inductive Judgement where
  | finished (bytes : Option (List Byte))
  | refused (code : RefusalCode)
  | busy
  | unheard
deriving DecidableEq, Repr

/-- Does an answer carry the check word of an identity? STUB and IDENTITY carry none (section 1.2). -/
def carriesCheck (a : Answer) (i : Ident) : Bool :=
  match a with
  | .ack c | .status c _ | .data c _ | .refusal c _ => c == checkWord i
  | .stub _ | .identity _ _ => false

/-- The judgement of an attempt against its target (R111; R119 for a RELEASE, whose only admitted answer is ACK). -/
def judge (w : WindowClass) (i : Ident) : Judgement :=
  match w with
  | .valid a =>
    if carriesCheck a i then
      match a with
      | .data _ bs => .finished (some bs)
      | .refusal _ .busy => .busy
      | .refusal _ c => .refused c
      | _ => .finished none
    else .unheard
  | _ => .unheard

/-- The window held a valid answer with another check word (R94, R111, R119, R135). -/
def mismatch (w : WindowClass) (i : Ident) : Bool :=
  match w with
  | .valid a => !carriesCheck a i
  | _ => false

end Sys2Proof.Machine
end

