-- ==== Sys2Proof/Machine/Roster.lean ====
section
/-! DEFINITION. The claims on the roster (chapter 02): answers and misses, loss, the find and the bind outcome,
removal, the miss_limit sweep and the line-down claim. Each is taken whole (R20). -/

namespace Sys2Proof.Machine

/-- An entry is removed (R35): it leaves the roster and the index, the entries behind it close up, and the record of
a held address loses its origin (R53). -/
def State.removeEntry (s : State) (e : Entry) : State :=
  let s := { s with roster := s.roster.filter (·.serial != e.serial) }
  match e.held with
  | some a => s.clearOrigin e.line a
  | none => s

/-- A BOUND entry is counted out (R29): its address goes into quarantine for its lease and margin and its transactions
are purged. Without forgetting it goes LOST with the address held; with forgetting it is removed, the record's origin
none, and its FORGET closes DONE with detail WENT_LOST. An entry that is not BOUND stays as it is. -/
def State.countOut (s : State) (e : Entry) : State :=
  match e.standing with
  | .bound a lease =>
    match e.forgetting with
    | none =>
      (((s.quarantineAddress e.line a lease (some e.identity)).purge e.line e.identity).updEntry
        e.serial fun x => { x with standing := .lost (some a), misses := 0, pendingTx := 0 })
    | some tag =>
      (((s.quarantineAddress e.line a lease none).purge e.line e.identity).removeEntry e).closeForget
        tag e.identity .wentLost
  | _ => s

/-- The NODE_LOST of an entry counted out through misses (R29, R97); none for a forgetting entry. -/
def Entry.lossEvents (e : Entry) (c : LossCause) : List Event :=
  match e.standing, e.forgetting with
  | .bound a _, none => [.nodeLost e.identity e.line a e.lastSeen c]
  | _, _ => []

/-- The answered claim (R28): misses 0, last_seen the clock, and for a STATUS the attention flag heard. Ignored for an
entry that is gone or not BOUND. The entry is told by its serial: DEDUCED, unsafe (log entry 10). -/
def State.answered (s : State) (n : Nat) (flag : Option Bool) : State :=
  s.updEntry n fun e =>
    if e.standing.isBound then
      { e with misses := 0, lastSeen := s.clock, attention := flag.getD e.attention }
    else e

/-- The miss claim (R28): misses rise by 1 and are judged against miss_limit as it stands; at the limit the entry is
counted out (R29) and its NODE_LOST queued. Ignored for an entry that is gone or not BOUND. -/
def State.miss (s : State) (n : Nat) (c : LossCause) : State :=
  match s.entryOf n with
  | some e =>
    if e.standing.isBound then
      if s.params.missLimit ≤ e.misses + 1 then (s.countOut e).pushLineEvents (e.lossEvents c)
      else s.updEntry n fun x => { x with misses := x.misses + 1 }
    else s
  | none => s

/-- The sweep of a lowered miss_limit (R30, R176): the BOUND entries at or above it are counted out in roster order,
and their NODE_LOST events follow every CLOSED of the sweep (R163). The order of those CLOSED: DESIGN CHOICE, unsafe
(log entry 11). -/
def State.limitSweep (s : State) (limit : Nat) : State :=
  let out := s.roster.filter fun e => e.standing.isBound && limit ≤ e.misses
  (out.foldl State.countOut s).pushLineEvents (out.flatMap (·.lossEvents .limit))

/-! ## The find (R21 to R26) -/

/-- What the roster hands back to a find (R63): BIND an entry with an address and a lease, or HUSH with a reason; and
the event of the decision. -/
inductive FindAction where
  | bind (serial : Nat) (address : Address) (lease : Nat) (event : FindEvent)
  | hush (reason : HushReason) (event : Option FindEvent)
deriving DecidableEq, Repr

/-- A find of a new identity with room in the roster (R22). -/
def State.createEntry (s : State) (l : Line) (i : Ident) (mem : Nat) : State × FindAction :=
  let entry (st : Standing) : Entry :=
    { serial := s.nextSerial, identity := i, line := l, standing := st, misses := 0,
      attention := false, memorySize := mem, returns := 0, lastSeen := s.clock, forgetting := none,
      pendingTx := 0 }
  let add (s : State) (st : Standing) : State :=
    { s with roster := s.roster ++ [entry st], nextSerial := s.nextSerial + 1 }
  match (s.line l).pool with
  | a :: _ =>
    ((add (s.dropHead l) (.bound a s.params.nodeLease)).hushRemove i,
      .bind s.nextSerial a s.params.nodeLease (.nodeFound i l a mem))
  | [] => (add s .unbound, .hush .noAddress (some (.noAddress i l)))

/-- The last part of a rebind or move (R23, R24), the address given up already back in its pool: the entry takes the
line of the find and the head of its pool; with the pool empty it becomes UNBOUND and its node is hushed. -/
def State.bindEntry (s : State) (e : Entry) (l : Line) (mem : Nat)
    (event : Address → Nat → FindEvent) : State × FindAction :=
  match (s.line l).pool with
  | a :: _ =>
    let returns := min 255 (e.returns + 1)
    (((s.dropHead l).updEntry e.serial fun x =>
      { x with line := l, standing := .bound a s.params.nodeLease, misses := 0, returns := returns,
               memorySize := mem, lastSeen := s.clock }).hushRemove e.identity,
      .bind e.serial a s.params.nodeLease (event a returns))
  | [] =>
    (s.updEntry e.serial fun x =>
      { x with line := l, standing := .unbound, memorySize := mem, lastSeen := s.clock },
      .hush .noAddress (some (.noAddress e.identity l)))

/-- A forgotten node found on its own line (R26): the address goes to the pool tail, the transactions naming the entry
leave the queue, the entry is removed and its FORGET closes DONE with detail FOUND. -/
def State.forgottenFound (s : State) (e : Entry) (a : Address) (tag : Tag) : State :=
  (((s.giveBack e.line [a]).purge e.line e.identity).removeEntry e).closeForget tag e.identity
    .found

/-- The find claim (R21). -/
def State.find (s : State) (l : Line) (i : Ident) (mem : Nat) : State × FindAction :=
  match s.lookup i with
  | none =>
    if s.roster.length < Config.rosterMax then s.createEntry l i mem
    else (s, .hush .rosterFull (some (.rosterFull i l)))
  | some e =>
    match e.standing with
    | .bound a _ =>
      if e.line = l then
        match e.forgetting with
        | some tag => (s.forgottenFound e a tag, .hush .forgotten none)
        | none => (s.giveBack l [a]).bindEntry e l mem (.nodeReturned i l)
      else (s, .hush .clash (some (.identityClash i l e.line a)))
    | _ =>
      let s := s.releaseHeld e.line e.held
      if e.line = l then s.bindEntry e l mem (.nodeReturned i l)
      else s.bindEntry e l mem (.nodeMoved i e.line l)

/-- The bind outcome claim (R27): confirmed, last_seen is the clock at the ACK; unconfirmed, the entry is counted out
without a NODE_LOST. A forgetting entry is removed so: DEDUCED, unsafe (log entry 18). -/
def State.bindOutcome (s : State) (n : Nat) (confirmed : Bool) : State :=
  match s.entryOf n with
  | some e =>
    if e.standing.isBound then
      if confirmed then s.updEntry n fun x => { x with lastSeen := s.clock } else s.countOut e
    else s
  | none => s

/-! ## Removal at the end of a RELEASE (R35) -/

/-- The removal claim: the address goes to the pool tail when the RELEASE was acknowledged, else into quarantine with
origin none; the entry is removed and its FORGET closes DONE. Ignored when the entry is no longer BOUND. -/
def State.removal (s : State) (i : Ident) (tag : Tag) (acknowledged : Bool) : State :=
  match s.lookup i with
  | some e =>
    match e.standing with
    | .bound a lease =>
      if acknowledged then
        ((s.giveBack e.line [a]).removeEntry e).closeForget tag i .released
      else
        ((s.quarantineAddress e.line a lease none).removeEntry e).closeForget tag i .unconfirmed
    | _ => s
  | none => s

/-! ## The line-down claim (R31, R51) -/

/-- One BOUND entry of a line that goes down: its address goes to the pool tail; it goes LOST without a held address,
or, forgetting, it is removed and its FORGET closes DONE with detail UNPOWERED. -/
def State.powerLost (s : State) (e : Entry) : State :=
  match e.standing with
  | .bound a _ =>
    match e.forgetting with
    | none =>
      (s.giveBack e.line [a]).updEntry e.serial fun x =>
        { x with standing := .lost none, misses := 0, pendingTx := 0 }
    | some tag =>
      ((s.giveBack e.line [a]).removeEntry e).closeForget tag e.identity .unpowered
  | _ => s

/-- Every LOST entry of the line has its held address cleared (R31, R51). -/
def State.clearHeld (s : State) (l : Line) : State :=
  { s with roster := s.roster.map fun e =>
      if e.line = l ∧ e.held.isSome then { e with standing := .lost none } else e }

/-- The roster's line-down claim with the allocator's part (R31, R51). The lost count is `boundEntries.length` before
it. -/
def State.rosterDown (s : State) (l : Line) : State :=
  (((s.boundEntries l).foldl State.powerLost s).clearHeld l).emptyQuarantine l

end Sys2Proof.Machine
end

