-- ==== Sys2Proof/Machine/Census.lean ====
section
/-! DEFINITION. The census sequencer of each line (chapter 04): rounds, slots, the next exponent, closing and
halting. -/

namespace Sys2Proof.Machine

/-- A number brought into lo..hi. -/
def clamp (lo hi n : Nat) : Nat := if n < lo then lo else if hi < n then hi else n

/-- An exponent clamped into exp_min..exp_max as they stand (R60, R67). -/
def Params.clampExp (p : Params) (e : Nat) : Nat := clamp p.expMin p.expMax e

/-- A fresh census context (R57). -/
def Census.fresh (tag : Tag) (policy : Policy) (exponent budget scopeLength : Nat)
    (scopeBits : BitVec 64) : Census :=
  { tag := tag, policy := policy, exponent := exponent,
    budget := if budget = 0 then Config.budgetForZero else budget,
    scopeLength := scopeLength, scopeBits := scopeBits, roundNumber := 0, slotIndex := 0,
    emptySlots := 0, singleSlots := 0, collidedSlots := 0, spoiledSlots := 0, boundNodes := 0,
    totals := { rounds := 0, slots := 0, boundNew := 0, returned := 0, moved := 0, clashes := 0,
                rosterFull := 0, noAddress := 0, spoiled := 0, bindUnconfirmed := 0 },
    halt := none }

/-- The first `n` bits of a scope prefix, the bits after them 0: only they take part in the census (R56). -/
def scopePart (n : Nat) (bits : BitVec 64) : BitVec 64 := (bits >>> (64 - n)) <<< (64 - n)

/-- The line's census context changed, if it has one. -/
def State.modCensus (s : State) (l : Line) (f : Census → Census) : State :=
  s.modLine l fun L => { L with census := L.census.map f }

/-- The census of a line closes (R74): its context is removed and its CLOSED carries the totals as they stand. -/
def State.closeCensus (s : State) (l : Line) (o : CloseOutcome) : State :=
  match (s.line l).census with
  | some c => (s.modLine l fun L => { L with census := none }).close c.tag o (.census c.totals)
  | none => s

/-- A halt claim on the census of a line (R71, R72): a mark already set is kept; with a slot operation in progress the
mark is set and the request goes to HALTING; otherwise the census closes at once. -/
def State.haltCensus (s : State) (l : Line) (m : Halt) : State :=
  match (s.line l).census with
  | some c =>
    if c.halt.isSome then s
    else if (s.line l).slotInProgress then
      (s.modCensus l fun c => { c with halt := some m }).setReqState c.tag fun _ => .halting
    else s.closeCensus l m.outcome
  | none => s

/-- The exponent that follows a round (R68, R69), brought into 0..12 and not clamped into the limits (R67). A spoiled
slot counts as a collision. -/
def Census.nextExponent (c : Census) : Nat :=
  match c.policy with
  | .fixed => c.exponent
  | .adaptive =>
    let n := 2 ^ c.exponent
    let collided := c.collidedSlots + c.spoiledSlots
    if n < 4 * collided then min Config.exponentMax (c.exponent + 1)
    else if collided = 0 ∧ 3 * n ≤ 4 * c.emptySlots then c.exponent - 1
    else c.exponent

/-- A quiet round: no slot was answered at all (R67). -/
def Census.quiet (c : Census) : Bool :=
  c.singleSlots == 0 && c.collidedSlots == 0 && c.spoiledSlots == 0

/-- The summary of a round (R67, R79), the next exponent clamped into the limits as they stand. -/
def Census.summary (c : Census) (p : Params) : Event :=
  .roundSummary c.roundNumber c.exponent c.emptySlots c.singleSlots c.collidedSlots c.spoiledSlots
    c.boundNodes (p.clampExp c.nextExponent)

/-- The event of a find with the round number and slot index of the slot (R79). -/
def FindEvent.report (v : FindEvent) (round slot : Nat) : Event :=
  match v with
  | .nodeFound i l a m => .nodeFound i l a m round slot false
  | .nodeReturned i l a r => .nodeReturned i l a r round slot
  | .nodeMoved i o n a r => .nodeMoved i o n a r round slot
  | .identityClash i f b a => .identityClash i f b a round slot
  | .rosterFull i l => .rosterFull i l round slot
  | .noAddress i l => .noAddress i l round slot

/-- The round end (R67), `c` being the context with the last slot counted: the summary is queued, then the halt mark,
a quiet round and the spent budget are settled in this order, or the next round awaits its grant. -/
def State.roundEnd (s : State) (l : Line) (c : Census) : State :=
  let s := s.pushEvent c.tag (c.summary s.params)
  match c.halt with
  | some m => s.closeCensus l m.outcome
  | none =>
    if c.quiet then s.closeCensus l .done
    else if c.budget ≤ c.totals.rounds then s.closeCensus l .budget
    else s.modCensus l fun c => { c with exponent := c.nextExponent, slotIndex := 0 }

/-- The end of a slot operation in the census (R61, R66, R70, R72): the slot's event is queued, the slot counted; after
the round's last slot the round ends; otherwise a halt mark closes the census. -/
def State.slotEnd (s : State) (l : Line) (event : Option (Nat → Nat → Event)) : State :=
  match (s.line l).census with
  | none => s
  | some c =>
    let s := match event with
      | some v => s.pushEvent c.tag (v c.roundNumber c.slotIndex)
      | none => s
    let c := { c with slotIndex := c.slotIndex + 1,
                      totals := { c.totals with slots := c.totals.slots + 1 } }
    let s := s.modLine l fun L => { L with census := some c }
    if 2 ^ c.exponent ≤ c.slotIndex then s.roundEnd l c
    else
      match c.halt with
      | some m => s.closeCensus l m.outcome
      | none => s

/-- The total increased by a confirmed BIND (R64, R70). -/
def Totals.confirmed (t : Totals) : FindEvent → Totals
  | .nodeFound _ _ _ _ => { t with boundNew := t.boundNew + 1 }
  | .nodeReturned _ _ _ _ => { t with returned := t.returned + 1 }
  | .nodeMoved _ _ _ _ _ => { t with moved := t.moved + 1 }
  | _ => t

/-- The total increased by a HUSH (R65, R70): none for FORGOTTEN. -/
def Totals.hushed (t : Totals) : HushReason → Totals
  | .clash => { t with clashes := t.clashes + 1 }
  | .rosterFull => { t with rosterFull := t.rosterFull + 1 }
  | .noAddress => { t with noAddress := t.noAddress + 1 }
  | .forgotten => t

end Sys2Proof.Machine
end

