-- ==== Sys2Proof/Machine/Polling.lean ====
section
/-! DEFINITION. The poll scheduler of each line (chapter 06), and the settling of cycles and passed-over counts at the
end of a claim (R98, R124). -/

namespace Sys2Proof.Machine

/-- A cycle starts (R92): it reads poll_period and takes as members the entries BOUND on the line, in roster order. A
cycle without members finishes at once (R98). -/
def State.startCycle (s : State) (l : Line) : State :=
  let members := (s.boundEntries l).map (·.serial)
  let cycle : PollCycle :=
    { running := !members.isEmpty, start := s.clock, period := s.params.pollPeriod,
      nextDue := s.clock + BitVec.ofNat 32 s.params.pollPeriod, members := members,
      remaining := members, late := false }
  s.modLine l fun L => { L with poll := some cycle }

/-- A cycle finishes (R98): WAITING when its late mark is clear; otherwise an overrun is counted and the next cycle
starts at once. A poll whose end takes the line down comes to no finish: DEDUCED, unsafe (log
entry 12). The scheduler has stopped waiting, so its passed-over count is 0 (R124). -/
def State.finishCycle (s : State) (l : Line) : State :=
  match (s.line l).poll with
  | some c =>
    if c.late then
      (s.modLine l fun L =>
        { L with counters := { L.counters with overruns := L.counters.overruns + 1 },
                 passedP := 0 }).startCycle l
    else
      s.modLine l fun L =>
        { L with poll := some { c with running := false, remaining := [] }, passedP := 0 }
  | none => s

/-- The cycle of the line has nothing left to do: RUNNING, no poll in progress, no remaining member BOUND (R98). -/
def State.cycleDone (s : State) (l : Line) : Bool :=
  (s.line l).cycleRunning && !(s.line l).pollInProgress && !s.membersLeft l

/-- The passed-over count of a contender that does not wait is 0 (R124). -/
def State.settleCounts (s : State) (l : Line) : State :=
  s.modLine l fun L =>
    { L with passedT := if s.waitsT l then L.passedT else 0,
             passedP := if s.waitsP l then L.passedP else 0,
             passedC := if s.waitsC l then L.passedC else 0 }

/-- At the end of a claim: a cycle that is done finishes, and counts of contenders that stopped waiting return to 0
(DEDUCED, safe: log entry 24). -/
def State.settleLine (s : State) (l : Line) : State :=
  (if s.cycleDone l then s.finishCycle l else s).settleCounts l

/-- Both lines settled. -/
def State.settle (s : State) : State := (s.settleLine .A).settleLine .B

/-- POLL_DUE: the next due time is reached (R99): a WAITING scheduler starts a cycle, a RUNNING one sets its late mark.
A scheduler in phase NONE has no due time. -/
def execPollDue (l : Line) (s : State) : Out :=
  match (s.line l).poll with
  | some c =>
    let s := s.passTo c.nextDue
    if c.running then .next (s.modLine l fun L => { L with poll := some { c with late := true } })
    else .next (s.startCycle l)
  | none => .next s

end Sys2Proof.Machine
end

