-- ==== Sys2Proof/Machine/Power.lean ====
section
/-! DEFINITION. The line supervisor (chapter 08): power, settling, trips, going down and the line-down sweep. -/

namespace Sys2Proof.Machine

/-- The LINE_POWER open for the line closes with an outcome, the line state and the lost count (section 8.2). -/
def State.closePower (s : State) (l : Line) (o : CloseOutcome) (p : LinePower) (lost : Nat) : State :=
  match (s.line l).openPower with
  | some (tag, _) =>
    (s.modLine l fun L => { L with openPower := none }).close tag o (.linePower l p lost)
  | none => s

/-- Every record of the line's queue closes LINE_DOWN in queue order (R122). -/
def State.queueDown (s : State) (l : Line) : State :=
  (s.setQueue l []).closeTxns (s.line l).queue .lineDown

/-- The engine of a line that has gone down: cycle dropped, phase NONE (R100), no operation in progress, the arbiter's
counts 0 (R124). -/
def State.engineDown (s : State) (l : Line) : State :=
  s.modLine l fun L =>
    { L with poll := none, op := none, passedT := 0, passedP := 0, passedC := 0 }

/-- The line-down sweep (R132), its parts in order: roster and allocator, census, executor, scheduler, arbiter. -/
def State.lineDown (s : State) (l : Line) : State :=
  (((s.rosterDown l).closeCensus l .lineDown).queueDown l).engineDown l

/-- Power is removed from the cable: the line's new state, no settling timer, no speed grade in force (R134). -/
def State.unpower (s : State) (l : Line) (p : LinePower) : State :=
  s.modLine l fun L => { L with power := p, settleAt := none, speed := none }

/-- An UP line goes down for its open LINE_POWER(off) (R130): power removed, the sweep, and the off closes DONE. -/
def State.goOff (s : State) (l : Line) : State :=
  ((s.unpower l .off).lineDown l).closePower l .done .off (s.boundEntries l).length

/-- A line operation ends (R126): the line is free; a LINE_POWER(off) that waited for it takes the line down (R130). -/
def State.endOp (s : State) (l : Line) : State :=
  let s := s.modLine l fun L => { L with op := none }
  if (s.line l).offOpen then s.goOff l else s

/-- An overcurrent trip of an UP line (R131, R133): power removed, the operation abandoned, the sweep, LINE_FAULT, and
a waiting LINE_POWER(off) closes FAULTED. -/
def State.tripUp (s : State) (l : Line) : State :=
  let lost := (s.boundEntries l).length
  let s := ((s.unpower l .fault).lineDown l).pushEvent 0 (.lineFault l s.clock lost)
  if (s.line l).offOpen then s.closePower l .faulted .fault lost else s

/-- OVERCURRENT_TRIP (R1, R128, R131). An OFF or FAULT line has no power and cannot trip. -/
def execOvercurrentTrip (l : Line) (s : State) : Out :=
  match (s.line l).power with
  | .up => .next (s.tripUp l)
  | .settling => .next ((s.unpower l .fault).closePower l .faulted .fault 0)
  | .off => .next s
  | .fault => .next s

/-- SETTLING_EXPIRY (R128): the line goes UP, its first poll cycle starts and the on closes DONE. Without a settling
timer there is nothing to expire. -/
def execSettlingExpiry (l : Line) (s : State) : Out :=
  match (s.line l).power, (s.line l).settleAt with
  | .settling, some t =>
    .next ((((s.passTo t).modLine l fun L =>
      { L with power := .up, settleAt := none }).startCycle l).closePower l .done .up 0)
  | _, _ => .next s

/-- The speed parameter of a line (R2, R177). -/
def Params.speedOf (p : Params) : Line → Nat
  | .A => p.speedA
  | .B => p.speedB

/-- LINE_POWER(on) taken in OFF or FAULT (R128): power applied, the speed grade read, the settling timer started. -/
def State.applyPower (s : State) (l : Line) (tag : Tag) : State :=
  s.modLine l fun L =>
    { L with power := .settling, speed := some (s.params.speedOf l),
             settleAt := some (s.clock + BitVec.ofNat 32 Config.settlingMs),
             openPower := some (tag, .on) }

/-- Must a LINE_POWER be refused LINE_BUSY (R127)? -/
def LineState.powerBusy (L : LineState) (d : Direction) : Bool :=
  match L.openPower with
  | none => false
  | some (_, .on) => d == .on
  | some (_, .off) => true

/-- An admitted LINE_POWER, already answered TAKEN, acts by the line's state (R127, R128, R130). -/
def State.actPower (s : State) (l : Line) (d : Direction) (tag : Tag) : State :=
  match (s.line l).power, d with
  | .off, .on => s.applyPower l tag
  | .fault, .on => s.applyPower l tag
  | .off, .off => s.close tag .done (.linePower l .off 0)
  | .fault, .off => s.close tag .done (.linePower l .fault 0)
  | .up, .on => s.close tag .done (.linePower l .up 0)
  | .up, .off =>
    let s := s.modLine l fun L => { L with openPower := some (tag, .off) }
    if (s.line l).op.isSome then s else s.goOff l
  | .settling, .off =>
    ((s.unpower l .off).closePower l .cancelled .off 0).close tag .done (.linePower l .off 0)
  | .settling, .on => s.modLine l fun L => { L with openPower := some (tag, .on) }

end Sys2Proof.Machine
end

