-- ==== Sys2Proof/Machine/LineEngine.lean ====
section
/-! DEFINITION. The line arbiter's grant, the calls and the answer windows of line operations (chapters 01, 04, 06, 07,
08). A command about a call or window that is not there finds nothing to act on and changes nothing: DEDUCED, safe
(log entry 4). -/

namespace Sys2Proof.Machine

/-! ## Grants (R93, R110, R60, R61, R125) -/

/-- A line operation begins: its first call goes out. -/
def State.beginOp (s : State) (l : Line) (w : OpWork) (c : Call) : State :=
  s.modLine l fun L => { L with op := some { work := w, call := c, listening := false } }

/-- The request goes to RUNNING unless it is already HALTING (R108, R150). -/
def State.setRunning (s : State) (tag : Tag) : State :=
  s.setReqState tag fun q => if q = .halting then .halting else .running

/-- The call an attempt of a record sends to an address (R110), hush_time read at the grant. -/
def Txn.call (r : Txn) (a : Address) (hushTime : Nat) : Call :=
  match r.work with
  | .read off len => .read a off len
  | .write off bs => .write a off bs
  | .release => .release a hushTime

/-- An attempt of the head record begins (R110). No attempt begins for a target that is not BOUND: DEDUCED, safe (log
entry 21), for R115 keeps such a record out of every queue. -/
def State.beginAttempt (s : State) (l : Line) : Option State :=
  match (s.line l).queue with
  | r :: rest =>
    match (s.lookup r.target).bind Entry.address with
    | some a =>
      some (((s.setQueue l ({ r with attempts := r.attempts + 1, inFlight := true } :: rest)).beginOp l
        .attempt (r.call a s.params.hushTime)).setRunning r.tag)
    | none => none
  | [] => none

/-- A poll begins (R93, R94): members no longer BOUND on the line are passed over, the first that is BOUND is called at
its present address. -/
def State.beginPoll (s : State) (l : Line) : Option State :=
  match (s.line l).poll with
  | some c =>
    match c.remaining.dropWhile fun n => !s.memberBound l n with
    | n :: rest =>
      match s.entryOf n with
      | some e =>
        match e.address with
        | some a =>
          some ((s.modLine l fun L => { L with poll := some { c with remaining := rest } }).beginOp l
            (.poll n e.identity) (.poll a))
        | none => none
      | none => none
    | [] => none
  | none => none

/-- A slot operation begins: ROLL at slot index 0 with the exponent clamped and the round counters at 0 (R60), else
STEP (R61). -/
def State.beginSlot (s : State) (l : Line) : Option State :=
  match (s.line l).census with
  | some c =>
    if c.slotIndex = 0 then
      let e := s.params.clampExp c.exponent
      some (((s.modCensus l fun c =>
        { c with exponent := e, roundNumber := c.roundNumber + 1, emptySlots := 0, singleSlots := 0,
                 collidedSlots := 0, spoiledSlots := 0, boundNodes := 0,
                 totals := { c.totals with rounds := c.totals.rounds + 1 } }).beginOp l .slotOpening
        (.roll e c.scopeLength c.scopeBits)).setRunning c.tag)
    else some ((s.beginOp l .slotOpening .step).setRunning c.tag)
  | none => none

/-- The operation of the chosen contender begins. -/
def State.beginFor (s : State) (l : Line) : Contender → Option State
  | .executor => s.beginAttempt l
  | .scheduler => s.beginPoll l
  | .sequencer => s.beginSlot l

/-- The passed-over counts at a grant (R124): 0 for the contender granted, 1 more for each other that was waiting. -/
def State.countGrant (s : State) (l : Line) (granted : Contender) (waiting : Contender → Bool) : State :=
  let count (c : Contender) (n : Nat) : Nat :=
    if c = granted then 0 else if waiting c then n + 1 else n
  s.modLine l fun L =>
    { L with passedT := count .executor L.passedT, passedP := count .scheduler L.passedP,
             passedC := count .sequencer L.passedC }

/-- LINE_GRANT (R125): on an UP line with no operation in progress and no off open, the chosen contender is granted one
line operation. Without a waiting contender there is nothing to grant. -/
def execLineGrant (l : Line) (s : State) : Out :=
  if (s.line l).grantable then
    match s.chosen l with
    | some c =>
      match s.beginFor l c with
      | some t => .next (t.countGrant l c (s.waits l))
      | none => .next s
    | none => .next s
  else .next s

/-! ## The last bit of a call (R135) -/

/-- What the last bit of a call brings besides the count: for a ROLL the rounds-run count and the extension of the
line's quarantine (R48, R60); for a HUSH the hush claim, whose answer the operation keeps (R65, R83). -/
def State.callEffect (s : State) (l : Line) (o : LineOp) : State :=
  match o.call, o.work with
  | .roll _ _ _, _ =>
    (s.modLine l fun L =>
      { L with counters := { L.counters with rounds := L.counters.rounds + 1 } }).extendQuarantine l
  | .hush _ hushS, .slotHush i r v _ =>
    let m := hushMatch s.hush i l r
    (s.hushClaim i l r hushS).modLine l fun L =>
      { L with op := some { work := .slotHush i r v m, call := o.call, listening := true } }
  | _, _ => s

/-- CALL_SENT (R3, R135): calls sent rises by 1 and the answer window opens. -/
def execCallSent (l : Line) (s : State) : Out :=
  match (s.line l).op with
  | some o =>
    if o.listening then .next s
    else
      .next ((s.modLine l fun L =>
        { L with counters := { L.counters with callsSent := L.counters.callsSent + 1 },
                 op := some { o with listening := true } }).callEffect l o)
  | none => .next s

/-! ## Windows -/

/-- A window counts in the silent or garbled counter as classed (R135). -/
def State.countWindow (s : State) (l : Line) (w : WindowClass) : State :=
  s.modLine l fun L =>
    match w with
    | .silence => { L with counters := { L.counters with silent := L.counters.silent + 1 } }
    | .garbled => { L with counters := { L.counters with garbled := L.counters.garbled + 1 } }
    | .valid _ => L

/-- A check mismatch is counted (R135). -/
def State.countMismatch (s : State) (l : Line) (b : Bool) : State :=
  if b then
    s.modLine l fun L =>
      { L with counters := { L.counters with mismatches := L.counters.mismatches + 1 } }
  else s

/-- The slot operation ends: the census takes the slot, then the line is free. -/
def State.finishSlot (s : State) (l : Line) (event : Option (Nat → Nat → Event)) : State :=
  (s.slotEnd l event).endOp l

/-- The open window of the line with the operation it belongs to (R3). -/
def LineState.window (L : LineState) : Option LineOp :=
  match L.op with
  | some o => if o.listening then some o else none
  | none => none

/-- The slot's opening window is classed (R62). S rises here, as R62 says, though R58 has the round counters change as
the slot operation ends: DESIGN CHOICE, safe (log entry 27). -/
def State.openingWindow (s : State) (l : Line) (w : WindowClass) : State :=
  let s := s.countWindow l w
  match w with
  | .silence => (s.modCensus l fun c => { c with emptySlots := c.emptySlots + 1 }).finishSlot l none
  | .valid (.stub h) =>
    (s.modCensus l fun c => { c with singleSlots := c.singleSlots + 1 }).beginOp l .slotClaim (.claim h)
  | _ => (s.modCensus l fun c => { c with collidedSlots := c.collidedSlots + 1 }).finishSlot l none

/-- SLOT_WINDOW (R62). -/
def execSlotWindow (l : Line) (h : Heard) (s : State) : Out :=
  match (s.line l).window with
  | some o =>
    match o.work with
    | .slotOpening => .next (s.openingWindow l (o.call.classify h))
    | _ => .next s
  | none => .next s

/-- The handle a CLAIM carries. -/
def Call.handle : Call → Handle
  | .claim h => h
  | _ => 0

/-- The CLAIM's window is classed (R62, R63): no usable identity spoils the slot; a valid one is brought to the roster
and the BIND or HUSH it decides goes out at once (R64, R65). hush_time is read as the HUSH begins: DESIGN CHOICE, unsafe
(log entry 19). -/
def State.claimHeard (s : State) (l : Line) (h : Handle) (w : WindowClass) : State :=
  let s := s.countWindow l w
  let spoil :=
    (s.modCensus l fun c =>
      { c with spoiledSlots := c.spoiledSlots + 1,
               totals := { c.totals with spoiled := c.totals.spoiled + 1 } }).finishSlot l none
  match w with
  | .valid (.identity i mem) =>
    if validIdentity i then
      match s.find l i mem with
      | (s, .bind n a lease v) => s.beginOp l (.slotBind n i mem v) (.bind h a lease)
      | (s, .hush r v) => s.beginOp l (.slotHush i r v false) (.hush h s.params.hushTime)
    else spoil
  | _ => spoil

/-- CLAIM_WINDOW (R62). -/
def execClaimWindow (l : Line) (h : Heard) (s : State) : Out :=
  match (s.line l).window with
  | some o =>
    match o.work with
    | .slotClaim => .next (s.claimHeard l o.call.handle (o.call.classify h)).settle
    | _ => .next s
  | none => .next s

/-- The address a BIND carries. -/
def Call.bindAddress : Call → Address
  | .bind _ a _ => a
  | _ => 0

/-- The BIND's window is classed (R27, R64): a matching ACK confirms the bind; anything else leaves it unconfirmed, and
the event becomes NODE_FOUND with the unconfirmed flag. What the bind outcome claim finishes (R98) is settled before the
slot operation ends. -/
def State.bindHeard (s : State) (l : Line) (n : Nat) (i : Ident) (mem : Nat) (v : FindEvent)
    (a : Address) (w : WindowClass) : State :=
  let s := (s.countWindow l w).countMismatch l (mismatch w i)
  if judge w i = .finished none then
    ((s.bindOutcome n true).settle.modCensus l fun c =>
      { c with boundNodes := c.boundNodes + 1, totals := c.totals.confirmed v }).finishSlot l
        (some v.report)
  else
    ((s.bindOutcome n false).settle.modCensus l fun c =>
      { c with totals := { c.totals with bindUnconfirmed := c.totals.bindUnconfirmed + 1 } }).finishSlot
        l (some fun round slot => .nodeFound i l a mem round slot true)

/-- BIND_OUTCOME (R27). -/
def execBindOutcome (l : Line) (h : Heard) (s : State) : Out :=
  match (s.line l).window with
  | some o =>
    match o.work with
    | .slotBind n i mem v =>
      .next (s.bindHeard l n i mem v o.call.bindAddress (o.call.classify h))
    | _ => .next s
  | none => .next s

/-- HUSH_WINDOW (R65, R66, R87): the window is classed and counted, the total of the reason rises, and the slot's event
is queued unless a matching hush record stood. -/
def execHushWindow (l : Line) (h : Heard) (s : State) : Out :=
  match (s.line l).window with
  | some o =>
    match o.work with
    | .slotHush _ r v m =>
      .next (((s.countWindow l (o.call.classify h)).modCensus l fun c =>
        { c with totals := c.totals.hushed r }).finishSlot l
          (if m then none else v.map FindEvent.report))
    | _ => .next s
  | none => .next s

/-- A rise of an entry's attention flag queues ATTENTION when attention_reports is on (R95). -/
def State.reportAttention (s : State) (l : Line) (e : Entry) (a : Address) (flag : Bool) : State :=
  if flag && !e.attention && s.params.attentionReports == 1 then
    s.pushEvent 0 (.attention e.identity l a s.clock)
  else s

/-- A poll heard (R94, R95, R96): a STATUS with the member's check word is an answered claim, anything else a miss. -/
def State.pollHeard (s : State) (l : Line) (n : Nat) (i : Ident) (a : Address) (w : WindowClass) :
    State :=
  let s := (s.countWindow l w).countMismatch l (mismatch w i)
  match w with
  | .valid (.status c flag) =>
    if c = checkWord i then
      match s.entryOf n with
      | some e =>
        if e.standing.isBound then (s.answered n (some flag)).reportAttention l e a flag else s
      | none => s
    else s.miss n .poll
  | _ => s.miss n .poll

/-- The address an addressed call carries. -/
def Call.address : Call → Address
  | .poll a => a
  | .read a _ _ => a
  | .write a _ _ => a
  | .release a _ => a
  | _ => 0

/-- POLL_WINDOW (R94). -/
def execPollWindow (l : Line) (h : Heard) (s : State) : Out :=
  match (s.line l).window with
  | some o =>
    match o.work with
    | .poll n i => .next (((s.pollHeard l n i o.call.address (o.call.classify h)).endOp l).settle)
    | _ => .next s
  | none => .next s

/-- An answered claim for the entry of an identity (R111). -/
def State.answeredNamed (s : State) (i : Ident) : State :=
  match s.lookup i with
  | some e => s.answered e.serial none
  | none => s

/-- A miss claim for the entry of an identity (R113). -/
def State.missNamed (s : State) (i : Ident) (c : LossCause) : State :=
  match s.lookup i with
  | some e => s.miss e.serial c
  | none => s

/-- A busy or unheard attempt of the head record ends (R112, R116): a marked record closes by its mark; otherwise it
stays at the head while attempts is no greater than retry_limit, and else closes, NO_ANSWER bringing one miss claim
behind its CLOSED (R113). `rest` is the queue behind it. A WRITE closed NODE_BUSY carries no refusal code, so its code byte
is 0, and code 3 of R160 never appears: DESIGN CHOICE, unsafe (log entry 28). -/
def State.retryOrClose (s : State) (l : Line) (r : Txn) (rest : List Txn) (o : CloseOutcome) : State :=
  match r.halt with
  | some m => (s.setQueue l rest).closeTxn r m.outcome none none
  | none =>
    if r.attempts ≤ s.params.retryLimit then s.setQueue l (r :: rest)
    else
      let s := (s.setQueue l rest).closeTxn r o none none
      if o = .noAnswer then s.missNamed r.target .transaction else s

/-- The window of a READ or WRITE attempt of the head record is judged (R111, R112, R113). -/
def State.attemptJudged (s : State) (l : Line) (r : Txn) (rest : List Txn) (w : WindowClass) : State :=
  let s := s.countMismatch l (mismatch w r.target)
  let r := { r with inFlight := false }
  match judge w r.target with
  | .finished bytes => ((s.answeredNamed r.target).setQueue l rest).closeTxn r .done bytes none
  | .refused c => ((s.answeredNamed r.target).setQueue l rest).closeTxn r .nodeRefused none (some c)
  | .busy => (s.answeredNamed r.target).retryOrClose l r rest .nodeBusy
  | .unheard => s.retryOrClose l { r with unheard := r.unheard + 1 } rest .noAnswer

/-- An attempt heard: the record in flight at the head is judged; a window whose record was purged is classed, counted
and handed to nothing (R115). -/
def State.attemptHeard (s : State) (l : Line) (w : WindowClass) : State :=
  let s := s.countWindow l w
  match (s.line l).queue with
  | r :: rest => if r.inFlight then s.attemptJudged l r rest w else s
  | [] => s

/-- Is the call one of a READ or WRITE attempt? -/
def Call.isReadWrite : Call → Bool
  | .read _ _ _ | .write _ _ _ => true
  | _ => false

/-- ATTEMPT_WINDOW (R111). A cycle that the attempt's roster claim leaves with nothing to do finishes at that claim (R98),
before the end of the attempt can take the line down (R130). -/
def execAttemptWindow (l : Line) (h : Heard) (s : State) : Out :=
  match (s.line l).window with
  | some o =>
    if o.isAttempt && o.call.isReadWrite then
      .next ((s.attemptHeard l (o.call.classify h)).settle.endOp l)
    else .next s
  | none => .next s

/-- The window of a RELEASE attempt is judged (R119): acknowledged, or unheard at its last allowed attempt, the RELEASE
closes and the removal claim is made (R35); else it stays between attempts. It makes no answered or miss claim. -/
def State.releaseJudged (s : State) (l : Line) (r : Txn) (rest : List Txn) (w : WindowClass) : State :=
  let s := s.countMismatch l (mismatch w r.target)
  if judge w r.target = .finished none then (s.setQueue l rest).removal r.target r.tag true
  else if r.attempts ≤ s.params.retryLimit then
    s.setQueue l ({ r with inFlight := false, unheard := r.unheard + 1 } :: rest)
  else (s.setQueue l rest).removal r.target r.tag false

/-- A RELEASE attempt heard; a window whose record was removed is counted and handed to nothing (R121). -/
def State.releaseHeard (s : State) (l : Line) (w : WindowClass) : State :=
  let s := s.countWindow l w
  match (s.line l).queue with
  | r :: rest => if r.inFlight then s.releaseJudged l r rest w else s
  | [] => s

/-- Is the call a RELEASE? -/
def Call.isRelease : Call → Bool
  | .release _ _ => true
  | _ => false

/-- RELEASE_WINDOW (R119), the cycle settled at the removal claim (R98) as in ATTEMPT_WINDOW. -/
def execReleaseWindow (l : Line) (h : Heard) (s : State) : Out :=
  match (s.line l).window with
  | some o =>
    if o.isAttempt && o.call.isRelease then
      .next ((s.releaseHeard l (o.call.classify h)).settle.endOp l)
    else .next s
  | none => .next s

end Sys2Proof.Machine
end

