-- ==== Sys2Proof/Machine/Parameters.lean ====
section
/-! DEFINITION. The parameter table (chapter 11). -/

namespace Sys2Proof.Machine

/-- The value of the parameter with an id; none for an id that names no parameter (R172). -/
def Params.value (p : Params) (id : Nat) : Option Nat :=
  match id with
  | 1 => some p.pollPeriod
  | 2 => some p.missLimit
  | 3 => some p.nodeLease
  | 4 => some p.quarantineMargin
  | 5 => some p.hushTime
  | 6 => some p.retryLimit
  | 7 => some p.speedA
  | 8 => some p.speedB
  | 9 => some p.expMin
  | 10 => some p.expMax
  | 11 => some p.hostRate
  | 12 => some p.attentionReports
  | _ => none

/-- The table with one parameter changed (R175). -/
def Params.store (p : Params) (id v : Nat) : Params :=
  match id with
  | 1 => { p with pollPeriod := v }
  | 2 => { p with missLimit := v }
  | 3 => { p with nodeLease := v }
  | 4 => { p with quarantineMargin := v }
  | 5 => { p with hushTime := v }
  | 6 => { p with retryLimit := v }
  | 7 => { p with speedA := v }
  | 8 => { p with speedB := v }
  | 9 => { p with expMin := v }
  | 10 => { p with expMax := v }
  | 11 => { p with hostRate := v }
  | 12 => { p with attentionReports := v }
  | _ => p

/-- The range of the parameter with an id (R172); none for an id that names no parameter. -/
def paramRange (id : Nat) : Option (Nat × Nat) :=
  match id with
  | 1 => some (50, 10000)
  | 2 => some (1, 8)
  | 3 => some (200, 60000)
  | 4 => some (0, 10000)
  | 5 => some (1, 600)
  | 6 => some (0, 7)
  | 7 => some (1, 3)
  | 8 => some (1, 3)
  | 9 => some (0, 12)
  | 10 => some (0, 12)
  | 11 => some (1, 4)
  | 12 => some (0, 1)
  | _ => none

/-- The line whose speed a parameter sets (R177). -/
def speedLine (id : Nat) : Option Line :=
  match id with
  | 7 => some .A
  | 8 => some .B
  | _ => none

/-- The two cross-checks (R172, R175): node_lease at least 2 × poll_period, exp_min no greater than exp_max. -/
def Params.crossOk (p : Params) : Bool := 2 * p.pollPeriod ≤ p.nodeLease && p.expMin ≤ p.expMax

/-- Is a line's speed parameter locked: is the line SETTLING or UP (R177)? -/
def LineState.speedLocked (L : LineState) : Bool := L.power == .settling || L.power == .up

/-- Why a SET_PARAM is refused, the first check that fails deciding (R175). -/
def State.paramRefusal (s : State) (id v : Nat) : Option Reason :=
  match paramRange id with
  | none => some .badParam
  | some (lo, hi) =>
    if v < lo ∨ hi < v then some .badParam
    else if (speedLine id).any fun l => (s.line l).speedLocked then some .paramLocked
    else if (s.params.store id v).crossOk then none
    else some .paramConflict

/-- The PARAM_VALUE of an accepted SET_PARAM joins the queue, marked when it changes host_rate (R143, R178). -/
def State.pushParam (s : State) (tag : Tag) (id v : Nat) : State :=
  let mark := if id = 11 ∧ v ≠ s.params.hostRate then some v else none
  { s with reports := s.reports ++ [{ tag := tag, body := .paramValue id v, rateAfter := mark }] }

/-- An accepted SET_PARAM (R175): the answer, the value stored, and for a lowered miss_limit the sweep (R176). -/
def State.setParam (s : State) (tag : Tag) (id v : Nat) : State :=
  let lowered := id = 2 ∧ v < s.params.missLimit
  let s := { s.pushParam tag id v with params := s.params.store id v }
  if lowered then (s.limitSweep v).settle else s

end Sys2Proof.Machine
end

