-- ==== Sys2Proof/Machine/Reports.lean ====
section
/-! DEFINITION. The frames of the host link in bytes: the CRC, the layouts of every report (R138, R160, R166, R168,
R169) and the frame of a request. -/

namespace Sys2Proof.Machine

/-! ## The CRC of the host link (00, Checks) -/

/-- One bit of the CRC register's division by x^16 + x^12 + x^5 + 1. -/
def crcShift (c : BitVec 16) : BitVec 16 :=
  if c.msb then (c <<< 1) ^^^ 0x1021 else c <<< 1

/-- One byte taken into the CRC, most significant bit first. -/
def crcByte (c : BitVec 16) (b : Byte) : BitVec 16 :=
  let c := c ^^^ (b.setWidth 16 <<< 8)
  crcShift (crcShift (crcShift (crcShift (crcShift (crcShift (crcShift (crcShift c)))))))

/-- The CRC of some bytes: initial value FFFF hex, no final inversion. -/
def crc16 (bs : List Byte) : BitVec 16 := bs.foldl crcByte 0xFFFF

/-- The CRC that two received bytes spell, high byte first. -/
def crcOf (bs : List Byte) : BitVec 16 := BitVec.ofNat 16 (number bs)

/-- The bytes of a frame (R138). -/
def Frame.bytes (f : Frame) : List Byte :=
  let covered := BitVec.ofNat 8 (f.body.length + 2) :: f.kind :: f.tag :: f.body
  Config.syncByte :: (covered ++ bytesOf 2 (crc16 covered).toNat)

/-! ## Codes (R146, R160, R166, R168, R169) -/

/-- The reason code of a REFUSED (R166). -/
def Reason.code : Reason → Nat
  | .malformed => 0x01
  | .unknownKind => 0x02
  | .tagZero => 0x03
  | .tagInUse => 0x04
  | .stopping => 0x05
  | .tableFull => 0x06
  | .lineNotUp => 0x07
  | .lineBusy => 0x08
  | .censusActive => 0x09
  | .unknownNode => 0x0A
  | .notBound => 0x0B
  | .forgetting => 0x0C
  | .badRange => 0x0D
  | .queueFull => 0x0E
  | .badParam => 0x0F
  | .paramConflict => 0x10
  | .paramLocked => 0x11

/-- The outcome code of a CLOSED (R160). -/
def CloseOutcome.code : CloseOutcome → Nat
  | .done => 0x00
  | .budget => 0x01
  | .cancelled => 0x02
  | .stopped => 0x03
  | .lineDown => 0x04
  | .faulted => 0x05
  | .noAnswer => 0x06
  | .nodeBusy => 0x07
  | .nodeRefused => 0x08
  | .targetLost => 0x09
  | .targetGone => 0x0A

/-- The refusal code in a CLOSED: 0 when none (R160). No CLOSED of the model carries BUSY (log entry 28). -/
def refusalCode : Option RefusalCode → Nat
  | none => 0
  | some .range => 1
  | some .writeProtected => 2
  | some .busy => 3
  | some .unlisted => 0

/-- The stored code of a WRITE's CLOSED (R160). -/
def Stored.code : Stored → Nat
  | .no => 0
  | .yes => 1
  | .unknown => 2

/-- The detail code of a FORGET's CLOSED (R160). -/
def ForgetDetail.code : ForgetDetail → Nat
  | .none => 0
  | .released => 1
  | .unconfirmed => 2
  | .found => 3
  | .wentLost => 4
  | .unpowered => 5
  | .direct => 6

/-- The code of a line state (R160, R168). -/
def LinePower.code : LinePower → Nat
  | .off => 0
  | .settling => 1
  | .up => 2
  | .fault => 3

/-- The code of an entry state (R160). -/
def Standing.code : Standing → Nat
  | .bound _ _ => 0
  | .lost _ => 1
  | .unbound => 2

/-- The address marker and address of an entry (R39, R160). -/
def Standing.marker : Standing → Nat × Nat
  | .bound a _ => (1, a)
  | .lost (some a) => (2, a)
  | .lost none => (0, 0)
  | .unbound => (0, 0)

/-- The lease_granted field of ENTRY_INFO, 0 when not BOUND (R168). -/
def Standing.leaseField : Standing → Nat
  | .bound _ lease => lease
  | _ => 0

/-- The code of a hush reason (R168). -/
def HushReason.code : HushReason → Nat
  | .clash => 0
  | .rosterFull => 1
  | .noAddress => 2
  | .forgotten => 3

/-- The code of a request state (R168). -/
def ReqState.code : ReqState → Nat
  | .queued => 0
  | .running => 1
  | .halting => 2

/-- The code of a loss cause (R169). -/
def LossCause.code : LossCause → Nat
  | .poll => 0
  | .transaction => 1
  | .limit => 2

/-- The code of a CANCEL result (R168). -/
def CancelResult.code : CancelResult → Nat
  | .notOpen => 0
  | .notCancellable => 1
  | .cancelling => 2

/-- A flag in one byte. -/
def flagByte (b : Bool) : List Byte := bytesOf 1 (if b then 1 else 0)

/-- A tag in one byte, 0 when there is none. -/
def tagByte (t : Option Tag) : List Byte := [t.getD 0]

/-! ## Bodies -/

/-- One entry of a ROSTER_PAGE, 19 bytes (R160). -/
def Entry.pageBytes (e : Entry) : List Byte :=
  bytesOf 8 e.identity.toNat ++ bytesOf 1 (lineCode e.line) ++ bytesOf 1 e.standing.code ++
    bytesOf 1 e.standing.marker.1 ++ bytesOf 1 e.standing.marker.2 ++ bytesOf 1 e.misses ++
    flagByte e.attention ++ bytesOf 1 e.returns ++ bytesOf 4 e.lastSeen.toNat

/-- The fields of a known ENTRY_INFO behind its marker (R168). -/
def Entry.infoBytes (e : Entry) (position : Nat) : List Byte :=
  bytesOf 1 position ++ bytesOf 1 (lineCode e.line) ++ bytesOf 1 e.standing.code ++
    bytesOf 1 e.standing.marker.1 ++ bytesOf 1 e.standing.marker.2 ++
    bytesOf 2 e.standing.leaseField ++ bytesOf 1 e.misses ++ flagByte e.attention ++
    bytesOf 2 e.memorySize ++ bytesOf 1 e.returns ++ bytesOf 4 e.lastSeen.toNat ++
    bytesOf 1 e.pendingTx ++ tagByte e.forgetting

/-- The body of LINE_INFO (R168). -/
def LineInfo.bytes (i : LineInfo) : List Byte :=
  bytesOf 1 (lineCode i.line) ++ bytesOf 4 i.clock.toNat ++ bytesOf 1 i.power.code ++
    tagByte (i.openPower.map (·.1)) ++
    bytesOf 1 ((i.openPower.map fun p => directionCode p.2).getD 0) ++
    bytesOf 1 (i.settlingLeft.getD 0xFF) ++ bytesOf 1 (i.speed.getD 0) ++ bytesOf 1 i.boundCount ++
    bytesOf 1 i.freeCount ++ bytesOf 1 i.quarantineCount ++ flagByte i.earliest.isSome ++
    bytesOf 4 ((i.earliest.map fun p => p.1.toNat).getD 0) ++
    bytesOf 4 ((i.earliest.map fun p => p.2).getD 0) ++ tagByte i.census ++
    bytesOf 1 i.queueLength ++
    bytesOf 1 (match i.pollRunning with | none => 0 | some true => 1 | some false => 2) ++
    bytesOf 4 i.counters.callsSent.toNat ++ bytesOf 4 i.counters.silent.toNat ++
    bytesOf 4 i.counters.garbled.toNat ++ bytesOf 4 i.counters.mismatches.toNat ++
    bytesOf 4 i.counters.overruns.toNat ++ bytesOf 4 i.counters.rounds.toNat

/-- One record of a HELD_LIST, 14 bytes (R168). -/
def HushRec.bytes (h : HushRec) : List Byte :=
  bytesOf 8 h.identity.toNat ++ bytesOf 1 (lineCode h.line) ++ bytesOf 1 h.reason.code ++
    bytesOf 4 h.expiry.toNat

/-- The body of LINK_INFO (R168). -/
def LinkInfo.bytes (i : LinkInfo) : List Byte :=
  bytesOf 4 i.clock.toNat ++ bytesOf 1 i.hostRate ++ bytesOf 2 i.rxTimeouts.toNat ++
    bytesOf 2 i.rxBadLength.toNat ++ bytesOf 2 i.rxCrcErrors.toNat ++
    bytesOf 2 i.rxDiscards.toNat ++ bytesOf 2 i.dropped.toNat ++ bytesOf 1 i.waiting ++
    bytesOf 1 i.occupied ++ bytesOf 1 i.reserved ++ tagByte i.stop ++
    bytesOf 1 i.requests.length ++
    i.requests.flatMap fun r => [r.tag, r.kind.code] ++ bytesOf 1 r.state.code

/-- The result of a CLOSED from byte 2 (R160). -/
def CloseResult.bytes (o : CloseOutcome) : CloseResult → List Byte
  | .census t =>
    bytesOf 1 t.rounds ++ bytesOf 4 t.slots ++ bytesOf 4 t.boundNew ++ bytesOf 4 t.returned ++
      bytesOf 4 t.moved ++ bytesOf 4 t.clashes ++ bytesOf 4 t.rosterFull ++
      bytesOf 4 t.noAddress ++ bytesOf 4 t.spoiled ++ bytesOf 4 t.bindUnconfirmed
  | .read attempts bs code =>
    bytesOf 1 attempts ++
      match o with
      | .done => bytesOf 1 (bs.getD []).length ++ bs.getD []
      | .nodeRefused => bytesOf 1 (refusalCode code)
      | _ => []
  | .write attempts stored code =>
    bytesOf 1 attempts ++ bytesOf 1 stored.code ++ bytesOf 1 (refusalCode code)
  | .forget i d => bytesOf 8 i.toNat ++ bytesOf 1 d.code
  | .linePower l p lost => bytesOf 1 (lineCode l) ++ bytesOf 1 p.code ++ bytesOf 1 lost
  | .stop n => bytesOf 1 n

/-- The kind of long request a result belongs to. -/
def CloseResult.kind : CloseResult → LongKind
  | .census _ => .census
  | .read _ _ _ => .readNode
  | .write _ _ _ => .writeNode
  | .forget _ _ => .forget
  | .linePower _ _ _ => .linePower
  | .stop _ => .stop

/-- The fields of an event behind dropped_before (R169). -/
def Event.bytes : Event → List Byte
  | .nodeFound i l a m r s u =>
    bytesOf 8 i.toNat ++ bytesOf 1 (lineCode l) ++ bytesOf 1 a ++ bytesOf 2 m ++ bytesOf 1 r ++
      bytesOf 2 s ++ flagByte u
  | .nodeReturned i l a n r s =>
    bytesOf 8 i.toNat ++ bytesOf 1 (lineCode l) ++ bytesOf 1 a ++ bytesOf 1 n ++ bytesOf 1 r ++
      bytesOf 2 s
  | .nodeMoved i o l a n r s =>
    bytesOf 8 i.toNat ++ bytesOf 1 (lineCode o) ++ bytesOf 1 (lineCode l) ++ bytesOf 1 a ++
      bytesOf 1 n ++ bytesOf 1 r ++ bytesOf 2 s
  | .identityClash i f b a r s =>
    bytesOf 8 i.toNat ++ bytesOf 1 (lineCode f) ++ bytesOf 1 (lineCode b) ++ bytesOf 1 a ++
      bytesOf 1 r ++ bytesOf 2 s
  | .rosterFull i l r s | .noAddress i l r s =>
    bytesOf 8 i.toNat ++ bytesOf 1 (lineCode l) ++ bytesOf 1 r ++ bytesOf 2 s
  | .roundSummary r e E S C K B n =>
    bytesOf 1 r ++ bytesOf 1 e ++ bytesOf 2 E ++ bytesOf 2 S ++ bytesOf 2 C ++ bytesOf 2 K ++
      bytesOf 2 B ++ bytesOf 1 n
  | .nodeLost i l a t c =>
    bytesOf 8 i.toNat ++ bytesOf 1 (lineCode l) ++ bytesOf 1 a ++ bytesOf 4 t.toNat ++
      bytesOf 1 c.code
  | .attention i l a t =>
    bytesOf 8 i.toNat ++ bytesOf 1 (lineCode l) ++ bytesOf 1 a ++ bytesOf 4 t.toNat
  | .lineFault l t n => bytesOf 1 (lineCode l) ++ bytesOf 4 t.toNat ++ bytesOf 1 n

/-- The kind code of an event (R146). -/
def Event.kind : Event → Byte
  | .nodeFound _ _ _ _ _ _ _ => 0xA0
  | .nodeReturned _ _ _ _ _ _ => 0xA1
  | .nodeMoved _ _ _ _ _ _ _ => 0xA2
  | .identityClash _ _ _ _ _ _ => 0xA3
  | .rosterFull _ _ _ _ => 0xA4
  | .noAddress _ _ _ _ => 0xA5
  | .roundSummary _ _ _ _ _ _ _ _ => 0xA6
  | .nodeLost _ _ _ _ _ => 0xB0
  | .attention _ _ _ _ => 0xB1
  | .lineFault _ _ _ => 0xB2

/-- The kind code of a report (R146). -/
def ReportBody.kind : ReportBody → Byte
  | .rosterPage _ _ _ => 0x81
  | .entryInfo _ _ => 0x82
  | .lineInfo _ => 0x83
  | .heldList _ _ => 0x84
  | .linkInfo _ => 0x85
  | .paramValue _ _ => 0x86
  | .cancelReply _ _ _ => 0x87
  | .taken _ => 0x90
  | .refused _ _ => 0x91
  | .closed _ _ => 0x92
  | .event _ e => e.kind
  | .ready _ _ => 0xC0

/-- The body bytes of a report (R160, R166, R168, R169). -/
def ReportBody.bytes : ReportBody → List Byte
  | .rosterPage total start es =>
    bytesOf 2 total ++ bytesOf 1 start ++ bytesOf 1 es.length ++ es.flatMap Entry.pageBytes
  | .entryInfo i none => bytesOf 8 i.toNat ++ bytesOf 1 0
  | .entryInfo i (some (p, e)) => bytesOf 8 i.toNat ++ bytesOf 1 1 ++ e.infoBytes p
  | .lineInfo i => i.bytes
  | .heldList c hs => bytesOf 4 c.toNat ++ bytesOf 1 hs.length ++ hs.flatMap HushRec.bytes
  | .linkInfo i => i.bytes
  | .paramValue id v => bytesOf 1 id ++ bytesOf 2 v
  | .cancelReply t k r => [t, (k.map LongKind.code).getD 0] ++ bytesOf 1 r.code
  | .taken k => [k.code]
  | .refused k r => [k] ++ bytesOf 1 r.code
  | .closed o r => [r.kind.code] ++ bytesOf 1 o.code ++ r.bytes o
  | .event d e => bytesOf 2 d.toNat ++ e.bytes
  | .ready soft rate => flagByte soft ++ bytesOf 1 rate

/-- The frame the UART sends for a report, as bytes (R138). -/
def Report.frame (r : Report) : List Byte :=
  Frame.bytes { kind := r.body.kind, tag := r.tag, body := r.body.bytes }

end Sys2Proof.Machine
end

