-- ==== Sys2Proof/Machine/HostLink.lean ====
section
/-! DEFINITION. The host link: receiver, inbound buffer, dispatcher with every request, report transmission and the
resets (chapters 09, 10 and 11). -/

namespace Sys2Proof.Machine

/-! ## Immediate requests that only read (R39, R40, R54, R89, R136, R158, R174) -/

/-- GET_ROSTER answered (R39): the total and the entries from the start position, as many as asked for or as there are. -/
def State.serveGetRoster (s : State) (tag : Tag) (start count : Nat) : State :=
  s.push tag (.rosterPage s.roster.length start ((s.roster.drop start).take count))

/-- GET_ENTRY answered (R40): the entry of the identity with its present position, or unknown. -/
def State.serveGetEntry (s : State) (tag : Tag) (i : Ident) : State :=
  s.push tag (.entryInfo i ((s.lookup i).map fun e =>
    (s.roster.findIdx (·.identity == i), e)))

/-- The contents of LINE_INFO (R54, R136). -/
def State.lineInfo (s : State) (l : Line) : LineInfo :=
  let L := s.line l
  { line := l, clock := s.clock, power := L.power, openPower := L.openPower,
    settlingLeft := if L.power = .settling then L.settleAt.map (timeLeft s.clock) else none,
    speed := L.speed, boundCount := (s.boundEntries l).length, freeCount := L.pool.length,
    quarantineCount := L.quarantine.length,
    earliest := L.quarantine.head?.map fun r => (r.expiry, timeLeft s.clock r.expiry),
    census := L.census.map (·.tag), queueLength := L.queue.length,
    pollRunning := L.poll.map (·.running), counters := L.counters }

/-- GET_LINE answered (R136). -/
def State.serveGetLine (s : State) (tag : Tag) (l : Line) : State :=
  s.push tag (.lineInfo (s.lineInfo l))

/-- GET_HELD answered (R89). -/
def State.serveGetHeld (s : State) (tag : Tag) : State := s.push tag (.heldList s.clock s.hush)

/-- The contents of LINK_INFO (R158): the rate is the one in force on the link (R174), the frames waiting are those
behind this request, occupied and reserved as they stand before LINK_INFO is queued. -/
def State.linkInfo (s : State) : LinkInfo :=
  { clock := s.clock, hostRate := s.linkRate, rxTimeouts := s.rxTimeouts,
    rxBadLength := s.rxBadLength, rxCrcErrors := s.rxCrcErrors, rxDiscards := s.rxDiscards,
    dropped := s.dropped, waiting := s.inbound.length, occupied := s.reports.length,
    reserved := s.reserved, stop := s.stop.map (·.tag), requests := s.table }

/-- GET_LINK answered (R158). -/
def State.serveGetLink (s : State) (tag : Tag) : State := s.push tag (.linkInfo s.linkInfo)

/-- GET_PARAM answered, or refused BAD_PARAM for an unknown id (R174). -/
def State.serveGetParam (s : State) (f : Frame) (id : Nat) : State :=
  match s.params.value id with
  | some v => s.push f.tag (.paramValue id v)
  | none => s.refuse f .badParam

/-- SET_PARAM (R175). -/
def State.serveSetParam (s : State) (f : Frame) (id v : Nat) : State :=
  match s.paramRefusal id v with
  | some r => s.refuse f r
  | none => s.setParam f.tag id v

/-! ## CANCEL and STOP (R152, R154) -/

/-- The halt claim of a CANCEL or STOP on an open request (R71, R116, R120); an open LINE_POWER receives none. -/
def State.haltRequest (s : State) (m : Halt) (r : Req) : State :=
  match r.kind, r.target with
  | .census, _ => s.haltCensus r.line m
  | .readNode, _ => s.haltTxn r.line r.tag m
  | .writeNode, _ => s.haltTxn r.line r.tag m
  | .forget, some i => s.haltForget r.line r.tag i m
  | _, _ => s

/-- Can a CANCEL reach the open request (R152)? -/
def State.cancellable (s : State) (r : Req) : Bool :=
  match r.kind with
  | .census | .readNode | .writeNode => true
  | .forget => s.releaseQueued r.line r.tag
  | .linePower | .stop => false

/-- CANCEL (R152): the reply first, then what the halt claim closes at once. -/
def State.serveCancel (s : State) (tag target : Tag) : State :=
  match s.request target with
  | some r =>
    if s.cancellable r then
      ((s.push tag (.cancelReply target (some r.kind) .cancelling)).haltRequest .cancel r).settle
    else s.push tag (.cancelReply target (some r.kind) .notCancellable)
  | none =>
    if s.stop.any (·.tag == target) then
      s.push tag (.cancelReply target (some .stop) .notCancellable)
    else s.push tag (.cancelReply target none .notOpen)

/-- STOP admitted (R154, R155): TAKEN, the stop record, and a halt claim for each open request in admission order; it
closes at once when nothing is left open. -/
def State.admitStop (s : State) (tag : Tag) : State :=
  let t := { s.push tag (.taken .stop) with
    stop := some { tag := tag, openCount := s.table.length } }
  ((s.table.foldl (fun t r => t.haltRequest .stop r) t).settleStop).settle

/-! ## Admission of long requests (R148) -/

/-- The general admission checks after the body check, the first that fails deciding (R148, steps 2 to 5). -/
def State.admissionRefusal (s : State) (tag : Tag) (k : LongKind) : Option Reason :=
  if tag = 0 then some .tagZero
  else if (s.request tag).isSome || s.stop.any (·.tag == tag) then some .tagInUse
  else if s.stop.isSome then some .stopping
  else if k ≠ .stop ∧ Config.tableMax ≤ s.table.length then some .tableFull
  else none

/-- The checks of a CENSUS (R56). -/
def State.censusRefusal (s : State) (l : Line) (exponent scopeLength : Nat) : Option Reason :=
  if (s.line l).power ≠ .up then some .lineNotUp
  else if (s.line l).census.isSome then some .censusActive
  else if exponent < s.params.expMin ∨ s.params.expMax < exponent ∨ 64 < scopeLength then
    some .badParam
  else none

/-- The checks of a READ_NODE or WRITE_NODE (R109). -/
def State.txnRefusal (s : State) (i : Ident) (offset length : Nat) : Option Reason :=
  match s.lookup i with
  | none => some .unknownNode
  | some e =>
    if !e.standing.isBound then some .notBound
    else if e.forgetting.isSome then some .forgetting
    else if e.memorySize < offset + length then some .badRange
    else if Config.queueMax ≤ (s.line e.line).queue.length then some .queueFull
    else none

/-- The queued records naming an identity: not yet granted an attempt (R118). -/
def queuedFor (q : List Txn) (i : Ident) : List Txn := q.filter fun r => r.target == i && r.attempts == 0

/-- The queue less the queued records naming an identity. -/
def notQueuedFor (q : List Txn) (i : Ident) : List Txn :=
  q.filter fun r => !(r.target == i && r.attempts == 0)

/-- The checks of a FORGET (R118, R148). -/
def State.forgetRefusal (s : State) (i : Ident) : Option Reason :=
  match s.lookup i with
  | none => some .unknownNode
  | some e =>
    let q := (s.line e.line).queue
    if e.forgetting.isSome then some .forgetting
    else if e.standing.isBound ∧ Config.queueMax ≤ q.length - (queuedFor q i).length then
      some .queueFull
    else none

/-- CENSUS (R56, R57). -/
def State.serveCensus (s : State) (f : Frame) (l : Line) (policy : Policy)
    (exponent budget scopeLength : Nat) (scopeBits : BitVec 64) : State :=
  match (s.admissionRefusal f.tag .census).or (s.censusRefusal l exponent scopeLength) with
  | some r => s.refuse f r
  | none =>
    let context := Census.fresh f.tag policy exponent budget scopeLength
      (scopePart scopeLength scopeBits)
    (s.take { tag := f.tag, kind := .census, line := l, state := .queued, target := none }).modLine l
      fun L => { L with census := some context }

/-- An admitted transaction: TAKEN, a record at the tail of the queue of the entry's line, pending increased (R109,
R36). -/
def State.admitTxn (s : State) (tag : Tag) (k : LongKind) (i : Ident) (w : TxnWork) : State :=
  match s.lookup i with
  | some e =>
    let record : Txn :=
      { tag := tag, work := w, target := i, attempts := 0, unheard := 0, halt := none,
        inFlight := false }
    ((s.take { tag := tag, kind := k, line := e.line, state := .queued, target := some i }).setQueue
      e.line ((s.line e.line).queue ++ [record])).updNamed i
        fun e => { e with pendingTx := e.pendingTx + 1 }
  | none => s

/-- READ_NODE (R109). -/
def State.serveReadNode (s : State) (f : Frame) (i : Ident) (offset length : Nat) : State :=
  match (s.admissionRefusal f.tag .readNode).or (s.txnRefusal i offset length) with
  | some r => s.refuse f r
  | none => s.admitTxn f.tag .readNode i (.read offset length)

/-- WRITE_NODE (R109). -/
def State.serveWriteNode (s : State) (f : Frame) (i : Ident) (offset : Nat) (bytes : List Byte) :
    State :=
  match (s.admissionRefusal f.tag .writeNode).or (s.txnRefusal i offset bytes.length) with
  | some r => s.refuse f r
  | none => s.admitTxn f.tag .writeNode i (.write offset bytes)

/-- FORGET admitted for an entry (R34, R118): a LOST or UNBOUND entry is removed and the FORGET closes DONE, DIRECT; a
BOUND entry takes forgetting, its queued records close TARGET_GONE, and a RELEASE joins the tail of the queue. -/
def State.admitForget (s : State) (tag : Tag) (e : Entry) : State :=
  let i := e.identity
  let t := s.take { tag := tag, kind := .forget, line := e.line, state := .queued, target := some i }
  if e.standing.isBound then
    let q := (s.line e.line).queue
    let release : Txn :=
      { tag := tag, work := .release, target := i, attempts := 0, unheard := 0, halt := none,
        inFlight := false }
    (((t.updNamed i fun e => { e with forgetting := some tag, pendingTx := e.pendingTx + 1 }).setQueue
      e.line (notQueuedFor q i ++ [release])).closeTxns (queuedFor q i) .targetGone)
  else (t.removeEntry e).closeForget tag i .direct

/-- FORGET (R118, R148). -/
def State.serveForget (s : State) (f : Frame) (i : Ident) : State :=
  match (s.admissionRefusal f.tag .forget).or (s.forgetRefusal i), s.lookup i with
  | none, some e => s.admitForget f.tag e
  | some r, _ => s.refuse f r
  | none, none => s

/-- LINE_POWER (R127). -/
def State.serveLinePower (s : State) (f : Frame) (l : Line) (d : Direction) : State :=
  match (s.admissionRefusal f.tag .linePower).or
      (if (s.line l).powerBusy d then some .lineBusy else none) with
  | some r => s.refuse f r
  | none =>
    (s.take { tag := f.tag, kind := .linePower, line := l, state := .running, target := none }).actPower
      l d f.tag

/-- STOP (R154). -/
def State.serveStop (s : State) (f : Frame) : State :=
  match s.admissionRefusal f.tag .stop with
  | some r => s.refuse f r
  | none => s.admitStop f.tag

/-! ## RESET (R156, R170, R178, R179) -/

/-- The report in transmission (R161): the head of the queue, but none at the clock value at which another report has
left in front of it (R171). DESIGN CHOICE, unsafe (log entry 15): what comes at that clock value comes together with the
departure. -/
def State.sending (s : State) : Option Report :=
  if s.departed = some s.clock then none else s.reports.head?

/-- What a RESET keeps of the report queue: the report in transmission, which is sent to its last byte. A changed host
rate it carries is, from then on, the table's (R178; log entry 13). -/
def State.keptReport (s : State) : List Report :=
  match s.sending with
  | some r => [{ r with rateAfter := r.rateAfter.map fun _ => s.params.hostRate }]
  | none => []

/-- The link rate after a RESET: the table's host_rate, but the old rate until the PARAM_VALUE of a change that is in
transmission has left (R178). -/
def State.rateAfterReset (s : State) : Nat :=
  match s.sending with
  | some r => if r.rateAfter.isSome then s.linkRate else s.params.hostRate
  | none => s.params.hostRate

/-- RESET (R156, R171): every block at its reset value, host_rate kept, and READY with the RESET's tag and cause SOFT
queued behind the report in transmission. The case of two changed rates that wait is log entry 13 (DESIGN CHOICE,
unsafe). -/
def State.serveReset (s : State) (tag : Tag) : State :=
  { State.reset with
    params := { Params.default with hostRate := s.params.hostRate }
    linkRate := s.rateAfterReset
    reports := s.keptReport ++
      [{ tag := tag, body := .ready true s.params.hostRate, rateAfter := none }]
    pending := s.pending }

/-! ## The dispatcher (R144, R145) -/

/-- A well-formed request served whole, in one claim. -/
def State.serve (s : State) (f : Frame) : Request → State
  | .getRoster start count => s.serveGetRoster f.tag start count
  | .getEntry i => s.serveGetEntry f.tag i
  | .getLine l => s.serveGetLine f.tag l
  | .getHeld => s.serveGetHeld f.tag
  | .getLink => s.serveGetLink f.tag
  | .getParam id => s.serveGetParam f id
  | .setParam id v => s.serveSetParam f id v
  | .cancel target => s.serveCancel f.tag target
  | .reset => s.serveReset f.tag
  | .census l p e b n bits => s.serveCensus f l p e b n bits
  | .readNode i off len => s.serveReadNode f i off len
  | .writeNode i off bs => s.serveWriteNode f i off bs
  | .forget i => s.serveForget f i
  | .linePower l d => s.serveLinePower f l d
  | .stop => s.serveStop f

/-- A frame taken by the dispatcher: an unknown kind and a malformed body are refused before every other check
(R145). -/
def State.handle (s : State) (f : Frame) : State :=
  match readRequest f.kind f.body with
  | .unknownKind => s.refuse f .unknownKind
  | .malformed => s.refuse f .malformed
  | .request r => s.serve f r

/-- The dispatcher takes the oldest frames one at a time, each as soon as the unreserved room is at least 2 (R144). -/
def State.drain : Nat → State → State
  | 0, s => s
  | n + 1, s =>
    match s.inbound with
    | [] => s
    | f :: rest =>
      if Config.takeRoom ≤ s.room then State.drain n (({ s with inbound := rest } : State).handle f)
      else s

/-- The dispatcher takes every frame it can. -/
def State.dispatch (s : State) : State := State.drain s.inbound.length s

/-- A good frame arrives at the inbound buffer (R142): it joins, or is discarded and counted when the buffer is full. -/
def State.join (s : State) (f : Frame) : State :=
  if s.inbound.length < Config.inboundMax then { s with inbound := s.inbound ++ [f] }
  else { s with rxDiscards := bump16 s.rxDiscards }

/-- A good frame arrives and the dispatcher takes what it can. A request command brings its frame whole, and frames are
taken in the claim that makes room: DESIGN CHOICE, unsafe (log entry 1); its body may be of any length (log entry
20). -/
def State.arrive (s : State) (kind : Byte) (tag : Tag) (body : List Byte) : State :=
  (s.join { kind := kind, tag := tag, body := body }).dispatch

/-! ## The receiver (R139, R140, R141) -/

/-- A byte while hunting: a sync byte begins a frame, any other is skipped. -/
def State.huntByte (s : State) (b : Byte) : State :=
  if b = Config.syncByte then
    { s with rx := .collecting [] (s.clock + BitVec.ofNat 32 Config.gapMs) }
  else { s with rx := .hunting }

/-- The bytes 1..N+1 of a frame and its two CRC bytes, from the bytes gathered after the sync. -/
def crcAgrees (bytes : List Byte) : Bool :=
  let covered := bytes.take (bytes.length - 2)
  crc16 covered == crcOf (bytes.drop (bytes.length - 2))

/-- A frame whose last CRC byte has been collected is judged (R141). -/
def State.frameDone (s : State) (bytes : List Byte) : State :=
  let s := { s with rx := .hunting }
  if crcAgrees bytes then
    s.arrive (bytes.getD 1 0) (bytes.getD 2 0) ((bytes.drop 3).take (bytes.length - 5))
  else { s with rxCrcErrors := bump16 s.rxCrcErrors }

/-- A byte while collecting (R139): the length first, then N + 2 more bytes. -/
def State.collectByte (s : State) (bytes : List Byte) (b : Byte) : State :=
  let gathered := bytes ++ [b]
  let more := { s with rx := .collecting gathered (s.clock + BitVec.ofNat 32 Config.gapMs) }
  match gathered with
  | n :: rest =>
    if n.toNat < 2 ∨ 252 < n.toNat then
      { s with rx := .hunting, rxBadLength := bump16 s.rxBadLength }
    else if rest.length = n.toNat + 2 then s.frameDone gathered
    else more
  | [] => more

/-- The frame being collected is discarded by the gap (R140). -/
def State.gapDiscard (s : State) : State :=
  { s with rx := .hunting, rxTimeouts := bump16 s.rxTimeouts }

/-- Has the clock gone past the gap timer's expiry? Past, and not only at it: the gap then lasted more than 20 ms.
DESIGN CHOICE, unsafe (log entry 14): below one millisecond the clock tells nothing. -/
def gapPassed (now gapAt : Clock) : Bool := Config.longestSpan < (gapAt - now).toNat

/-! ## The commands of the host link -/

/-- GET_ROSTER (R39). -/
def execGetRoster (tag : Tag) (body : List Byte) (s : State) : Out := .next (s.arrive 0x01 tag body)

/-- GET_ENTRY (R40). -/
def execGetEntry (tag : Tag) (body : List Byte) (s : State) : Out := .next (s.arrive 0x02 tag body)

/-- GET_LINE (R136). -/
def execGetLine (tag : Tag) (body : List Byte) (s : State) : Out := .next (s.arrive 0x03 tag body)

/-- GET_HELD (R89). -/
def execGetHeld (tag : Tag) (body : List Byte) (s : State) : Out := .next (s.arrive 0x04 tag body)

/-- GET_LINK (R158). -/
def execGetLink (tag : Tag) (body : List Byte) (s : State) : Out := .next (s.arrive 0x05 tag body)

/-- GET_PARAM (R174). -/
def execGetParam (tag : Tag) (body : List Byte) (s : State) : Out := .next (s.arrive 0x06 tag body)

/-- SET_PARAM (R175). -/
def execSetParam (tag : Tag) (body : List Byte) (s : State) : Out := .next (s.arrive 0x07 tag body)

/-- CANCEL (R152). -/
def execCancel (tag : Tag) (body : List Byte) (s : State) : Out := .next (s.arrive 0x08 tag body)

/-- RESET (R156). -/
def execReset (tag : Tag) (body : List Byte) (s : State) : Out := .next (s.arrive 0x09 tag body)

/-- CENSUS (R56). -/
def execCensus (tag : Tag) (body : List Byte) (s : State) : Out := .next (s.arrive 0x10 tag body)

/-- READ_NODE (R109). -/
def execReadNode (tag : Tag) (body : List Byte) (s : State) : Out := .next (s.arrive 0x11 tag body)

/-- WRITE_NODE (R109). -/
def execWriteNode (tag : Tag) (body : List Byte) (s : State) : Out := .next (s.arrive 0x12 tag body)

/-- FORGET (R118). -/
def execForget (tag : Tag) (body : List Byte) (s : State) : Out := .next (s.arrive 0x13 tag body)

/-- LINE_POWER (R127). -/
def execLinePower (tag : Tag) (body : List Byte) (s : State) : Out := .next (s.arrive 0x14 tag body)

/-- STOP (R154). -/
def execStop (tag : Tag) (body : List Byte) (s : State) : Out := .next (s.arrive 0x15 tag body)

/-- UNKNOWN_KIND (R145). -/
def execUnknownKind (kind : Byte) (tag : Tag) (body : List Byte) (s : State) : Out :=
  .next (s.arrive kind tag body)

/-- POWER_ON_RESET (R157): the state right after power-on; the commands still waiting are not the part's. -/
def execPowerOnReset (s : State) : Out := .next { State.reset with pending := s.pending }

/-- RX_BYTE (R139, R140): a byte that ends a gap of more than 20 ms discards the frame and is the first byte examined in
hunting. -/
def execRxByte (b : Byte) (s : State) : Out :=
  match s.rx with
  | .hunting => .next (s.huntByte b)
  | .collecting bytes gapAt =>
    if gapPassed s.clock gapAt then .next (s.gapDiscard.huntByte b)
    else .next (s.collectByte bytes b)

/-- RX_GAP_TIMEOUT (R140). Between frames there is no gap limit. -/
def execRxGapTimeout (s : State) : Out :=
  match s.rx with
  | .hunting => .next s
  | .collecting _ gapAt => .next (s.passTo gapAt).gapDiscard

/-- The head's last byte leaves (R161): its slot is free, a marked PARAM_VALUE sets the link rate (R143, R178), and a
report behind it is the head, not yet in transmission at this clock value (R171). -/
def State.depart (s : State) (r : Report) (rest : List Report) : State :=
  { s with reports := rest, linkRate := r.rateAfter.getD s.linkRate,
           departed := if rest.isEmpty then none else some s.clock }

/-- REPORT_SENT (R161): the head leaves, and the dispatcher takes what the room now allows (R144). -/
def execReportSent (s : State) : Out :=
  match s.reports with
  | r :: rest => .next (s.depart r rest).dispatch
  | [] => .next s

end Sys2Proof.Machine
end

