-- ==== Sys2Proof/Machine/Dispatch.lean ====
section
/-! DEFINITION. The meaning of each command: one arm per constructor of Instr, in the order of
spec/opcode_table.json. -/

namespace Sys2Proof.Machine

open Sys2Proof

def exec (i : Instr) (s : State) : Host.Outcome State Fault Refusal :=
  match i with
  | .getRoster tag body => Sys2Proof.Machine.execGetRoster tag body s
  | .getEntry tag body => Sys2Proof.Machine.execGetEntry tag body s
  | .getLine tag body => Sys2Proof.Machine.execGetLine tag body s
  | .getHeld tag body => Sys2Proof.Machine.execGetHeld tag body s
  | .getLink tag body => Sys2Proof.Machine.execGetLink tag body s
  | .getParam tag body => Sys2Proof.Machine.execGetParam tag body s
  | .setParam tag body => Sys2Proof.Machine.execSetParam tag body s
  | .cancel tag body => Sys2Proof.Machine.execCancel tag body s
  | .reset tag body => Sys2Proof.Machine.execReset tag body s
  | .census tag body => Sys2Proof.Machine.execCensus tag body s
  | .readNode tag body => Sys2Proof.Machine.execReadNode tag body s
  | .writeNode tag body => Sys2Proof.Machine.execWriteNode tag body s
  | .forget tag body => Sys2Proof.Machine.execForget tag body s
  | .linePower tag body => Sys2Proof.Machine.execLinePower tag body s
  | .stop tag body => Sys2Proof.Machine.execStop tag body s
  | .unknownKind kind tag body => Sys2Proof.Machine.execUnknownKind kind tag body s
  | .powerOnReset => Sys2Proof.Machine.execPowerOnReset s
  | .rxByte byte => Sys2Proof.Machine.execRxByte byte s
  | .rxGapTimeout => Sys2Proof.Machine.execRxGapTimeout s
  | .reportSent => Sys2Proof.Machine.execReportSent s
  | .settlingExpiry line => Sys2Proof.Machine.execSettlingExpiry line s
  | .overcurrentTrip line => Sys2Proof.Machine.execOvercurrentTrip line s
  | .lineGrant line => Sys2Proof.Machine.execLineGrant line s
  | .callSent line => Sys2Proof.Machine.execCallSent line s
  | .slotWindow line heard => Sys2Proof.Machine.execSlotWindow line heard s
  | .claimWindow line heard => Sys2Proof.Machine.execClaimWindow line heard s
  | .bindOutcome line heard => Sys2Proof.Machine.execBindOutcome line heard s
  | .hushWindow line heard => Sys2Proof.Machine.execHushWindow line heard s
  | .pollWindow line heard => Sys2Proof.Machine.execPollWindow line heard s
  | .pollDue line => Sys2Proof.Machine.execPollDue line s
  | .attemptWindow line heard => Sys2Proof.Machine.execAttemptWindow line heard s
  | .releaseWindow line heard => Sys2Proof.Machine.execReleaseWindow line heard s
  | .quarantineExpiry line => Sys2Proof.Machine.execQuarantineExpiry line s
  | .hushExpiry => Sys2Proof.Machine.execHushExpiry s

end Sys2Proof.Machine
end

