-- ==== Sys2Proof/Machine/Cable.lean ====
section
/-! DEFINITION. The electrical facts and the bit times of the string lines and of the UART that bear on behaviour
(section 1.1; R1, R2, R3, R138, R143, R161), as functions beside the state: when a call, a window or a report ends is
told to the part by its command (log entry 7). -/

namespace Sys2Proof.Machine

/-! ## Supply and the overcurrent trip (R1) -/

/-- Does a line in this state supply 24 V to its cable (R1)? -/
def LinePower.supplied : LinePower → Bool
  | .settling | .up => true
  | .off | .fault => false

/-- The load a line is rated to carry, in mA (R1). -/
def ratedLoad : Nat := 400

/-- The current above which the trip measure runs, in mA (R1). -/
def tripCurrent : Nat := 450

/-- How long the current must stay above it without a break, in microseconds (R1). -/
def tripTime : Nat := 2000

/-- Does a powered line take a trip over a trace of its current: one sample in mA every `us` microseconds, `above`
being how long the current has been above 450 mA without a break? At 450 mA or below the measure starts again. -/
def tripsFrom (us above : Nat) : List Nat → Bool
  | [] => false
  | mA :: rest =>
    if tripCurrent < mA then tripTime ≤ above + us || tripsFrom us (above + us) rest
    else tripsFrom us 0 rest

/-- Does a line in a state take a trip over a trace of its current (R1)? Only while it is powered. -/
def trips (p : LinePower) (us : Nat) (trace : List Nat) : Bool := p.supplied && tripsFrom us 0 trace

/-! ## Bit times of a line (R2, R3) -/

/-- Bits per second of a speed grade (R2). -/
def gradeRate : Nat → Option Nat
  | 1 => some 19200
  | 2 => some 57600
  | 3 => some 153600
  | _ => none

/-- Length of an answer window in bit-times (R2). -/
def windowBits : Nat := 32

/-- The quiet bit-times that end a long answer (R3). -/
def quietBits : Nat := 4

/-- The length of some bit-times in nanoseconds, rounded down, at a rate in bits per second. -/
def bitsNs (rate bits : Nat) : Nat := bits * 1000000000 / rate

/-- The listening limit after the opening of a window, in bit-times (R3): the longest answer the call admits, begun at
the last bit-time of the window, and the quiet bit-times after it. The manual gives no bit layout, so the length of the
longest answer is a parameter. -/
def listeningLimit (longestAnswer : Nat) : Nat := windowBits - 1 + longestAnswer + quietBits

/-- An answer by its place in a window (R3, R4): the bit-time at which it began, counted from 0, and its length. -/
def placed (a : Answer) (checkOk : Bool) (began length longestAnswer : Nat) : HeardAnswer :=
  { answer := a, checkOk := checkOk, inWindow := began < windowBits,
    inLimit := began + length ≤ listeningLimit longestAnswer }

/-! ## The line frame check (00, Checks) -/

/-- One bit of a call or answer taken into its 8-bit check, polynomial x^8 + x^2 + x + 1, most significant bit
first. The manual states that bit order for the host CRC only: DESIGN CHOICE, safe (log entry 26). -/
def lineCheckBit (c : BitVec 8) (b : Bool) : BitVec 8 :=
  if c.msb != b then (c <<< 1) ^^^ 0x07 else c <<< 1

/-- The line frame check of the bits of a kind and its fields: initial value 00 hex. That nothing is
inverted at the end is the model's: DESIGN CHOICE, safe (log entry 26). -/
def lineCheck (bits : List Bool) : BitVec 8 := bits.foldl lineCheckBit 0

/-! ## The UART (R1, R143, R161, R172) -/

/-- Bits per second of a host rate (R172). -/
def hostBitRate : Nat → Option Nat
  | 1 => some 57600
  | 2 => some 115200
  | 3 => some 230400
  | 4 => some 460800
  | _ => none

/-- Bit-times one byte takes on the UART: a start bit, 8 data bits, no parity, one stop bit (R1, R161). -/
def bitsPerByte : Nat := 10

/-- Bit-times a report takes to leave: 10 for each byte of its frame (R161). -/
def Report.bitTimes (r : Report) : Nat := bitsPerByte * r.frame.length

end Sys2Proof.Machine
end

