-- ==== Sys2Proof/Machine/Node.lean ====
section
/-! DEFINITION. A conforming node as the controller relies on it (sections 1.3 to 1.6; R5 to R16), and what a line of
nodes lets the controller hear. Nodes are not state of the part: they are the other end of its cable (log entry 6). -/

namespace Sys2Proof.Machine

/-- A node's part in the round (section 1.3). `answered` says whether its STUB stands in the window of the present slot
(R8). -/
inductive RoundPosition where
  | notInRound
  | counting (slots : Nat)
  | answered (presentSlot : Bool)
  | claimed
deriving DecidableEq, Repr

/-- The address a node holds, its current lease and what is left of it, in ms (section 1.3, R9, R11). -/
structure Held where
  address : Address
  leaseMs : Nat
  leftMs : Nat
deriving DecidableEq, Repr

/-- The state of a node (section 1.3). A byte of its memory stands with whether it is write-protected. `hushLeft` is
what is left of its hush in ms, none when it is not hushed; `speed` is the grade it has taken from its line since it last
received power, none before it has received a call (section 1.1). -/
structure Node where
  identity : Ident
  memory : List (Byte × Bool)
  attention : Bool
  powered : Bool
  held : Option Held
  hushLeft : Option Nat
  position : RoundPosition
  handle : Option Handle
  speed : Option Nat := none
deriving DecidableEq, Repr

/-- A node at the moment it receives power (R5). Its attention flag and memory are its own and stand as they are: what the
node does with them is `Node.ownChange`. -/
def Node.powerUp (n : Node) : Node :=
  { n with powered := true, held := none, hushLeft := none, position := .notInRound, handle := none,
           speed := none }

/-- What a node does by itself with its attention flag and its memory (section 1.3, R5, R12): its size, contents and
protection and the flag are the node's own matter, so what they are afterwards are the operands, and a node that leaves them
alone gives the ones it has. That such a change comes between calls, at a moment of the node's own, and that no call but
a WRITE and no passing of time brings one, is a DESIGN CHOICE, safe (log entry 29). -/
def Node.ownChange (n : Node) (attention : Bool) (memory : List (Byte × Bool)) : Node :=
  { n with attention := attention, memory := memory }

/-- A node whose line stops supplying power (R16). What becomes of its attention flag and of its memory is the node's own
matter (R5, section 1.3): the operands say what they are afterwards, so neither their being kept nor their being lost is
fixed (DESIGN CHOICE, safe: log entry 29). -/
def Node.powerLoss (n : Node) (attention : Bool) (memory : List (Byte × Bool)) : Node :=
  { (n.ownChange attention memory).powerUp with powered := false }

/-- Are the fields of a call within the ranges of section 1.2 (R5)? -/
def Call.inRange : Call → Bool
  | .roll e p _ => e ≤ 12 && p ≤ 64
  | .step => true
  | .claim _ => true
  | .bind _ a lease => 1 ≤ a && a ≤ 240 && 200 ≤ lease && lease ≤ 60000
  | .hush _ s => 1 ≤ s && s ≤ 600
  | .poll a => 1 ≤ a && a ≤ 240
  | .read a off len => 1 ≤ a && a ≤ 240 && off ≤ 4095 && 1 ≤ len && len ≤ 32
  | .write a off bs => 1 ≤ a && a ≤ 240 && off ≤ 4095 && 1 ≤ bs.length && bs.length ≤ 32
  | .release a s => 1 ≤ a && a ≤ 240 && 1 ≤ s && s ≤ 600

/-- Does an identity begin with the first `p` bits of a scope prefix (section 1.2)? -/
def inScope (i : Ident) (p : Nat) (bits : BitVec 64) : Bool := i >>> (64 - p) == bits >>> (64 - p)

/-- Is a node eligible at a ROLL (R6)? -/
def Node.eligible (n : Node) (p : Nat) (bits : BitVec 64) : Bool :=
  n.powered && n.held.isNone && n.hushLeft.isNone && inScope n.identity p bits

/-- The node's check word. -/
def Node.check (n : Node) : CheckWord := checkWord n.identity

/-- Its lease timer restarts at its current lease (R11). -/
def Node.refresh (n : Node) : Node :=
  { n with held := n.held.map fun h => { h with leftMs := h.leaseMs } }

/-- An eligible node's draw at a ROLL of exponent `e`: a slot count below 2^e and a handle (R6). The draws are the
node's chance, so they are operands. -/
def Node.draw (n : Node) (e s : Nat) (h : Handle) : Node × Option Answer :=
  if s % 2 ^ e = 0 then
    ({ n with handle := some h, position := .answered true }, some (.stub h))
  else ({ n with handle := some h, position := .counting (s % 2 ^ e) }, none)

/-- A ROLL (R6): an addressed node refreshes its lease; an eligible one draws; any other is not in the round. -/
def Node.onRoll (n : Node) (e p : Nat) (bits : BitVec 64) (s : Nat) (h : Handle) : Node × Option Answer :=
  if n.held.isSome then (n.refresh, none)
  else if n.eligible p bits then n.draw e s h
  else ({ n with position := .notInRound }, none)

/-- A STEP (R7): a counting node counts down and answers at 0; a claimed node returns to answered (R8). -/
def Node.onStep (n : Node) : Node × Option Answer :=
  match n.position, n.handle with
  | .counting (k + 1), some h =>
    if k = 0 then ({ n with position := .answered true }, some (.stub h))
    else ({ n with position := .counting k }, none)
  | .answered _, _ => ({ n with position := .answered false }, none)
  | .claimed, _ => ({ n with position := .answered false }, none)
  | _, _ => (n, none)

/-- A CLAIM (R8): answered by a node of that handle whose STUB stands in the present slot, and again by a node claimed
in it. -/
def Node.onClaim (n : Node) (h : Handle) : Node × Option Answer :=
  if n.handle = some h ∧ (n.position = .answered true ∨ n.position = .claimed) then
    ({ n with position := .claimed }, some (.identity n.identity n.memory.length))
  else (n, none)

/-- A BIND (R9). -/
def Node.onBind (n : Node) (h : Handle) (a : Address) (lease : Nat) : Node × Option Answer :=
  if n.position = .claimed ∧ n.handle = some h then
    ({ n with held := some ⟨a, lease, lease⟩, position := .notInRound }, some (.ack n.check))
  else (n, none)

/-- A HUSH (R10). -/
def Node.onHush (n : Node) (h : Handle) (hushS : Nat) : Node × Option Answer :=
  if n.position = .claimed ∧ n.handle = some h then
    ({ n with hushLeft := some (hushS * 1000), position := .notInRound }, some (.ack n.check))
  else (n, none)

/-- A READ that carries the node's address (R13): range, then busy, then the bytes. -/
def Node.serveRead (n : Node) (off len : Nat) (busy : Bool) : Answer :=
  if n.memory.length < off + len then .refusal n.check .range
  else if busy then .refusal n.check .busy
  else .data n.check (((n.memory.drop off).take len).map (·.1))

/-- Memory with bytes stored from an offset on. -/
def storeBytes (m : List (Byte × Bool)) (off : Nat) (bs : List Byte) : List (Byte × Bool) :=
  m.take off ++ bs.zipWith (fun b c => (b, c.2)) (m.drop off) ++ m.drop (off + bs.length)

/-- A WRITE that carries the node's address (R14): range, then write protection of any byte, then busy, then every
byte is stored. A refused WRITE leaves the whole region unchanged. -/
def Node.serveWrite (n : Node) (off : Nat) (bs : List Byte) (busy : Bool) : Node × Answer :=
  if n.memory.length < off + bs.length then (n, .refusal n.check .range)
  else if ((n.memory.drop off).take bs.length).any (·.2) then (n, .refusal n.check .writeProtected)
  else if busy then (n, .refusal n.check .busy)
  else ({ n with memory := storeBytes n.memory off bs }, .ack n.check)

/-- A RELEASE that carries the node's address (R15). -/
def Node.serveRelease (n : Node) (hushS : Nat) : Node × Answer :=
  ({ n with held := none, hushLeft := some (hushS * 1000), position := .notInRound }, .ack n.check)

/-- Does the node hold the address? -/
def Node.holds (n : Node) (a : Address) : Bool := n.held.any (·.address == a)

/-- A call that carries an address, at a node (R11 to R15): ignored unless the node holds it; each restarts the lease,
answered or refused. -/
def Node.onAddressed (n : Node) (c : Call) (busy : Bool) : Node × Option Answer :=
  if n.holds c.address then
    let n := n.refresh
    match c with
    | .poll _ => (n, some (.status n.check n.attention))
    | .read _ off len => (n, some (n.serveRead off len busy))
    | .write _ off bs => let (m, a) := n.serveWrite off bs busy; (m, some a)
    | .release _ hushS => let (m, a) := n.serveRelease hushS; (m, some a)
    | _ => (n, none)
  else (n, none)

/-- A call at a node (R5 to R15). `received` says that the node received it with a correct check; `s` and `h` are its
draws at a ROLL; `busy` says that it cannot serve a READ or WRITE now. A call not received, or with a field out of
range, is ignored, and so is any call by a node without power (R5). An addressed node ignores STEP, CLAIM, BIND and
HUSH (R11). -/
def Node.hear (n : Node) (c : Call) (received : Bool) (s : Nat) (h : Handle) (busy : Bool) :
    Node × Option Answer :=
  if n.powered && received && c.inRange then
    match c with
    | .roll e p bits => n.onRoll e p bits s h
    | .step => if n.held.isSome then (n, none) else n.onStep
    | .claim k => if n.held.isSome then (n, none) else n.onClaim k
    | .bind k a lease => if n.held.isSome then (n, none) else n.onBind k a lease
    | .hush k hushS => if n.held.isSome then (n, none) else n.onHush k hushS
    | _ => n.onAddressed c busy
  else (n, none)

/-- A call sent at a line's speed grade, at a node (section 1.1): a node that has just received power takes the speed of
the first call it receives correctly, and a node at another speed than the call's does not receive it. A call with a
field out of range leaves the speed alone as well, as if it had not been sent (R5). -/
def Node.hearAt (n : Node) (grade : Nat) (c : Call) (received : Bool) (s : Nat) (h : Handle) (busy : Bool) :
    Node × Option Answer :=
  if n.powered && received && c.inRange && n.speed.all (· == grade) then
    Node.hear { n with speed := some grade } c true s h busy
  else (n, none)

/-- The lease timer after some ms (R11): at zero the node drops its address. -/
def Held.elapse (ms : Nat) (h : Held) : Option Held :=
  if h.leftMs ≤ ms then none else some { h with leftMs := h.leftMs - ms }

/-- The hush timer after some ms (R10): at zero the hush ends. -/
def hushElapse (ms left : Nat) : Option Nat := if left ≤ ms then none else some (left - ms)

/-- Some ms pass at a node (R10, R11). Its timers run out without bringing it into a round under way (R7). -/
def Node.elapse (n : Node) (ms : Nat) : Node :=
  { n with held := n.held.bind (·.elapse ms), hushLeft := n.hushLeft.bind (hushElapse ms) }

/-! ## A line of nodes -/

/-- One node of a line with what a call meets there: whether it is received, the draws, whether the node is busy. -/
structure AtNode where
  node : Node
  received : Bool
  slots : Nat
  handle : Handle
  busy : Bool
deriving DecidableEq, Repr

/-- A call at every node of a line, sent at the line's speed grade: the nodes after it and the answers, in the order of
the nodes. -/
def callLine (grade : Nat) (ns : List AtNode) (c : Call) : List Node × List Answer :=
  let rs := ns.map fun x => x.node.hearAt grade c x.received x.slots x.handle x.busy
  (rs.map (·.1), rs.filterMap (·.2))

/-- What the controller hears of answers sent with correct checks inside the window and the listening limit, each heard
as it was sent: silence when no node answered; one answer is heard whole; two or more overlap or follow one another
(R4). -/
def hearingOf : List Answer → Heard
  | [] => .silence
  | as_ => .energy (as_.map fun a => ⟨a, true, true, true⟩) false

end Sys2Proof.Machine
end

