-- ==== Sys2Proof/Safety.lean ====
section
/-! DEFINITION. The laws of the device: what the manual says holds of the part at all times, law by law, in the terms
the statements use. Each is decidable. -/

namespace Sys2Proof.Machine

/-! ## Addresses (R42, R43, R19) -/

/-- The addresses of the entries BOUND on a line, in roster order. -/
def State.boundAddresses (s : State) (l : Line) : List Address :=
  s.roster.filterMap fun e => if e.line = l then e.address else none

/-- The addresses standing in quarantine records of a line. -/
def LineState.quarantined (L : LineState) : List Address := L.quarantine.map (·.address)

/-- The address law of a line (R43): each of 1..240 stands exactly once, in the free pool, at a BOUND entry of the line
or in a quarantine record. -/
abbrev AddressLaw (s : State) (l : Line) : Prop :=
  ((s.line l).pool ++ s.boundAddresses l ++ (s.line l).quarantined).Perm
    (List.range' 1 Config.addressMax)

/-- The held address law (R19): a held address stands in a quarantine record of the entry's line that names the entry
as its origin. -/
abbrev HeldLaw (s : State) : Prop :=
  ∀ e ∈ s.roster, ∀ a, a ∈ e.held →
    ∃ r ∈ (s.line e.line).quarantine, r.address = a ∧ r.origin = some e.identity

/-! ## The roster (R17, R18, R19, R28) -/

/-- The index law (R18): at most 256 entries, no two of one identity; and the model's own serials tell entries apart. -/
abbrev RosterLaw (s : State) : Prop :=
  s.roster.length ≤ Config.rosterMax ∧ (s.roster.map (·.identity)).Nodup ∧
    (s.roster.map (·.serial)).Nodup ∧ ∀ e ∈ s.roster, e.serial < s.nextSerial

/-- The fields of an entry (R19, R28): a BOUND entry's misses are below miss_limit; a LOST or UNBOUND entry has misses
0, pending 0 and no forgetting; returns are at most 255. -/
abbrev EntryLaw (s : State) : Prop :=
  ∀ e ∈ s.roster, e.returns ≤ 255 ∧
    (e.standing.isBound = true → e.misses < s.params.missLimit) ∧
    (e.standing.isBound = false → e.misses = 0 ∧ e.pendingTx = 0 ∧ e.forgetting = none)

/-! ## The hush list (R82) -/

/-- The hush law (R82): at most 16 records, never two for one identity. -/
abbrev HushLaw (s : State) : Prop :=
  s.hush.length ≤ Config.hushMax ∧ (s.hush.map (·.identity)).Nodup

/-! ## Requests and reports (R142, R144, R150, R162) -/

/-- The room law (R162): occupied and reserved slots together never exceed 48. -/
abbrev RoomLaw (s : State) : Prop := s.reports.length + s.reserved ≤ Config.reportSlots

/-- The table law (R150): at most 24 open requests, no two of one tag and none of tag 0, and the stop record's tag is
held by none of them and is not 0. -/
abbrev TableLaw (s : State) : Prop :=
  s.table.length ≤ Config.tableMax ∧ (s.table.map (·.tag)).Nodup ∧ (∀ r ∈ s.table, r.tag ≠ 0) ∧
    ∀ r ∈ s.stop, r.tag ≠ 0 ∧ ∀ q ∈ s.table, q.tag ≠ r.tag

/-- The inbound law (R142, R144): at most 4 frames wait, and none waits while the unreserved room is 2 or more. -/
abbrev InboundLaw (s : State) : Prop :=
  s.inbound.length ≤ Config.inboundMax ∧ (s.inbound ≠ [] → s.room < Config.takeRoom)

/-- The bytes a receiver may stand collecting (R139): after a length N of 2..252, fewer than N + 2 more. -/
def Receiver.legal : Receiver → Bool
  | .hunting => true
  | .collecting [] _ => true
  | .collecting (n :: rest) _ =>
    2 ≤ n.toNat && n.toNat ≤ 252 && rest.length < n.toNat + 2

/-- The receiver law (R139). -/
abbrev ReceiverLaw (s : State) : Prop := s.rx.legal = true

/-! ## Operating parameters (R172) -/

/-- The parameter law (R172): every value in its range and both cross-checks satisfied. -/
abbrev ParamLaw (s : State) : Prop :=
  (∀ id ∈ List.range' 1 12, ∀ v ∈ s.params.value id, ∀ r ∈ paramRange id, r.1 ≤ v ∧ v ≤ r.2) ∧
    s.params.crossOk = true

/-- The link law (R172, R178): the link runs at a host rate, and so does every rate a queued reply will bring. -/
abbrev LinkLaw (s : State) : Prop :=
  (1 ≤ s.linkRate ∧ s.linkRate ≤ 4) ∧
    ∀ r ∈ s.reports, ∀ v ∈ r.rateAfter, 1 ≤ v ∧ v ≤ 4

/-! ## Lines (R52, R57, R91, R107, R123, R124, R127, R128, R134, R137) -/

/-- A line that is not UP (R52, R57, R91, R122, R124): no census, cycle, record, operation or quarantine, counts 0,
and no entry BOUND on it. -/
abbrev DownLaw (s : State) (l : Line) : Prop :=
  (s.line l).power ≠ .up →
    (s.line l).census = none ∧ (s.line l).poll = none ∧ (s.line l).queue = [] ∧
      (s.line l).op = none ∧ (s.line l).quarantine = [] ∧
      ((s.line l).passedT = 0 ∧ (s.line l).passedP = 0 ∧ (s.line l).passedC = 0) ∧
      ∀ e ∈ s.roster, e.boundOn l = false

/-- The supervisor of a line (R127, R128, R130, R134): the settling timer runs exactly in SETTLING, a grade is in force
exactly while the line is powered, an open on means SETTLING, an open off means UP with an operation in flight, and an
UP line has a poll cycle. -/
abbrev PowerLaw (s : State) (l : Line) : Prop :=
  ((s.line l).settleAt.isSome = true ↔ (s.line l).power = .settling) ∧
    ((s.line l).speed.isSome = (s.line l).power.supplied) ∧
    ((s.line l).power = .settling ↔ (s.line l).openPower.any (·.2 == .on) = true) ∧
    ((s.line l).offOpen = true → (s.line l).power = .up ∧ (s.line l).op.isSome = true) ∧
    ((s.line l).power = .up → (s.line l).poll.isSome = true)

/-- The queue of a line (R107, R110): at most 16 records, only the head ever runs, a record is in flight only while an
attempt holds the line, and attempts never exceed 8. -/
abbrev QueueLaw (s : State) (l : Line) : Prop :=
  (s.line l).queue.length ≤ Config.queueMax ∧
    (∀ r ∈ (s.line l).queue.tail, r.attempts = 0 ∧ r.inFlight = false) ∧
    ∀ r ∈ (s.line l).queue, r.attempts ≤ 8 ∧ (r.inFlight = false → r.attempts ≤ 7) ∧
      (r.inFlight = true → (s.line l).attemptInFlight = true)

/-- Is a call one that an attempt of the record sends (R110)? -/
def Txn.sentBy (r : Txn) : Call → Bool
  | .read _ off len => r.work == .read off len
  | .write _ off bs => r.work == .write off bs
  | .release _ _ => r.work == .release
  | _ => false

/-- The attempt of a line (R110): a record in flight is the one whose call the operation in progress sends. -/
abbrev FlightLaw (s : State) (l : Line) : Prop :=
  ∀ r ∈ (s.line l).queue, r.inFlight = true →
    ∃ o ∈ (s.line l).op, o.work = .attempt ∧ r.sentBy o.call = true

/-- The targets of a line's queue (R107): every record names an entry BOUND on the line. -/
abbrev TargetLaw (s : State) (l : Line) : Prop :=
  ∀ r ∈ (s.line l).queue, ∃ e ∈ s.roster, e.identity = r.target ∧ e.boundOn l = true

/-- The pending counts (R36): a BOUND entry's pending is the number of records of its line's queue that name it. -/
abbrev PendingLaw (s : State) : Prop :=
  ∀ e ∈ s.roster, e.standing.isBound = true →
    e.pendingTx = (s.line e.line).queue.countP (·.target == e.identity)

/-- The forgets of a line's queue (R33, R118, R121): a forgetting entry has a RELEASE with its tag in the queue of its
line, every RELEASE belongs to one, and no record behind a RELEASE names its target. -/
abbrev ForgetLaw (s : State) (l : Line) : Prop :=
  (∀ e ∈ s.roster, e.line = l → ∀ t ∈ e.forgetting,
    ∃ r ∈ (s.line l).queue, r.tag = t ∧ r.work = .release ∧ r.target = e.identity) ∧
    (∀ r ∈ (s.line l).queue, r.work = .release →
      ∃ e ∈ s.roster, e.identity = r.target ∧ e.forgetting = some r.tag) ∧
    (s.line l).queue.Pairwise fun x y => x.work = .release → y.target ≠ x.target

/-- The arbiter's counts (section 8.1, What the counts guarantee): the executor waits through at most 2 grants, the
scheduler through at most 4 and the sequencer through at most 5; and what makes it so. -/
abbrev ArbiterLaw (s : State) (l : Line) : Prop :=
  ((s.line l).passedT ≤ 2 ∧ (s.line l).passedP ≤ 4 ∧ (s.line l).passedC ≤ 5) ∧
    ((s.line l).passedT = 1 → (s.line l).passedP = 0 ∨ (s.line l).passedC = 0) ∧
    ((s.line l).passedT = 2 → (s.line l).passedP ≤ 1 ∧ (s.line l).passedC ≤ 1) ∧
    ((s.line l).passedC = 5 → (s.line l).passedP = 0)

/-- A contender that is not waiting has count 0 (R124), and a cycle with nothing left to do has finished (R98). -/
abbrev WaitLaw (s : State) (l : Line) : Prop :=
  (∀ c ∈ [Contender.executor, .scheduler, .sequencer],
    s.waits l c = false → (s.line l).passed c = 0) ∧ s.cycleDone l = false

/-- The slot whose STUB was heard alone and whose CLAIM, BIND or HUSH is still to end: 1 while there is one, else 0. -/
def LineState.slotsOpened (L : LineState) : Nat :=
  match L.op.map LineOp.work with
  | some .slotClaim | some (.slotBind _ _ _ _) | some (.slotHush _ _ _ _) => 1
  | _ => 0

/-- The round counters of a census (R58, R61, R67): a slot operation belongs to a census; the slot index stays below the
slot count of the round, the exponent within 0..12, the round number is the rounds total; and within a round E + S + C is
the number of slots opened so far, while each single slot is spoiled or bound at most once. -/
abbrev CensusLaw (s : State) (l : Line) : Prop :=
  ((s.line l).slotInProgress = true → (s.line l).census.isSome = true) ∧
    ∀ c ∈ (s.line l).census, c.exponent ≤ Config.exponentMax ∧ c.slotIndex < 2 ^ c.exponent ∧
      c.roundNumber = c.totals.rounds ∧
      ((s.line l).slotInProgress = true ∨ c.slotIndex ≠ 0 →
        c.emptySlots + c.singleSlots + c.collidedSlots = c.slotIndex + (s.line l).slotsOpened ∧
          c.spoiledSlots + c.boundNodes + (s.line l).slotsOpened ≤ c.singleSlots)

/-! ## What the open requests stand for (R57, R107, R127, R149, R150, R155) -/

/-- The kind of request a record is for. -/
def TxnWork.kind : TxnWork → LongKind
  | .read _ _ => .readNode
  | .write _ _ => .writeNode
  | .release => .forget

/-- What an open request asked for still stands on its line: its census, its record or its LINE_POWER. -/
def State.holds (s : State) (q : Req) : Bool :=
  let L := s.line q.line
  match q.kind with
  | .census => L.census.any (·.tag == q.tag)
  | .readNode | .writeNode | .forget =>
    L.queue.any fun r => r.tag == q.tag && r.work.kind == q.kind && q.target == some r.target
  | .linePower => L.openPower.any (·.1 == q.tag)
  | .stop => false

/-- The request law (R149, R150): every open request stands for something on its line. -/
abbrev RequestLaw (s : State) : Prop := ∀ q ∈ s.table, s.holds q = true

/-- The work of a line has its open requests (R57, R107, R127): its census, each record of its queue, no two of one tag,
and its LINE_POWER. -/
abbrev WorkLaw (s : State) (l : Line) : Prop :=
  (∀ c ∈ (s.line l).census, ∃ q ∈ s.table, q.tag = c.tag ∧ q.kind = .census ∧ q.line = l) ∧
    (∀ r ∈ (s.line l).queue, ∃ q ∈ s.table,
      q.tag = r.tag ∧ q.kind = r.work.kind ∧ q.line = l ∧ q.target = some r.target) ∧
    ((s.line l).queue.map (·.tag)).Nodup ∧
    ∀ p ∈ (s.line l).openPower, ∃ q ∈ s.table, q.tag = p.1 ∧ q.kind = .linePower ∧ q.line = l

/-- The stop law (R155): a STOP is open only while the table holds an entry. -/
abbrev StopLaw (s : State) : Prop := s.stop.isSome = true → s.table ≠ []

/-! ## Outcomes (R167) -/

/-- The outcomes a kind of long request can close with (R167). -/
def LongKind.closesWith : LongKind → CloseOutcome → Bool
  | .census, o => [.done, .budget, .cancelled, .stopped, .lineDown].contains o
  | .readNode, o =>
    [.done, .cancelled, .stopped, .lineDown, .noAnswer, .nodeBusy, .nodeRefused, .targetLost,
      .targetGone].contains o
  | .writeNode, o =>
    [.done, .cancelled, .stopped, .lineDown, .noAnswer, .nodeBusy, .nodeRefused, .targetLost,
      .targetGone].contains o
  | .forget, o => [.done, .cancelled, .stopped].contains o
  | .linePower, o => [.done, .cancelled, .faulted].contains o
  | .stop, o => o == .done

/-- Is a report in the queue one the manual allows: a CLOSED with an outcome of its kind (R167)? -/
def Report.outcomeLegal (r : Report) : Bool :=
  match r.body with
  | .closed o x => x.kind.closesWith o
  | _ => true

/-- The tag of a report (R165): a line event carries 0, and TAKEN and CLOSED carry no 0. -/
def Report.tagLegal (r : Report) : Bool :=
  match r.body with
  | .event _ (.nodeLost _ _ _ _ _) | .event _ (.attention _ _ _ _) | .event _ (.lineFault _ _ _) =>
    r.tag == 0
  | .taken _ | .closed _ _ => r.tag != 0
  | _ => true

/-- Every CLOSED in the report queue carries an outcome its kind can close with (R167), every line event carries tag 0
and every TAKEN and CLOSED a tag of 1..255 (R165). -/
abbrev ReportLaw (s : State) : Prop :=
  ∀ r ∈ s.reports, r.outcomeLegal = true ∧ r.tagLegal = true

/-! ## A safe run -/

/-- The part obeys every law of this file. -/
abbrev Lawful (s : State) : Prop :=
  (∀ l ∈ [Line.A, Line.B], AddressLaw s l ∧ DownLaw s l ∧ PowerLaw s l ∧ QueueLaw s l ∧
    FlightLaw s l ∧ TargetLaw s l ∧ ForgetLaw s l ∧ WorkLaw s l ∧ ArbiterLaw s l ∧ WaitLaw s l ∧ CensusLaw s l) ∧
    HeldLaw s ∧ RosterLaw s ∧ EntryLaw s ∧ HushLaw s ∧ RoomLaw s ∧ TableLaw s ∧ InboundLaw s ∧
    ReceiverLaw s ∧ ParamLaw s ∧ LinkLaw s ∧ PendingLaw s ∧ RequestLaw s ∧
    StopLaw s ∧ ReportLaw s

/-- A step neither faults nor is refused. -/
def Runs (s : State) : Prop := ∃ t, step s = .next t

end Sys2Proof.Machine
end

