-- ==== Sys2Proof/Certificates/Slice0/Obligations.lean ====
section
/-! DEFINITION. The statements for the provers. Unless a statement says otherwise, what it gives is the whole next
state: a field it does not name is unchanged. -/

open Sys2Proof Sys2Proof.Machine

/-! ## What the statements say things with -/

namespace Sys2Proof.Statements

/-- The dispatcher takes a frame at its arrival (R144): none waits ahead of it and the unreserved room is at least 2. -/
abbrev TakesNow (s : State) : Prop := s.inbound = [] ∧ 2 ≤ s.room

/-- A long request with this tag passes the general checks of R148, its body being well formed. -/
abbrev Admissible (s : State) (tag : Tag) : Prop :=
  TakesNow s ∧ tag ≠ 0 ∧ (∀ r ∈ s.table, r.tag ≠ tag) ∧ s.stop = none ∧ s.table.length < 24

/-- No claim is half taken (R98, R124): every contender that is not waiting has count 0 and no cycle stands that has
nothing left to do. -/
abbrev Settled (s : State) : Prop := WaitLaw s .A ∧ WaitLaw s .B

/-- A report queued without a mark. -/
abbrev report (tag : Tag) (body : ReportBody) : Report := { tag := tag, body := body, rateAfter := none }

/-- The window of a line is open for a call of this work (R3). -/
abbrev WindowOpen (s : State) (l : Line) (w : OpWork) (c : Call) : Prop :=
  (s.line l).op = some { work := w, call := c, listening := true }

/-- A slot that is not the last of its round ends with nothing to halt or to wait for: the census goes on and the line
stays UP (R61, R72, R130). -/
abbrev SlotGoesOn (s : State) (l : Line) (c : Census) : Prop :=
  (s.line l).census = some c ∧ c.slotIndex + 1 < 2 ^ c.exponent ∧ c.halt = none ∧
    (s.line l).offOpen = false

/-- A context after a slot operation that is not the last of its round (R61, R70). -/
abbrev slotCounted (c : Census) : Census :=
  { c with slotIndex := c.slotIndex + 1, totals := { c.totals with slots := c.totals.slots + 1 } }

/-- An entry's pending count raised by one (R36). -/
abbrev morePending (i : Ident) (es : List Entry) : List Entry :=
  es.map fun e => if e.identity = i then { e with pendingTx := e.pendingTx + 1 } else e

/-- An entry's pending count lowered by one (R36). -/
abbrev lessPending (i : Ident) (es : List Entry) : List Entry :=
  es.map fun e => if e.identity = i then { e with pendingTx := e.pendingTx - 1 } else e

/-- An entry answered (R28): misses 0, last_seen the clock. -/
abbrev heardFrom (i : Ident) (now : Clock) (es : List Entry) : List Entry :=
  es.map fun e => if e.identity = i then { e with misses := 0, lastSeen := now } else e

/-- The priority of a contender (section 8.1). -/
def priority : Contender → Nat
  | .executor => 1
  | .scheduler => 2
  | .sequencer => 3

/-- A contender goes before another (R125): it alone has a count of 4 or more, or both or neither have and its priority
is higher. -/
abbrev GoesBefore (L : LineState) (c d : Contender) : Prop :=
  (4 ≤ L.passed c ∧ L.passed d < 4) ∨
    ((4 ≤ L.passed c ↔ 4 ≤ L.passed d) ∧ priority c < priority d)

/-- The arbiter grants the line to this contender now (R125): the line is UP, no off is open for it, no operation is in
progress, the contender waits and goes before every other that waits. -/
abbrev Granted (s : State) (l : Line) (c : Contender) : Prop :=
  (s.line l).power = .up ∧ (s.line l).offOpen = false ∧ (s.line l).op = none ∧ s.waits l c = true ∧
    ∀ d, d ≠ c → s.waits l d = true → GoesBefore (s.line l) c d

/-- A count after a grant to another contender (R124). -/
abbrev passedOver (s : State) (l : Line) (c : Contender) : Nat :=
  (s.line l).passed c + if s.waits l c = true then 1 else 0

/-- The table with one request gone RUNNING unless it is HALTING (R108, R150). -/
abbrev runningIn (tag : Tag) (table : List Req) : List Req :=
  table.map fun q =>
    if q.tag = tag then { q with state := if q.state = .halting then .halting else .running } else q

/-- A property that every step keeps. -/
abbrev KeptByEveryStep (P : State → Prop) : Prop := ∀ s t, P s → step s = .next t → P t

/-- A property of both lines. -/
abbrev OnBothLines (P : State → Line → Prop) (s : State) : Prop := P s .A ∧ P s .B

/-- The kinds of the fifteen requests and their commands (R146). -/
abbrev requestCommands : List (Byte × (Tag → List Byte → Instr)) :=
  [(0x01, .getRoster), (0x02, .getEntry), (0x03, .getLine), (0x04, .getHeld), (0x05, .getLink),
    (0x06, .getParam), (0x07, .setParam), (0x08, .cancel), (0x09, .reset), (0x10, .census),
    (0x11, .readNode), (0x12, .writeNode), (0x13, .forget), (0x14, .linePower), (0x15, .stop)]

/-- The ranges of the twelve parameters, in the order of their ids from 1 (R172). -/
abbrev paramRanges : List (Nat × Nat) :=
  [(50, 10000), (1, 8), (200, 60000), (0, 10000), (1, 600), (0, 7), (1, 3), (1, 3), (0, 12), (0, 12), (1, 4), (0, 1)]

/-- The parameter table with a value stored, for each of the twelve ids from 1 (R172, R175). -/
abbrev storedParams (p : Params) (v : Nat) : List Params :=
  [{ p with pollPeriod := v }, { p with missLimit := v }, { p with nodeLease := v },
    { p with quarantineMargin := v }, { p with hushTime := v }, { p with retryLimit := v },
    { p with speedA := v }, { p with speedB := v }, { p with expMin := v }, { p with expMax := v },
    { p with hostRate := v }, { p with attentionReports := v }]

/-- The two cross-checks (R172): node_lease at least 2 × poll_period, exp_min no greater than exp_max. -/
abbrev CrossChecked (p : Params) : Prop := 2 * p.pollPeriod ≤ p.nodeLease ∧ p.expMin ≤ p.expMax

/-- Bytes received one after another. -/
def receive : List Byte → State → Host.Outcome State Fault Refusal
  | [], s => .next s
  | b :: bs, s =>
    match exec (.rxByte b) s with
    | .next t => receive bs t
    | o => o

/-- A 16-bit count increased by one, saturating at 65535 (R142, R164). -/
abbrev saturating (c : BitVec 16) : BitVec 16 := if c = 65535 then 65535 else c + 1

/-- The entries of a line that goes down (R31): a BOUND one goes LOST without a held address, or is gone if it carries
forgetting; a LOST one has its held address cleared; the entries of the other line stay. -/
abbrev unpoweredRoster (l : Line) (es : List Entry) : List Entry :=
  es.filterMap fun e =>
    if e.line = l then
      match e.standing, e.forgetting with
      | .bound _ _, none => some { e with standing := .lost none, misses := 0, pendingTx := 0 }
      | .bound _ _, some _ => none
      | .lost _, _ => some { e with standing := .lost none }
      | .unbound, _ => some e
    else some e

/-- The engine of a line that has gone down (R51, R100, R122, R124, R132, R134): power gone, pool, bound addresses in
roster order and quarantined addresses ascending all in the pool, nothing open. The six counters stay. -/
abbrev unpoweredLine (s : State) (l : Line) (p : LinePower) : LineState :=
  { s.line l with
    power := p, settleAt := none, speed := none, openPower := none
    pool := (s.line l).pool ++ s.boundAddresses l ++ (s.line l).quarantined.mergeSort
    quarantine := [], census := none, poll := none, queue := [], op := none
    passedT := 0, passedP := 0, passedC := 0 }

/-- The result of a record that closes without an answer of its own (R114): its attempts, and for a WRITE stored NO when
no attempt can have stored the data, else UNKNOWN. -/
abbrev unfinished (r : Txn) : CloseResult :=
  match r.work with
  | .read _ _ => .read r.attempts none none
  | _ => .write r.attempts (if r.unheard = 0 ∧ r.inFlight = false then .no else .unknown) none

/-- The CLOSED reports of a line-down sweep in its order (R31, R74, R122, R132): the FORGETs of the BOUND entries, the
census, the transactions in queue order; a RELEASE has none of its own. -/
abbrev sweepReports (s : State) (l : Line) : List Report :=
  ((s.boundEntries l).filterMap fun e =>
    e.forgetting.map fun tag => report tag (.closed .done (.forget e.identity .unpowered))) ++
  ((s.line l).census.map fun c => report c.tag (.closed .lineDown (.census c.totals))).toList ++
  (s.line l).queue.filterMap fun r =>
    if r.work = .release then none else some (report r.tag (.closed .lineDown (unfinished r)))

/-- Every report of a list closes an open request of its own. -/
abbrev AllOpen (s : State) (rs : List Report) : Prop :=
  (rs.map (·.tag)).Nodup ∧ ∀ r ∈ rs, ∃ q ∈ s.table, q.tag = r.tag

/-- The table less the requests that some reports close. -/
abbrev tableLess (rs : List Report) (table : List Req) : List Req :=
  table.filter fun q => rs.all (·.tag != q.tag)

/-- Some reports close the last open requests of the table (R155). -/
abbrev Emptied (s : State) (rs : List Report) : Prop := rs ≠ [] ∧ tableLess rs s.table = []

/-- The CLOSED of an open STOP, which follows the CLOSED that empties the table at once (R155). -/
abbrev stopClosed (s : State) (emptied : Prop) [Decidable emptied] : List Report :=
  if emptied then (s.stop.map fun r => report r.tag (.closed .done (.stop r.openCount))).toList else []

/-- The stop record after a claim that empties the table or does not (R155). -/
abbrev stopLeft (s : State) (emptied : Prop) [Decidable emptied] : Option StopRec :=
  if emptied then none else s.stop

/-- The request with a tag stands in the table, `front` before it and `back` behind it. -/
abbrev OpenAt (s : State) (tag : Tag) (front : List Req) (q : Req) (back : List Req) : Prop :=
  s.table = front ++ q :: back ∧ q.tag = tag ∧ (∀ r ∈ front ++ back, r.tag ≠ tag)

/-- The line counters after a window (R135): a silent or garbled one is counted, and so is an answer that carries a
check word other than that of the identity the call was for. -/
abbrev windowCounted (w : WindowClass) (i : Ident) (k : LineCounters) : LineCounters :=
  match w with
  | .silence => { k with silent := k.silent + 1 }
  | .garbled => { k with garbled := k.garbled + 1 }
  | .valid (.ack c) | .valid (.status c _) | .valid (.data c _) | .valid (.refusal c _) =>
    if c = i.setWidth 16 then k else { k with mismatches := k.mismatches + 1 }
  | .valid (.stub _) | .valid (.identity _ _) => k

/-- A window that holds no valid answer with the check word of an identity (R94, R111, R119). -/
abbrev NotItsAnswer (w : WindowClass) (i : Ident) : Prop :=
  (match w with
  | .valid (.ack c) | .valid (.status c _) | .valid (.data c _) | .valid (.refusal c _) =>
    c != i.setWidth 16
  | _ => true) = true

/-- The line counters after a window whose answer carries no check word to compare (R135). -/
abbrev classCounted (w : WindowClass) (k : LineCounters) : LineCounters :=
  match w with
  | .silence => { k with silent := k.silent + 1 }
  | .garbled => { k with garbled := k.garbled + 1 }
  | .valid _ => k

/-- The entries with the one of an identity changed. -/
abbrev withEntry (i : Ident) (f : Entry → Entry) (es : List Entry) : List Entry :=
  es.map fun e => if e.identity = i then f e else e

/-- The records stand by expiry, those of equal expiry in the order in which they entered (R46). -/
abbrev InOrder (now : Clock) (rs : List QuarantineRec) : Prop :=
  rs.Pairwise fun x y => timeLeft now x.expiry < timeLeft now y.expiry ∨
    (timeLeft now x.expiry = timeLeft now y.expiry ∧ x.seq ≤ y.seq)

/-- The CLOSED reports of a purge, in queue order (R115): a RELEASE has none. -/
abbrev lostReports (queue : List Txn) (i : Ident) : List Report :=
  queue.filterMap fun r =>
    if r.target = i ∧ r.work ≠ .release then some (report r.tag (.closed .targetLost (unfinished r)))
    else none

/-- The queue after a purge, in queue order (R115, R121). -/
abbrev purged (queue : List Txn) (i : Ident) : List Txn := queue.filter (·.target != i)

/-- The CLOSED reports of an entry counted out (R29, R115): its purged records and then, if it carries forgetting, its
FORGET. -/
abbrev outReports (queue : List Txn) (e : Entry) : List Report :=
  lostReports queue e.identity ++
    (e.forgetting.map fun tag => report tag (.closed .done (.forget e.identity .wentLost))).toList

/-- The roster after an entry is counted out (R29): it is LOST with its address held, or, forgetting, removed. -/
abbrev countedOut (e : Entry) (a : Address) (es : List Entry) : List Entry :=
  if e.forgetting = none then
    withEntry e.identity (fun x => { x with standing := .lost (some a), misses := 0, pendingTx := 0 }) es
  else es.filter (·.identity != e.identity)

/-- The origin of the record that an entry's address enters quarantine with (R29, R53). -/
abbrev outOrigin (e : Entry) : Option Ident := if e.forgetting = none then some e.identity else none

/-- The NODE_LOST of an entry counted out through misses (R29, R97): none for a forgetting one. -/
abbrev lossOf (e : Entry) (a : Address) (c : LossCause) : List Event :=
  if e.forgetting = none then [.nodeLost e.identity e.line a e.lastSeen c] else []

/-- Events of one tag brought one after another (R164): with unreserved room of 3 or more an event is queued with the
dropped count, which returns to 0; with less it is dropped and counted, saturating. -/
def brought (tag : Tag) : List Event → State → State
  | [], s => s
  | e :: es, s =>
    brought tag es
      (if 3 ≤ s.room then { s with reports := s.reports ++ [report tag (.event s.dropped e)], dropped := 0 }
       else { s with dropped := saturating s.dropped })

/-- The passed-over count of the executor with a queue behind a claim (R124): 0 once nothing is queued. -/
abbrev passedWith (L : LineState) (queue : List Txn) : Nat := if queue = [] then 0 else L.passedT

/-- The CLOSED that an open request's halt claim of a STOP brings at once (R72, R116, R120, R154): a census between slot
operations, a record without an attempt in flight, a FORGET whose RELEASE has had no grant. -/
abbrev stopCloses (s : State) (q : Req) : Option Report :=
  let L := s.line q.line
  match q.kind with
  | .census =>
    L.census.bind fun c =>
      if c.halt = none ∧ L.slotInProgress = false then
        some (report q.tag (.closed .stopped (.census c.totals)))
      else none
  | .readNode | .writeNode =>
    (L.queue.find? (·.tag == q.tag)).bind fun r =>
      if r.inFlight then none else some (report q.tag (.closed .stopped (unfinished r)))
  | .forget =>
    (L.queue.find? (·.tag == q.tag)).bind fun r =>
      if r.attempts = 0 then some (report q.tag (.closed .stopped (.forget r.target .none))) else none
  | .linePower | .stop => none

/-- The table entry of a request that a STOP's halt claim leaves open (R71, R116, R154): HALTING when a line operation
holds it, else as it was. -/
abbrev stopMarks (s : State) (q : Req) : Req :=
  let L := s.line q.line
  match q.kind with
  | .census => if L.census.any (·.halt.isNone) then { q with state := .halting } else q
  | .readNode | .writeNode => { q with state := .halting }
  | _ => q

/-- A record that a STOP takes out of its queue (R116, R120, R154). -/
abbrev stopTakes (r : Txn) : Bool := if r.work = .release then r.attempts == 0 else !r.inFlight

/-- A line after the halt claims of a STOP (R71, R116, R120, R154): a record in flight and a census in a slot operation
take the mark STOP unless they have one. -/
abbrev stopLine (L : LineState) : LineState :=
  let queue := (L.queue.filter (!stopTakes ·)).map fun r =>
    if r.work = .release then r else { r with halt := some (r.halt.getD .stop) }
  let census := L.census.bind fun c =>
    if c.halt.isSome then some c
    else if L.slotInProgress then some { c with halt := some .stop } else none
  { L with
    queue := queue, census := census, passedT := passedWith L queue
    passedC := if census = none then 0 else L.passedC }

/-- The roster after the halt claims of a STOP (R33, R36, R154): a FORGET that closes leaves its entry not forgetting, and
pending falls by the records that leave the queues. -/
abbrev stopRoster (s : State) : List Entry :=
  let out := ((s.line .A).queue ++ (s.line .B).queue).filter stopTakes
  s.roster.map fun e => { e with
    forgetting := if out.any (fun r => r.work == .release && r.target == e.identity) then none
      else e.forgetting
    pendingTx := e.pendingTx - out.countP (·.target == e.identity) }

/-- The record an address enters quarantine with (R47). -/
abbrev quarantined (s : State) (l : Line) (a lease : Nat) (origin : Option Ident) : QuarantineRec :=
  { address := a, hold := lease + s.params.quarantineMargin,
    expiry := s.clock + BitVec.ofNat 32 (lease + s.params.quarantineMargin), origin := origin,
    seq := (s.line l).nextSeq }

/-- A list of records with one more, an ordered list staying in order (R46, R47). -/
abbrev OneMore (now : Clock) (r : QuarantineRec) (old new : List QuarantineRec) : Prop :=
  new.Perm (r :: old) ∧ ((∀ x ∈ old, x.seq ≤ r.seq) → InOrder now old → InOrder now new)

/-- The quarantine of a line with the records of some entries that are counted out together, in roster order (R30, R47):
the records that stood stay, and an ordered list stays in order. -/
abbrev WithCountedOut (s : State) (l : Line) (out : List Entry) (new : List QuarantineRec) : Prop :=
  let old := (s.line l).quarantine
  let more := (out.filter (·.line == l)).zipIdx.filterMap fun p =>
    match p.1.standing with
    | .bound a lease =>
      some { quarantined s l a lease (outOrigin p.1) with seq := (s.line l).nextSeq + p.2 }
    | _ => none
  new.Perm (more ++ old) ∧
    ((∀ x ∈ old, x.seq ≤ (s.line l).nextSeq) → InOrder s.clock old → InOrder s.clock new)

/-- A fresh poll cycle over the entries of a roster that are BOUND on the line, in roster order (R92). -/
abbrev cycleFrom (l : Line) (now : Clock) (period : Nat) (roster : List Entry) : PollCycle :=
  let members := (roster.filter fun e => e.line == l && e.standing.isBound).map (·.serial)
  { running := decide (members ≠ []), start := now, period := period,
    nextDue := now + BitVec.ofNat 32 period, members := members, remaining := members, late := false }

/-- No remaining member of a cycle is BOUND on the line in a roster (R98). -/
abbrev NoneLeft (s : State) (l : Line) (roster : List Entry) (c : PollCycle) : Prop :=
  ∀ k ∈ c.remaining, ({ s with roster := roster } : State).memberBound l k = false

/-- A line after a claim that leaves this roster (R98): a RUNNING cycle with no poll in progress and no remaining member
BOUND finishes; it waits for its due time or, late, counts an overrun and the next cycle starts at once. -/
abbrev cycleAfter (s : State) (l : Line) (roster : List Entry) (L : LineState) : LineState :=
  match L.poll with
  | some c =>
    if c.running = true ∧ L.pollInProgress = false ∧ NoneLeft s l roster c then
      { L with
        passedP := 0
        poll := some (if c.late = true then cycleFrom l s.clock s.params.pollPeriod roster
          else { c with running := false, remaining := [] })
        counters := if c.late = true then { L.counters with overruns := L.counters.overruns + 1 }
          else L.counters }
    else L
  | none => L

/-- The event of a find with its round number and slot index (R79). -/
abbrev findReport (v : FindEvent) (round slot : Nat) : Event :=
  match v with
  | .nodeFound i l a m => .nodeFound i l a m round slot false
  | .nodeReturned i l a r => .nodeReturned i l a r round slot
  | .nodeMoved i o n a r => .nodeMoved i o n a r round slot
  | .identityClash i f b a => .identityClash i f b a round slot
  | .rosterFull i l => .rosterFull i l round slot
  | .noAddress i l => .noAddress i l round slot

/-- A context with one more spoiled slot (R62). -/
abbrev slotSpoiled (c : Census) : Census :=
  { c with spoiledSlots := c.spoiledSlots + 1, totals := { c.totals with spoiled := c.totals.spoiled + 1 } }

/-- A context with one more bound node, the total of the find's event one more (R64). -/
abbrev slotBound (v : FindEvent) (c : Census) : Census :=
  { c with
    boundNodes := c.boundNodes + 1
    totals := match v with
      | .nodeFound _ _ _ _ => { c.totals with boundNew := c.totals.boundNew + 1 }
      | .nodeReturned _ _ _ _ => { c.totals with returned := c.totals.returned + 1 }
      | .nodeMoved _ _ _ _ _ => { c.totals with moved := c.totals.moved + 1 }
      | _ => c.totals }

/-- A context with one more unconfirmed BIND (R64). -/
abbrev slotUnconfirmed (c : Census) : Census :=
  { c with totals := { c.totals with bindUnconfirmed := c.totals.bindUnconfirmed + 1 } }

/-- A context with the total of a HUSH's reason one more (R65): none for FORGOTTEN. -/
abbrev slotHushed (r : HushReason) (c : Census) : Census :=
  { c with
    totals := match r with
      | .clash => { c.totals with clashes := c.totals.clashes + 1 }
      | .rosterFull => { c.totals with rosterFull := c.totals.rosterFull + 1 }
      | .noAddress => { c.totals with noAddress := c.totals.noAddress + 1 }
      | .forgotten => c.totals }

/-- The exponent that follows a round (R68, R69), brought into 0..12 and not into the limits (R67). -/
abbrev exponentAfter (c : Census) : Nat :=
  let slots := 2 ^ c.exponent
  let collided := c.collidedSlots + c.spoiledSlots
  match c.policy with
  | .fixed => c.exponent
  | .adaptive =>
    if 4 * collided > slots then min 12 (c.exponent + 1)
    else if collided = 0 ∧ 4 * c.emptySlots ≥ 3 * slots then c.exponent - 1
    else c.exponent

/-- The next state when the census of a line closes at the end of a slot operation (R74, R75): its CLOSED carries the
totals, `rest` is the table less its request, and an open STOP closes behind its last request. -/
abbrev censusCloses (u : State) (l : Line) (c : Census) (o : CloseOutcome) (rest : List Req) : State :=
  ({ u with
    table := rest
    stop := stopLeft u (rest = [])
    reports := u.reports ++ [report c.tag (.closed o (.census c.totals))] ++ stopClosed u (rest = []) } :
    State).setLine l { u.line l with op := none, census := none }

/-- The outcome a halt mark gives (R75). -/
abbrev haltOutcome (m : Halt) : CloseOutcome := match m with | .cancel => .cancelled | .stop => .stopped

/-- The next state at the end of a slot operation (R66, R67, R72, R75). `u` is the state with what the slot did on its
line, in the roster and in the report queue, `c` the context with that slot's counters, `event` the slot's event, if it
has one, and `rest` the table less the census's request. The slot's event is brought. In the middle of a round a halt mark
then closes the census, without a summary, and an unmarked one goes on. After the last slot the summary is brought; then a
halt mark, a round without any answer and a spent budget close the census in this order; otherwise the next round awaits
its grant with the next exponent. -/
def slotOver (u : State) (l : Line) (c : Census) (event : Option Event) (rest : List Req) : State :=
  let ended := slotCounted c
  let told := brought c.tag event.toList u
  if c.slotIndex + 1 < 2 ^ c.exponent then
    match c.halt with
    | some m => censusCloses told l ended (haltOutcome m) rest
    | none => told.setLine l { u.line l with op := none, census := some ended }
  else
    let next := exponentAfter c
    let clamped := if next < u.params.expMin then u.params.expMin
      else if u.params.expMax < next then u.params.expMax else next
    let summary : Event := .roundSummary c.roundNumber c.exponent c.emptySlots c.singleSlots c.collidedSlots
      c.spoiledSlots c.boundNodes clamped
    let summed := brought c.tag [summary] told
    match c.halt with
    | some m => censusCloses summed l ended (haltOutcome m) rest
    | none =>
      if c.singleSlots = 0 ∧ c.collidedSlots = 0 ∧ c.spoiledSlots = 0 then
        censusCloses summed l ended .done rest
      else if c.budget ≤ c.totals.rounds then censusCloses summed l ended .budget rest
      else summed.setLine l { u.line l with
        op := none, census := some { ended with exponent := next, slotIndex := 0 } }

/-- The slot of a census context has its next call to send (R62 to R65). -/
abbrev nextCall (s : State) (l : Line) (w : OpWork) (c : Call) : LineState :=
  { s.line l with op := some { work := w, call := c, listening := false } }

/-! ### The bytes of a report -/

/-- A number in `k` bytes, most significant byte first (00, Byte order). -/
abbrev inBytes (k n : Nat) : List Byte := (List.range k).map fun j => BitVec.ofNat 8 (n / 256 ^ (k - 1 - j))

/-- The CRC of some bytes, bit by bit (00, Checks): initial value FFFF hex, the bits of each byte most significant first,
each shifted through the polynomial x^16 + x^12 + x^5 + 1, no final inversion. -/
def crcBitByBit (bytes : List Byte) : BitVec 16 :=
  (bytes.flatMap fun b => (List.range 8).map fun j => b.getLsbD (7 - j)).foldl
    (fun c bit => if c.getLsbD 15 = bit then c <<< 1 else (c <<< 1) ^^^ 0x1021) 0xFFFF

/-- A report is sent as the frame of this kind and body (R138), whatever its tag: sync, length, kind, tag, body, and the CRC
of the bytes between the sync and itself. -/
def SentAs (b : ReportBody) (kind : Byte) (body : List Byte) : Prop :=
  ∀ tag rate,
    let covered := BitVec.ofNat 8 (body.length + 2) :: kind :: tag :: body
    Report.frame { tag := tag, body := b, rateAfter := rate } =
      0x5A :: (covered ++ inBytes 2 (crcBitByBit covered).toNat)

/-- The code of a line (R146). -/
abbrev lineByte (l : Line) : Byte := match l with | .A => 0 | .B => 1

/-- A flag, 1 when set. -/
abbrev flagged (b : Bool) : Byte := if b = true then 1 else 0

/-- The code of a line state (R160, R168). -/
abbrev powerByte (p : LinePower) : Byte := match p with | .off => 0 | .settling => 1 | .up => 2 | .fault => 3

/-- The kind code of a long request (R146). -/
abbrev kindByte (k : LongKind) : Byte :=
  match k with
  | .census => 0x10 | .readNode => 0x11 | .writeNode => 0x12 | .forget => 0x13 | .linePower => 0x14 | .stop => 0x15

/-- The state, address marker and address of an entry (R160): 1 with the address, 2 with the held address. -/
abbrev standingBytes (x : Standing) : List Byte :=
  match x with
  | .bound a _ => [0, 1, BitVec.ofNat 8 a]
  | .lost (some a) => [1, 2, BitVec.ofNat 8 a]
  | .lost none => [1, 0, 0]
  | .unbound => [2, 0, 0]

/-- The refusal codes of a CLOSED, 0 when there is none (R160). -/
abbrev refusals : List (Byte × Option RefusalCode) :=
  [(0, none), (1, some .range), (2, some .writeProtected), (3, some .busy)]

end Sys2Proof.Statements

open Sys2Proof.Statements

/-! ## The queue of commands, the clock and the resets -/

/-- The command at the front of the queue is taken and runs on the state with the queue's rest. -/
def Obligations.StepRunsFrontCommand : Prop :=
  ∀ (s : State) (c : Instr) (rest : List Instr),
    s.pending = c :: rest → step s = exec c { s with pending := rest }

/-- With no command waiting one millisecond passes (log entry 2; the count of R180). -/
def Obligations.EmptyQueueLetsOneMillisecondPass : Prop :=
  ∀ s : State, s.pending = [] → step s = .next { s with clock := s.clock + 1 }

/-- Every command completes in every state: none faults and none is refused. The manual describes no stop of the part; that
a command with nothing to act on changes nothing and that no result is left open are DEDUCED (log entries 4 and 25). -/
def Obligations.EveryCommandAnswersNext : Prop :=
  ∀ (c : Instr) (s : State), ∃ t, exec c s = .next t

/-- The state after a power-on reset, field by field (R41, R55, R57, R90, R91, R123, R137, R157, R170, R179). Only the
commands still waiting are not the part's. The model's own serial and sequence counts stand at 0 (DESIGN CHOICE, log
entries 8 and 9), and that READY is queued in the same state is DEDUCED (log entry 16). -/
def Obligations.PowerOnResetSetsEveryBlock : Prop :=
  ∀ s : State,
    let line : LineState :=
      { power := .off, openPower := none, settleAt := none, speed := none,
        counters := { callsSent := 0, silent := 0, garbled := 0, mismatches := 0, overruns := 0, rounds := 0 },
        pool := List.range' 1 240, quarantine := [], nextSeq := 0, census := none, poll := none,
        queue := [], op := none, passedT := 0, passedP := 0, passedC := 0 }
    exec .powerOnReset s = .next
      { clock := 0,
        params :=
          { pollPeriod := 500, missLimit := 3, nodeLease := 5000, quarantineMargin := 1000,
            hushTime := 60, retryLimit := 2, speedA := 2, speedB := 2, expMin := 0, expMax := 10,
            hostRate := 2, attentionReports := 1 },
        linkRate := 2, rx := .hunting, rxTimeouts := 0, rxBadLength := 0, rxCrcErrors := 0,
        rxDiscards := 0, inbound := [], reports := [report 0 (.ready false 2)], departed := none, dropped := 0,
        table := [], stop := none, roster := [], nextSerial := 0, hush := [], lineA := line,
        lineB := line, pending := s.pending }

/-- The state after a RESET, field by field (R156, R170, R178, R179): host_rate stays, the report in transmission is
sent to its last byte, READY follows it with the RESET's tag and cause SOFT. The head of the queue is the report in
transmission, except at the clock value at which another report left in front of it: then READY is the first report sent
(R171; that a RESET at that clock value comes together with the departure is the model's choice, log entry 15). The
serial and sequence counts at 0 are the model's own (log entries 8 and 9). The case that the reply in transmission carries
a rate that is no longer the table's is left out (log entry 13). -/
def Obligations.ResetSetsEveryBlockButHostRate : Prop :=
  ∀ (s : State) (tag : Tag),
    let line : LineState :=
      { power := .off, openPower := none, settleAt := none, speed := none,
        counters := { callsSent := 0, silent := 0, garbled := 0, mismatches := 0, overruns := 0, rounds := 0 },
        pool := List.range' 1 240, quarantine := [], nextSeq := 0, census := none, poll := none,
        queue := [], op := none, passedT := 0, passedP := 0, passedC := 0 }
    let rate := s.params.hostRate
    let kept := if s.departed = some s.clock then [] else s.reports.take 1
    TakesNow s →
    (∀ r ∈ kept, r.rateAfter = none ∨ r.rateAfter = some rate) →
    exec (.reset tag []) s = .next
      { clock := 0,
        params :=
          { pollPeriod := 500, missLimit := 3, nodeLease := 5000, quarantineMargin := 1000,
            hushTime := 60, retryLimit := 2, speedA := 2, speedB := 2, expMin := 0, expMax := 10,
            hostRate := rate, attentionReports := 1 },
        linkRate := if kept.any (·.rateAfter.isSome) then s.linkRate else rate,
        rx := .hunting, rxTimeouts := 0, rxBadLength := 0, rxCrcErrors := 0,
        rxDiscards := 0, inbound := [],
        reports := kept ++ [report tag (.ready true rate)], departed := none, dropped := 0,
        table := [], stop := none, roster := [], nextSerial := 0, hush := [], lineA := line,
        lineB := line, pending := s.pending }

/-- The state after a power-on reset obeys every law of the device. -/
def Obligations.ResetStateObeysEveryLaw : Prop := Lawful State.reset

/-! ## Requests that read (R39, R40, R54, R89, R136, R158, R174) -/

/-- GET_ROSTER (R39): the total, the start as requested and the entries from there, as many as the count asks for or as
there are; a count of 0 or above 8 is malformed. GET_ENTRY (R40): the entry of the identity with its position, or the
unknown marker. -/
def Obligations.GetRosterAndGetEntryShowEntries : Prop :=
  (∀ (s : State) (tag : Tag) (start count : Byte), TakesNow s →
    (1 ≤ count.toNat ∧ count.toNat ≤ 8 →
      exec (.getRoster tag [start, count]) s = .next { s with
        reports := s.reports ++ [report tag
          (.rosterPage s.roster.length start.toNat ((s.roster.drop start.toNat).take count.toNat))] }) ∧
    (count.toNat = 0 ∨ 8 < count.toNat →
      exec (.getRoster tag [start, count]) s = .next { s with
        reports := s.reports ++ [report tag (.refused 0x01 .malformed)] })) ∧
  ∀ (s : State) (tag : Tag) (i : Ident), TakesNow s →
    (∀ (front back : List Entry) (e : Entry), s.roster = front ++ e :: back → e.identity = i →
      (∀ x ∈ front, x.identity ≠ i) →
      exec (.getEntry tag (Request.getEntry i).body) s = .next { s with
        reports := s.reports ++ [report tag (.entryInfo i (some (front.length, e)))] }) ∧
    ((∀ x ∈ s.roster, x.identity ≠ i) →
      exec (.getEntry tag (Request.getEntry i).body) s = .next { s with
        reports := s.reports ++ [report tag (.entryInfo i none)] })

/-- GET_LINE (R54, R136): the contents of LINE_INFO, and nothing else changed. GET_LINK (R158): the contents of LINK_INFO,
the counts as they stand before it is queued, nothing cleared. -/
def Obligations.GetLineAndGetLinkAnswerTheirInfo : Prop :=
  (∀ (s : State) (tag : Tag) (l : Line), TakesNow s →
    exec (.getLine tag (Request.getLine l).body) s = .next { s with
      reports := s.reports ++ [report tag (.lineInfo
        { line := l, clock := s.clock, power := (s.line l).power,
          openPower := (s.line l).openPower,
          settlingLeft :=
            if (s.line l).power = .settling then (s.line l).settleAt.map (timeLeft s.clock) else none,
          speed := (s.line l).speed,
          boundCount := s.roster.countP fun e => e.line == l && e.standing.isBound,
          freeCount := (s.line l).pool.length,
          quarantineCount := (s.line l).quarantine.length,
          earliest := (s.line l).quarantine.head?.map fun r => (r.expiry, timeLeft s.clock r.expiry),
          census := (s.line l).census.map (·.tag), queueLength := (s.line l).queue.length,
          pollRunning := (s.line l).poll.map (·.running), counters := (s.line l).counters })] }) ∧
  ∀ (s : State) (tag : Tag), TakesNow s →
    exec (.getLink tag []) s = .next { s with
      reports := s.reports ++ [report tag (.linkInfo
        { clock := s.clock, hostRate := s.linkRate, rxTimeouts := s.rxTimeouts,
          rxBadLength := s.rxBadLength, rxCrcErrors := s.rxCrcErrors, rxDiscards := s.rxDiscards,
          dropped := s.dropped, waiting := 0, occupied := s.reports.length,
          reserved := s.table.length + (if s.stop.isSome then 1 else 0),
          stop := s.stop.map (·.tag), requests := s.table })] }

/-- GET_HELD (R89): the clock and the records in list order, none changed. -/
def Obligations.GetHeldListsHushRecords : Prop :=
  ∀ (s : State) (tag : Tag), TakesNow s →
    exec (.getHeld tag []) s = .next { s with
      reports := s.reports ++ [report tag (.heldList s.clock s.hush)] }

/-- GET_PARAM (R174): for an id of 1..12 the value the table holds, for any other id BAD_PARAM; nothing changed, with any
tag and whether or not a STOP is open; for host_rate the table's value, which need not be the link's. -/
def Obligations.GetParamAnswersTableValue : Prop :=
  ∀ (s : State) (tag : Tag) (id : Byte), TakesNow s →
    let p := s.params
    let values := [p.pollPeriod, p.missLimit, p.nodeLease, p.quarantineMargin, p.hushTime, p.retryLimit,
      p.speedA, p.speedB, p.expMin, p.expMax, p.hostRate, p.attentionReports]
    (∀ v, 1 ≤ id.toNat → values[id.toNat - 1]? = some v →
      exec (.getParam tag [id]) s = .next { s with
        reports := s.reports ++ [report tag (.paramValue id.toNat v)] }) ∧
    (id.toNat = 0 ∨ 12 < id.toNat →
      exec (.getParam tag [id]) s = .next { s with
        reports := s.reports ++ [report tag (.refused 0x06 .badParam)] })

/-! ## Setting parameters (R172, R175, R176, R178) -/

/-- SET_PARAM refused (R172, R175, R177): the checks in their order, the first that fails deciding: the id, the range of
the parameter, the lock of a speed parameter, the two cross-checks; nothing changed but the REFUSED. -/
def Obligations.SetParamChecksInOrder : Prop :=
  ∀ (s : State) (tag : Tag) (id v : Nat), id ≤ 255 → v ≤ 65535 → TakesNow s →
    let refused (r : Reason) : Prop :=
      exec (.setParam tag (Request.setParam id v).body) s = .next { s with
        reports := s.reports ++ [report tag (.refused 0x07 r)] }
    (id = 0 ∨ 12 < id → refused .badParam) ∧
    (∀ lo hi, 1 ≤ id → paramRanges[id - 1]? = some (lo, hi) →
      (v < lo ∨ hi < v → refused .badParam) ∧
      (lo ≤ v → v ≤ hi →
        (∀ l, (id = 7 ∧ l = .A) ∨ (id = 8 ∧ l = .B) →
          (s.line l).power = .settling ∨ (s.line l).power = .up → refused .paramLocked) ∧
        ((id = 1 ∧ s.params.nodeLease < 2 * v) ∨ (id = 3 ∧ v < 2 * s.params.pollPeriod) ∨
            (id = 9 ∧ s.params.expMax < v) ∨ (id = 10 ∧ v < s.params.expMin) →
          CrossChecked s.params → refused .paramConflict)))

/-- SET_PARAM accepted, miss_limit not lowered (R172, R175, R177, R178): the value goes to the parameter of the id and is
answered, and for host_rate a changed value marks the reply at whose departure the link changes. -/
def Obligations.SetParamStoresAndAnswers : Prop :=
  ∀ (s : State) (tag : Tag) (id v lo hi : Nat) (p : Params), TakesNow s → 1 ≤ id →
    paramRanges[id - 1]? = some (lo, hi) → (storedParams s.params v)[id - 1]? = some p → lo ≤ v → v ≤ hi →
    (∀ l, (id = 7 ∧ l = .A) ∨ (id = 8 ∧ l = .B) → (s.line l).power = .off ∨ (s.line l).power = .fault) →
    CrossChecked p → ¬(id = 2 ∧ v < s.params.missLimit) →
    exec (.setParam tag (Request.setParam id v).body) s = .next { s with
      params := p
      reports := s.reports ++ [⟨tag, .paramValue id v,
        if id = 11 ∧ v ≠ s.params.hostRate then some v else none⟩] }

/-- A lowered miss_limit (R30, R98, R164, R176): every BOUND entry whose misses are at or above the new value goes LOST with
its address held and quarantined, or is removed if it carries forgetting with the record's origin none; every other entry,
the quarantine records that stood, every pool and the hush list stay. Their records leave the queues; PARAM_VALUE is the
first report of the claim, the CLOSED TARGET_LOST and, for a forgetting entry, DONE, WENT_LOST follow entry by entry (their
order is the model's choice, log entry 11), and NODE_LOST with cause LIMIT comes last for each entry that is not
forgetting, queued or dropped as there is room. In a settled state a cycle that the claim leaves with nothing to do
finishes, and nothing else of either line is changed. -/
def Obligations.LoweredMissLimitCountsOut : Prop :=
  ∀ (s : State) (tag : Tag) (v : Nat), TakesNow s → RosterLaw s → 1 ≤ v → v < s.params.missLimit → v ≤ 8 →
    CrossChecked s.params →
    let roster := s.roster.filterMap fun e =>
      match e.standing, e.forgetting with
      | .bound a _, none =>
        if v ≤ e.misses then some { e with standing := .lost (some a), misses := 0, pendingTx := 0 }
        else some e
      | .bound _ _, some _ => if v ≤ e.misses then none else some e
      | _, _ => some e
    let out := s.roster.filter fun e => e.standing.isBound && decide (v ≤ e.misses)
    let rs := out.flatMap fun e => outReports (s.line e.line).queue e
    let es := out.flatMap fun e =>
      match e.standing with
      | .bound a _ => lossOf e a .limit
      | _ => []
    let queue (l : Line) : List Txn := (s.line l).queue.filter fun r =>
      !out.any fun e => e.line == l && e.identity == r.target
    (∃ t, exec (.setParam tag (Request.setParam 2 v).body) s = .next t ∧
      t.params = { s.params with missLimit := v } ∧ t.hush = s.hush ∧ t.clock = s.clock ∧
      t.nextSerial = s.nextSerial ∧ t.roster = roster ∧
      (∀ l, (t.line l).pool = (s.line l).pool ∧ (t.line l).power = (s.line l).power ∧
        (t.line l).census = (s.line l).census ∧ (t.line l).op = (s.line l).op ∧ (t.line l).queue = queue l ∧
        WithCountedOut s l out (t.line l).quarantine) ∧
      ∃ rs, t.reports = s.reports ++ report tag (.paramValue 2 v) :: rs) ∧
    (Settled s → AllOpen s rs → (s.table.map (·.tag)).Nodup →
      ∃ q : Line → List QuarantineRec, (∀ l, WithCountedOut s l out (q l)) ∧
        let after (l : Line) : LineState := cycleAfter s l roster { s.line l with
          quarantine := q l, nextSeq := (s.line l).nextSeq + (out.filter (·.line == l)).length,
          queue := queue l, passedT := passedWith (s.line l) (queue l) }
        exec (.setParam tag (Request.setParam 2 v).body) s = .next (brought 0 es ((({ s with
          params := { s.params with missLimit := v }
          roster := roster
          table := tableLess rs s.table
          stop := stopLeft s (Emptied s rs)
          reports := s.reports ++ report tag (.paramValue 2 v) :: rs ++ stopClosed s (Emptied s rs) } :
          State).setLine .A (after .A)).setLine .B (after .B))))

/-! ## Frames turned away (R142, R144, R145, R148) -/

/-- A frame of an unknown kind and a body that is not well formed (R145): refused before every other check, whatever the
tag, the table and the stop record, with nothing else changed. -/
def Obligations.UnknownKindAndMalformedAreRefused : Prop :=
  ∀ (s : State) (tag : Tag) (body : List Byte), TakesNow s →
    (∀ kind : Byte, kind ∉ requestKinds →
      exec (.unknownKind kind tag body) s = .next { s with
        reports := s.reports ++ [report tag (.refused kind .unknownKind)] }) ∧
    ∀ p ∈ requestCommands, (p.2 tag body).wellFormed = false →
      exec (p.2 tag body) s = .next { s with
        reports := s.reports ++ [report tag (.refused p.1 .malformed)] }

/-- A good frame that arrives while the unreserved room is below 2 (R142, R144), whatever its kind: it joins the inbound
buffer, or, with 4 frames there, is discarded and counted. -/
def Obligations.FrameWaitsOrIsDiscarded : Prop :=
  ∀ (s : State) (kind : Byte) (tag : Tag) (body : List Byte), s.room < 2 →
    ∀ p ∈ (kind, Instr.unknownKind kind) :: requestCommands,
      (s.inbound.length < 4 →
        exec (p.2 tag body) s = .next { s with
          inbound := s.inbound ++ [{ kind := p.1, tag := tag, body := body }] }) ∧
      (4 ≤ s.inbound.length →
        exec (p.2 tag body) s = .next { s with rxDiscards := saturating s.rxDiscards })

/-- The general checks of a long request in their order (R148, checks 2 to 5), on each of the six long requests with a
well-formed body: the first that fails decides the REFUSED and nothing else is changed. -/
def Obligations.LongRequestChecksInOrder : Prop :=
  ∀ (s : State) (tag : Tag) (i : Ident) (l : Line) (d : Direction) (policy : Policy) (e b n : Nat)
    (bits : BitVec 64) (off len : Nat) (bytes : List Byte), TakesNow s →
    e ≤ 255 → b ≤ 255 → n ≤ 255 → off ≤ 4095 → 1 ≤ len → len ≤ 32 → 1 ≤ bytes.length → bytes.length ≤ 32 →
    ∀ p ∈ [((0x10 : Byte), Instr.census tag (Request.census l policy e b n bits).body),
        (0x11, .readNode tag (Request.readNode i off len).body),
        (0x12, .writeNode tag (Request.writeNode i off bytes).body),
        (0x13, .forget tag (Request.forget i).body),
        (0x14, .linePower tag (Request.linePower l d).body), (0x15, .stop tag [])],
      let refused (r : Reason) : Prop :=
        exec p.2 s = .next { s with reports := s.reports ++ [report tag (.refused p.1 r)] }
      (tag = 0 → refused .tagZero) ∧
      (tag ≠ 0 →
        ((∃ r ∈ s.table, r.tag = tag) ∨ (∃ r, s.stop = some r ∧ r.tag = tag) → refused .tagInUse) ∧
        ((∀ r ∈ s.table, r.tag ≠ tag) → (∃ r, s.stop = some r ∧ r.tag ≠ tag) → refused .stopping) ∧
        ((∀ r ∈ s.table, r.tag ≠ tag) → s.stop = none → 24 ≤ s.table.length → p.1 ≠ 0x15 →
          refused .tableFull))

/-! ## CANCEL and STOP (R116, R120, R152, R154, R155) -/

/-- CANCEL of a tag that nothing cancellable holds (R152): NOT_OPEN for a tag that is not open, NOT_CANCELLABLE for the
STOP, an open LINE_POWER and a FORGET whose RELEASE has had its first grant; the reply and nothing else. -/
def Obligations.CancelOfNothingCancellableOnlyReplies : Prop :=
  ∀ (s : State) (tag target : Tag), TakesNow s →
    let replied (k : Option LongKind) (r : CancelResult) : Prop :=
      exec (.cancel tag [target]) s = .next { s with
        reports := s.reports ++ [report tag (.cancelReply target k r)] }
    ((∀ r ∈ s.table, r.tag ≠ target) →
      ((∀ r, s.stop = some r → r.tag ≠ target) → replied none .notOpen) ∧
      ((∃ r, s.stop = some r ∧ r.tag = target) → replied (some .stop) .notCancellable)) ∧
    ∀ (front back : List Req) (q : Req), s.table = front ++ q :: back → q.tag = target →
      (∀ r ∈ front, r.tag ≠ target) →
      (q.kind = .linePower → replied (some .linePower) .notCancellable) ∧
      (q.kind = .forget →
        (∀ r ∈ (s.line q.line).queue, r.tag = target → r.attempts ≠ 0) →
        replied (some .forget) .notCancellable)

/-- CANCEL of an open READ_NODE or WRITE_NODE (R114, R116, R152), its record anywhere in the queue: with an attempt in
flight the record takes the mark unless it has one and its request goes to HALTING; queued or between attempts it is
removed and its CLOSED CANCELLED follows the reply. -/
def Obligations.CancelHaltsTransaction : Prop :=
  ∀ (s : State) (tag : Tag) (q : Req) (r : Txn) (l : Line) (ahead behind : List Txn) (front back : List Req),
    TakesNow s → Settled s → (s.table.map (·.tag)).Nodup →
    s.table = front ++ q :: back → q.tag = r.tag → q.line = l → (q.kind = .readNode ∨ q.kind = .writeNode) →
    (s.line l).queue = ahead ++ r :: behind → (∀ x ∈ ahead ++ behind, x.tag ≠ r.tag) → r.work ≠ .release →
    let reply := report tag (.cancelReply r.tag (some q.kind) .cancelling)
    let emptied : Prop := front ++ back = []
    (r.inFlight = true →
      exec (.cancel tag [r.tag]) s = .next (({ s with
        reports := s.reports ++ [reply]
        table := front ++ { q with state := .halting } :: back } : State).setLine l { s.line l with
          queue := ahead ++ { r with halt := some (r.halt.getD .cancel) } :: behind })) ∧
    (r.inFlight = false →
      exec (.cancel tag [r.tag]) s = .next (({ s with
        reports := s.reports ++ [reply, report r.tag (.closed .cancelled (unfinished r))] ++
          stopClosed s emptied
        stop := stopLeft s emptied
        table := front ++ back
        roster := lessPending r.target s.roster } : State).setLine l { s.line l with
          queue := ahead ++ behind, passedT := passedWith (s.line l) (ahead ++ behind) }))

/-- CANCEL of a census (R71, R72, R152): while a slot operation is in progress the mark is set and the request goes to
HALTING; otherwise the census closes CANCELLED behind the reply with its totals as they stand. A census already marked is
answered CANCELLING again and keeps its mark; nothing else is changed. -/
def Obligations.CancelHaltsCensus : Prop :=
  ∀ (s : State) (tag : Tag) (q : Req) (c : Census) (l : Line) (front back : List Req),
    TakesNow s → Settled s → (s.table.map (·.tag)).Nodup →
    s.table = front ++ q :: back → q.tag = c.tag → q.line = l → q.kind = .census →
    (s.line l).census = some c →
    let reply := report tag (.cancelReply c.tag (some .census) .cancelling)
    (c.halt ≠ none → exec (.cancel tag [c.tag]) s = .next { s with reports := s.reports ++ [reply] }) ∧
    (c.halt = none → (s.line l).slotInProgress = true →
      exec (.cancel tag [c.tag]) s = .next (({ s with
        reports := s.reports ++ [reply]
        table := front ++ { q with state := .halting } :: back } : State).setLine l { s.line l with
          census := some { c with halt := some .cancel } })) ∧
    (c.halt = none → (s.line l).slotInProgress = false →
      exec (.cancel tag [c.tag]) s = .next (({ s with
        reports := s.reports ++ [reply, report c.tag (.closed .cancelled (.census c.totals))] ++
          stopClosed s (front ++ back = [])
        stop := stopLeft s (front ++ back = [])
        table := front ++ back } : State).setLine l { s.line l with census := none, passedC := 0 }))

/-- CANCEL of a FORGET whose RELEASE is queued, anywhere in the queue (R33, R120, R152): the RELEASE leaves the queue,
forgetting is cleared and the FORGET closes CANCELLED behind the reply. -/
def Obligations.CancelRestoresForgottenEntry : Prop :=
  ∀ (s : State) (tag : Tag) (q : Req) (r : Txn) (l : Line) (ahead behind : List Txn) (front back : List Req),
    TakesNow s → Settled s → (s.table.map (·.tag)).Nodup →
    s.table = front ++ q :: back → q.tag = r.tag → q.line = l → q.kind = .forget →
    q.target = some r.target → r.attempts = 0 →
    (s.line l).queue = ahead ++ r :: behind → (∀ x ∈ ahead ++ behind, x.tag ≠ r.tag) →
    exec (.cancel tag [r.tag]) s = .next (({ s with
      reports := s.reports ++
        [report tag (.cancelReply r.tag (some .forget) .cancelling),
          report r.tag (.closed .cancelled (.forget r.target .none))] ++
        stopClosed s (front ++ back = [])
      stop := stopLeft s (front ++ back = [])
      table := front ++ back
      roster := s.roster.map fun e =>
        if e.identity = r.target then
          { e with forgetting := none, pendingTx := e.pendingTx - 1 }
        else e } : State).setLine l { s.line l with
          queue := ahead ++ behind, passedT := passedWith (s.line l) (ahead ++ behind) })

/-- STOP admitted (R72, R154, R155): with nothing open it closes DONE with count 0 behind its TAKEN; with only requests
open that receive no halt claim, LINE_POWERs, it stays in the stop record with the number of them; with only a census
open that no slot operation holds, the census closes STOPPED and the STOP closes DONE behind it with count 1. In general,
over any table whose requests stand for the work of their lines, each request gets its halt claim in table order: those it
closes leave CLOSED STOPPED in that order, those a line operation holds are marked and go to HALTING, a LINE_POWER and a
FORGET whose RELEASE has had its first grant stay as they are, and the STOP closes at once when none is left. -/
def Obligations.StopHaltsAndCloses : Prop :=
  ∀ (s : State) (tag : Tag), TakesNow s → Settled s → tag ≠ 0 → (∀ r ∈ s.table, r.tag ≠ tag) →
    s.stop = none →
    (s.table = [] →
      exec (.stop tag []) s = .next { s with
        reports := s.reports ++ [report tag (.taken .stop), report tag (.closed .done (.stop 0))] }) ∧
    (s.table ≠ [] → (∀ r ∈ s.table, r.kind = .linePower) →
      exec (.stop tag []) s = .next { s with
        reports := s.reports ++ [report tag (.taken .stop)]
        stop := some { tag := tag, openCount := s.table.length } }) ∧
    (∀ (q : Req) (c : Census) (l : Line), s.table = [q] → q.kind = .census → q.line = l →
      q.tag = c.tag → (s.line l).census = some c → c.halt = none → (s.line l).slotInProgress = false →
      exec (.stop tag []) s = .next (({ s with
        reports := s.reports ++ [report tag (.taken .stop),
          report c.tag (.closed .stopped (.census c.totals)), report tag (.closed .done (.stop 1))]
        table := [] } : State).setLine l { s.line l with census := none, passedC := 0 })) ∧
    ((s.table.map (·.tag)).Nodup → RequestLaw s → OnBothLines WorkLaw s →
      let left := (s.table.filter fun q => (stopCloses s q).isNone).map (stopMarks s)
      exec (.stop tag []) s = .next ((({ s with
        reports := s.reports ++ report tag (.taken .stop) :: s.table.filterMap (stopCloses s) ++
          if left = [] then [report tag (.closed .done (.stop s.table.length))] else []
        stop := if left = [] then none else some { tag := tag, openCount := s.table.length }
        table := left
        roster := stopRoster s } : State).setLine .A (stopLine (s.line .A))).setLine .B
          (stopLine (s.line .B))))

/-- A close claim (R149, R155): the request leaves the table, its CLOSED joins the tail, and when it was the last one
open the STOP's CLOSED follows it and the stop record is emptied; a claim for a tag that nobody holds is ignored. -/
def Obligations.CloseTakesItsReservation : Prop :=
  ∀ (s : State) (tag : Tag) (o : CloseOutcome) (x : CloseResult) (front back : List Req) (q : Req),
    (s.table = front ++ q :: back → q.tag = tag → (∀ r ∈ front ++ back, r.tag ≠ tag) →
      (front ++ back ≠ [] ∨ s.stop = none →
        s.close tag o x = { s with
          table := front ++ back, reports := s.reports ++ [report tag (.closed o x)] }) ∧
      (∀ r, front ++ back = [] → s.stop = some r →
        s.close tag o x = { s with
          table := [], stop := none,
          reports := s.reports ++
            [report tag (.closed o x), report r.tag (.closed .done (.stop r.openCount))] })) ∧
    ((∀ r ∈ s.table, r.tag ≠ tag) → s.close tag o x = s)

/-- An event report brought (R164): with unreserved room of 3 or more it is queued with the dropped count, which returns
to 0; with less it is dropped and counted, saturating at 65535. -/
def Obligations.EventIsQueuedOrCounted : Prop :=
  ∀ (s : State) (tag : Tag) (e : Event),
    (3 ≤ s.room → s.pushEvent tag e = { s with
      reports := s.reports ++ [report tag (.event s.dropped e)], dropped := 0 }) ∧
    (s.room < 3 → s.pushEvent tag e = { s with
      dropped := if s.dropped = 65535 then 65535 else s.dropped + 1 })

/-! ## Admission of the long requests (R33, R34, R56, R57, R109, R118, R127 to R130) -/

/-- CENSUS admitted (R56, R57): TAKEN, a table entry QUEUED and a fresh context, a budget of 0 standing for 32. -/
def Obligations.CensusMakesContext : Prop :=
  ∀ (s : State) (tag : Tag) (l : Line) (p : Policy) (e b n : Nat) (bits : BitVec 64),
    Admissible s tag → (s.line l).power = .up → (s.line l).census = none →
    s.params.expMin ≤ e → e ≤ s.params.expMax → e ≤ 255 → b ≤ 255 → n ≤ 64 →
    exec (.census tag (Request.census l p e b n bits).body) s = .next (({ s with
      reports := s.reports ++ [report tag (.taken .census)]
      table := s.table ++
        [{ tag := tag, kind := .census, line := l, state := .queued, target := none }] } : State).setLine l
      { s.line l with
        census := some
          { tag := tag, policy := p, exponent := e, budget := if b = 0 then 32 else b,
            scopeLength := n, scopeBits := (bits >>> (64 - n)) <<< (64 - n), roundNumber := 0,
            slotIndex := 0, emptySlots := 0, singleSlots := 0, collidedSlots := 0,
            spoiledSlots := 0, boundNodes := 0,
            totals :=
              { rounds := 0, slots := 0, boundNew := 0, returned := 0, moved := 0, clashes := 0,
                rosterFull := 0, noAddress := 0, spoiled := 0, bindUnconfirmed := 0 },
            halt := none } })

/-- READ_NODE and WRITE_NODE admitted (R36, R109): TAKEN, a table entry QUEUED, a record at the tail of the queue of the
entry's line, and its pending count raised. -/
def Obligations.TransactionJoinsQueue : Prop :=
  ∀ (s : State) (tag : Tag) (e : Entry) (off len : Nat) (bytes : List Byte),
    Admissible s tag → s.lookup e.identity = some e → e.standing.isBound = true →
    e.forgetting = none → (s.line e.line).queue.length < 16 → off ≤ 4095 →
    let record (w : TxnWork) : Txn :=
      { tag := tag, work := w, target := e.identity, attempts := 0, unheard := 0, halt := none,
        inFlight := false }
    let joined (k : LongKind) (w : TxnWork) : State :=
      ({ s with
        reports := s.reports ++ [report tag (.taken k)]
        table := s.table ++
          [{ tag := tag, kind := k, line := e.line, state := .queued, target := some e.identity }]
        roster := morePending e.identity s.roster } : State).setLine e.line
          { s.line e.line with queue := (s.line e.line).queue ++ [record w] }
    (1 ≤ len → len ≤ 32 → off + len ≤ e.memorySize →
      exec (.readNode tag (Request.readNode e.identity off len).body) s =
        .next (joined .readNode (.read off len))) ∧
    (1 ≤ bytes.length → bytes.length ≤ 32 → off + bytes.length ≤ e.memorySize →
      exec (.writeNode tag (Request.writeNode e.identity off bytes).body) s =
        .next (joined .writeNode (.write off bytes)))

/-- FORGET of a BOUND entry (R33, R118): TAKEN, forgetting set, the queued records naming it closed TARGET_GONE in queue
order with attempts 0 and stored NO, and a RELEASE at the tail of the queue. FORGET of a LOST or UNBOUND entry (R34, R35,
R53): TAKEN and CLOSED DONE with detail DIRECT; the entry is removed and the record of its held address loses its
origin. -/
def Obligations.ForgetActsByEntryState : Prop :=
  (∀ (s : State) (tag : Tag) (e : Entry),
    Admissible s tag → s.lookup e.identity = some e → e.standing.isBound = true →
    e.forgetting = none →
    let queue := (s.line e.line).queue
    let gone := queue.filter fun r => r.target == e.identity && r.attempts == 0
    let stay := queue.filter fun r => !(r.target == e.identity && r.attempts == 0)
    (stay.length < 16) →
    (∀ r ∈ gone, r.unheard = 0 ∧ r.inFlight = false ∧ r.work ≠ .release ∧ r.tag ≠ tag ∧
      ∃ q ∈ s.table, q.tag = r.tag) →
    (gone.map (·.tag)).Nodup →
    exec (.forget tag (Request.forget e.identity).body) s = .next (({ s with
      reports := s.reports ++ report tag (.taken .forget) :: gone.map fun r =>
        report r.tag (.closed .targetGone (match r.work with
          | .read _ _ => .read r.attempts none none
          | _ => .write r.attempts .no none))
      table := s.table.filter (fun q => gone.all (·.tag != q.tag)) ++
        [{ tag := tag, kind := .forget, line := e.line, state := .queued,
           target := some e.identity }]
      roster := s.roster.map fun x =>
        if x.identity = e.identity then
          { x with forgetting := some tag, pendingTx := x.pendingTx + 1 - gone.length }
        else x } : State).setLine e.line { s.line e.line with
          queue := stay ++
            [{ tag := tag, work := .release, target := e.identity, attempts := 0, unheard := 0,
               halt := none, inFlight := false }] })) ∧
  ∀ (s : State) (tag : Tag) (e : Entry),
    Admissible s tag → RosterLaw s → s.lookup e.identity = some e → e.standing.isBound = false →
    e.forgetting = none →
    exec (.forget tag (Request.forget e.identity).body) s = .next (({ s with
      reports := s.reports ++ [report tag (.taken .forget),
        report tag (.closed .done (.forget e.identity .direct))]
      roster := s.roster.filter fun x => x.identity != e.identity } : State).setLine e.line
        { s.line e.line with
          quarantine := (s.line e.line).quarantine.map fun r =>
            if e.held = some r.address then { r with origin := none } else r })

/-- The checks of CENSUS (R56: LINE_NOT_UP, CENSUS_ACTIVE, BAD_PARAM), of READ_NODE and WRITE_NODE (R109: UNKNOWN_NODE,
NOT_BOUND, FORGETTING, BAD_RANGE by the length asked for or the number of data bytes, QUEUE_FULL) and of FORGET (R118:
UNKNOWN_NODE, FORGETTING, and QUEUE_FULL when the queue of a BOUND entry would be full after the purge), each in its
order: the first that fails decides the REFUSED and nothing else is changed. -/
def Obligations.OwnChecksOfLongRequestsInOrder : Prop :=
  ∀ (s : State) (tag : Tag), Admissible s tag →
    let refused (c : Instr) (kind : Byte) (r : Reason) : Prop :=
      exec c s = .next { s with reports := s.reports ++ [report tag (.refused kind r)] }
    (∀ (l : Line) (p : Policy) (e b n : Nat) (bits : BitVec 64), e ≤ 255 → b ≤ 255 → n ≤ 255 →
      let census := Instr.census tag (Request.census l p e b n bits).body
      ((s.line l).power ≠ .up → refused census 0x10 .lineNotUp) ∧
      ((s.line l).power = .up →
        ((s.line l).census.isSome = true → refused census 0x10 .censusActive) ∧
        ((s.line l).census = none → e < s.params.expMin ∨ s.params.expMax < e ∨ 64 < n →
          refused census 0x10 .badParam))) ∧
    (∀ (i : Ident) (off len : Nat) (bytes : List Byte), off ≤ 4095 → 1 ≤ len → len ≤ 32 →
      bytes.length = len →
      ∀ p ∈ [((0x11 : Byte), Instr.readNode tag (Request.readNode i off len).body),
          (0x12, .writeNode tag (Request.writeNode i off bytes).body)],
        ((∀ e ∈ s.roster, e.identity ≠ i) → refused p.2 p.1 .unknownNode) ∧
        ∀ e, s.lookup i = some e →
          (e.standing.isBound = false → refused p.2 p.1 .notBound) ∧
          (e.standing.isBound = true →
            (e.forgetting.isSome = true → refused p.2 p.1 .forgetting) ∧
            (e.forgetting = none →
              (e.memorySize < off + len → refused p.2 p.1 .badRange) ∧
              (off + len ≤ e.memorySize → 16 ≤ (s.line e.line).queue.length →
                refused p.2 p.1 .queueFull)))) ∧
    ∀ i : Ident,
      let forget := Instr.forget tag (Request.forget i).body
      ((∀ e ∈ s.roster, e.identity ≠ i) → refused forget 0x13 .unknownNode) ∧
      ∀ e, s.lookup i = some e →
        (e.forgetting.isSome = true → refused forget 0x13 .forgetting) ∧
        (e.forgetting = none → e.standing.isBound = true →
          16 ≤ (s.line e.line).queue.length -
            ((s.line e.line).queue.countP fun r => r.target == i && r.attempts == 0) →
          refused forget 0x13 .queueFull)

/-- LINE_POWER by the line's state (R127, R128, R130): refused LINE_BUSY while another is open, except an off superseding
an on; else by the state the line is in. Going down from UP is a statement of its own. -/
def Obligations.LinePowerActsByState : Prop :=
  ∀ (s : State) (tag : Tag) (l : Line) (d : Direction), Admissible s tag →
    let request := Instr.linePower tag (Request.linePower l d).body
    let taken := report tag (.taken .linePower)
    let closed (p : LinePower) := report tag (.closed .done (.linePower l p 0))
    let entry : Req := { tag := tag, kind := .linePower, line := l, state := .running, target := none }
    let doneAtOnce (p : LinePower) : Prop :=
      exec request s = .next { s with reports := s.reports ++ [taken, closed p] }
    (((s.line l).openPower.any (·.2 == .on) = true ∧ d = .on) ∨ (s.line l).offOpen = true →
      exec request s = .next { s with
        reports := s.reports ++ [report tag (.refused 0x14 .lineBusy)] }) ∧
    ((s.line l).openPower = none →
      (d = .off → (s.line l).power = .off → doneAtOnce .off) ∧
      (d = .off → (s.line l).power = .fault → doneAtOnce .fault) ∧
      (d = .on → (s.line l).power = .up → doneAtOnce .up) ∧
      (d = .on → (s.line l).power = .off ∨ (s.line l).power = .fault →
        exec request s = .next (({ s with
          reports := s.reports ++ [taken], table := s.table ++ [entry] } : State).setLine l
          { s.line l with
            power := .settling, settleAt := some (s.clock + 100),
            speed := some (match l with | .A => s.params.speedA | .B => s.params.speedB),
            openPower := some (tag, .on) })) ∧
      (d = .off → (s.line l).power = .up → (s.line l).op.isSome = true →
        exec request s = .next (({ s with
          reports := s.reports ++ [taken], table := s.table ++ [entry] } : State).setLine l
          { s.line l with openPower := some (tag, .off) }))) ∧
    ∀ (on : Tag) (front back : List Req) (q : Req), d = .off → (s.line l).power = .settling →
      (s.line l).openPower = some (on, .on) → s.table = front ++ q :: back → q.tag = on →
      (∀ r ∈ front ++ back, r.tag ≠ on) →
      exec request s = .next (({ s with
        reports := s.reports ++
          [taken, report on (.closed .cancelled (.linePower l .off 0)), closed .off]
        table := front ++ back } : State).setLine l
        { s.line l with power := .off, settleAt := none, speed := none, openPower := none })

/-! ## The receiver, the buffers and the transmitter (R138 to R144, R161, R178) -/

/-- The receiver byte by byte (R139, R140): hunting it skips every byte but the sync; a length outside 2..252 discards
the frame; otherwise it collects, restarting the 20 ms gap timer at each byte; a gap that runs out discards the frame,
and the byte that ends a longer one is examined in hunting. That RX_GAP_TIMEOUT carries the clock to the timer's expiry
(log entry 3) and how the gap stands to the millisecond clock (log entry 14) are the model's choices. -/
def Obligations.ReceiverHuntsCollectsAndTimesOut : Prop :=
  ∀ (s : State) (b : Byte),
    let hunting (t : State) : State := { t with rx := .hunting }
    let begun (t : State) : State := { t with rx := .collecting [] (s.clock + 20) }
    (s.rx = .hunting →
      exec .rxGapTimeout s = .next s ∧
      exec (.rxByte b) s = .next (if b = 0x5A then begun s else s)) ∧
    ∀ (got : List Byte) (gapAt : Clock), s.rx = .collecting got gapAt →
      ((gapAt - s.clock).toNat ≤ 20 →
        exec .rxGapTimeout s =
          .next (hunting { s with clock := gapAt, rxTimeouts := saturating s.rxTimeouts }) ∧
        (got = [] → exec (.rxByte b) s = .next
          (if b.toNat < 2 ∨ 252 < b.toNat then
            hunting { s with rxBadLength := saturating s.rxBadLength }
          else { s with rx := .collecting [b] (s.clock + 20) })) ∧
        ∀ n rest, got = n :: rest → 2 ≤ n.toNat → n.toNat ≤ 252 → rest.length + 1 < n.toNat + 2 →
          exec (.rxByte b) s = .next { s with rx := .collecting (got ++ [b]) (s.clock + 20) }) ∧
      (600000 < (gapAt - s.clock).toNat →
        exec (.rxByte b) s = .next
          (let t := { s with rxTimeouts := saturating s.rxTimeouts }
           if b = 0x5A then begun t else hunting t))

/-- The bytes of a frame, received one after another by a hunting receiver, bring exactly that frame to the inbound
buffer, whatever its kind, tag and body (R138, R139, R141): the same as the frame arriving whole, which for each of the
fifteen request kinds is that request's own command. With any other two bytes for its CRC the frame is discarded and counted, and nothing else changes. That a request command stands for its
whole frame is the model's choice (log entry 1). -/
def Obligations.FrameBytesBringTheFrame : Prop :=
  ∀ (s : State) (f : Frame), s.rx = .hunting → f.body.length ≤ 250 →
    receive f.bytes s = exec (.unknownKind f.kind f.tag f.body) s ∧
    (∀ p ∈ requestCommands, p.1 = f.kind → receive f.bytes s = exec (p.2 f.tag f.body) s) ∧
    ∀ c : List Byte, c.length = 2 → f.bytes.drop (f.body.length + 4) ≠ c →
      receive (f.bytes.take (f.body.length + 4) ++ c) s =
        .next { s with rxCrcErrors := saturating s.rxCrcErrors }

/-- Every request whose fields are in their ranges is read back from its kind and the bytes of its body (R145, R146,
R159). -/
def Obligations.RequestBytesReadBack : Prop :=
  ∀ r : Request, r.inRange = true → readRequest r.kind r.body = .request r

/-- REPORT_SENT (R143, R144, R161, R171, R178): the head leaves, a rate it carries becomes the link's, and a report behind
it is noted as not yet in transmission at this clock value (log entry 15). The dispatcher then takes the waiting frames,
however many, oldest first, each whole and as long as the unreserved room is at least 2; a frame so taken is handled as if
it arrived with none waiting, but that the frames behind it still wait: for each of the fifteen request kinds as that
request's own command handles it. That they are taken within the same command is the
model's choice (log entry 1). With an empty queue nothing is sent, and nothing changes (DEDUCED, log entry 4). -/
def Obligations.SentReportLeavesQueue : Prop :=
  (∀ s : State,
    (s.reports = [] → exec .reportSent s = .next s) ∧
    ∀ r rest, s.reports = r :: rest →
      let left : State := { s with
        reports := rest
        linkRate := match r.rateAfter with | some v => v | none => s.linkRate
        departed := if rest = [] then none else some s.clock }
      exec .reportSent s = .next left.dispatch) ∧
  (∀ s : State, (s.inbound = [] ∨ s.room < 2 → s.dispatch = s) ∧
    ∀ f waiting, s.inbound = f :: waiting → 2 ≤ s.room →
      s.dispatch = (({ s with inbound := waiting } : State).handle f).dispatch) ∧
  ∀ (s : State) (f : Frame), TakesNow s →
    exec (.unknownKind f.kind f.tag f.body) s = .next (s.handle f) ∧
    ∀ p ∈ requestCommands, p.1 = f.kind → exec (p.2 f.tag f.body) s = .next (s.handle f)

/-- The frame of every report (R138, R146, R160, R166, R168, R169): the sync, the length, the kind, the tag, the body with its
fields in their order and widths, each most significant byte first, and the CRC of the bytes between the sync and itself,
high byte first. That no CLOSED of the model carries the refusal code BUSY is log entry 28. -/
def Obligations.ReportFramesCarryTheirFields : Prop :=
  -- replies
  (∀ total start es, SentAs (.rosterPage total start es) 0x81
    (inBytes 2 total ++ inBytes 1 start ++ inBytes 1 es.length ++ es.flatMap fun e =>
      inBytes 8 e.identity.toNat ++ [lineByte e.line] ++ standingBytes e.standing ++ inBytes 1 e.misses ++
        [flagged e.attention] ++ inBytes 1 e.returns ++ inBytes 4 e.lastSeen.toNat)) ∧
  (∀ i, SentAs (.entryInfo i none) 0x82 (inBytes 8 i.toNat ++ inBytes 1 0)) ∧
  (∀ i position e, SentAs (.entryInfo i (some (position, e))) 0x82
    (inBytes 8 i.toNat ++ inBytes 1 1 ++ inBytes 1 position ++ [lineByte e.line] ++ standingBytes e.standing ++
      inBytes 2 (match e.standing with | .bound _ lease => lease | _ => 0) ++ inBytes 1 e.misses ++
      [flagged e.attention] ++ inBytes 2 e.memorySize ++ inBytes 1 e.returns ++ inBytes 4 e.lastSeen.toNat ++
      inBytes 1 e.pendingTx ++ [e.forgetting.getD 0])) ∧
  (∀ i : LineInfo, SentAs (.lineInfo i) 0x83
    ([lineByte i.line] ++ inBytes 4 i.clock.toNat ++ [powerByte i.power] ++
      (match i.openPower with
        | none => [0, 0] | some (tag, .off) => [tag, 0] | some (tag, .on) => [tag, 1] : List Byte) ++
      inBytes 1 (match i.settlingLeft with | none => 255 | some ms => ms) ++
      inBytes 1 (match i.speed with | none => 0 | some grade => grade) ++ inBytes 1 i.boundCount ++
      inBytes 1 i.freeCount ++ inBytes 1 i.quarantineCount ++
      (match i.earliest with
        | none => inBytes 1 0 ++ inBytes 4 0 ++ inBytes 4 0
        | some (expiry, left) => inBytes 1 1 ++ inBytes 4 expiry.toNat ++ inBytes 4 left) ++
      [i.census.getD 0] ++ inBytes 1 i.queueLength ++
      inBytes 1 (match i.pollRunning with | none => 0 | some true => 1 | some false => 2) ++
      inBytes 4 i.counters.callsSent.toNat ++ inBytes 4 i.counters.silent.toNat ++
      inBytes 4 i.counters.garbled.toNat ++ inBytes 4 i.counters.mismatches.toNat ++
      inBytes 4 i.counters.overruns.toNat ++ inBytes 4 i.counters.rounds.toNat)) ∧
  (∀ now hs, SentAs (.heldList now hs) 0x84
    (inBytes 4 now.toNat ++ inBytes 1 hs.length ++ hs.flatMap fun h =>
      inBytes 8 h.identity.toNat ++ [lineByte h.line] ++
        inBytes 1 (match h.reason with | .clash => 0 | .rosterFull => 1 | .noAddress => 2 | .forgotten => 3) ++
        inBytes 4 h.expiry.toNat)) ∧
  (∀ i : LinkInfo, SentAs (.linkInfo i) 0x85
    (inBytes 4 i.clock.toNat ++ inBytes 1 i.hostRate ++ inBytes 2 i.rxTimeouts.toNat ++
      inBytes 2 i.rxBadLength.toNat ++ inBytes 2 i.rxCrcErrors.toNat ++ inBytes 2 i.rxDiscards.toNat ++
      inBytes 2 i.dropped.toNat ++ inBytes 1 i.waiting ++ inBytes 1 i.occupied ++ inBytes 1 i.reserved ++
      [i.stop.getD 0] ++ inBytes 1 i.requests.length ++ i.requests.flatMap fun q =>
        [q.tag, kindByte q.kind, match q.state with | .queued => 0 | .running => 1 | .halting => 2])) ∧
  (∀ id v, SentAs (.paramValue id v) 0x86 (inBytes 1 id ++ inBytes 2 v)) ∧
  (∀ target kind, ∀ p ∈ [((0 : Byte), CancelResult.notOpen), (1, .notCancellable), (2, .cancelling)],
    SentAs (.cancelReply target kind p.2) 0x87 [target, match kind with | none => 0 | some k => kindByte k, p.1]) ∧
  (∀ soft rate, SentAs (.ready soft rate) 0xC0 ([flagged soft] ++ inBytes 1 rate)) ∧
  -- TAKEN, REFUSED and CLOSED
  (∀ k, SentAs (.taken k) 0x90 [kindByte k]) ∧
  (∀ kind, ∀ p ∈ [((0x01 : Byte), Reason.malformed), (0x02, .unknownKind), (0x03, .tagZero), (0x04, .tagInUse),
      (0x05, .stopping), (0x06, .tableFull), (0x07, .lineNotUp), (0x08, .lineBusy), (0x09, .censusActive),
      (0x0A, .unknownNode), (0x0B, .notBound), (0x0C, .forgetting), (0x0D, .badRange), (0x0E, .queueFull),
      (0x0F, .badParam), (0x10, .paramConflict), (0x11, .paramLocked)],
    SentAs (.refused kind p.2) 0x91 [kind, p.1]) ∧
  (∀ p ∈ [((0x00 : Byte), CloseOutcome.done), (0x01, .budget), (0x02, .cancelled), (0x03, .stopped), (0x04, .lineDown),
      (0x05, .faulted), (0x06, .noAnswer), (0x07, .nodeBusy), (0x08, .nodeRefused), (0x09, .targetLost),
      (0x0A, .targetGone)],
    (∀ t : Totals, SentAs (.closed p.2 (.census t)) 0x92
      ([0x10, p.1] ++ inBytes 1 t.rounds ++ inBytes 4 t.slots ++ inBytes 4 t.boundNew ++ inBytes 4 t.returned ++
        inBytes 4 t.moved ++ inBytes 4 t.clashes ++ inBytes 4 t.rosterFull ++ inBytes 4 t.noAddress ++
        inBytes 4 t.spoiled ++ inBytes 4 t.bindUnconfirmed)) ∧
    (∀ attempts bytes code, p.2 ≠ .done → p.2 ≠ .nodeRefused →
      SentAs (.closed p.2 (.read attempts bytes code)) 0x92 ([0x11, p.1] ++ inBytes 1 attempts)) ∧
    (∀ attempts, ∀ x ∈ [((0 : Byte), Stored.no), (1, .yes), (2, .unknown)], ∀ y ∈ refusals,
      SentAs (.closed p.2 (.write attempts x.2 y.2)) 0x92 ([0x12, p.1] ++ inBytes 1 attempts ++ [x.1, y.1])) ∧
    (∀ i, ∀ x ∈ [((0 : Byte), ForgetDetail.none), (1, .released), (2, .unconfirmed), (3, .found), (4, .wentLost),
        (5, .unpowered), (6, .direct)],
      SentAs (.closed p.2 (.forget i x.2)) 0x92 ([0x13, p.1] ++ inBytes 8 i.toNat ++ [x.1])) ∧
    (∀ l power lost, SentAs (.closed p.2 (.linePower l power lost)) 0x92
      ([0x14, p.1, lineByte l, powerByte power] ++ inBytes 1 lost)) ∧
    ∀ n, SentAs (.closed p.2 (.stop n)) 0x92 ([0x15, p.1] ++ inBytes 1 n)) ∧
  (∀ attempts bytes code, SentAs (.closed .done (.read attempts (some bytes) code)) 0x92
    ([0x11, 0x00] ++ inBytes 1 attempts ++ inBytes 1 bytes.length ++ bytes)) ∧
  (∀ attempts bytes, ∀ y ∈ refusals, SentAs (.closed .nodeRefused (.read attempts bytes y.2)) 0x92
    ([0x11, 0x08] ++ inBytes 1 attempts ++ [y.1])) ∧
  -- events
  ∀ d i l o a m r slot,
    let begins (l : Line) := inBytes 2 (BitVec.toNat (w := 16) d) ++ inBytes 8 (BitVec.toNat (w := 64) i) ++ [lineByte l]
    let at_ := inBytes 1 r ++ inBytes 2 slot
    (∀ flag, SentAs (.event d (.nodeFound i l a m r slot flag)) 0xA0
      (begins l ++ inBytes 1 a ++ inBytes 2 m ++ at_ ++ [flagged flag])) ∧
    (∀ n, SentAs (.event d (.nodeReturned i l a n r slot)) 0xA1 (begins l ++ inBytes 1 a ++ inBytes 1 n ++ at_)) ∧
    (∀ n, SentAs (.event d (.nodeMoved i o l a n r slot)) 0xA2
      (begins o ++ [lineByte l] ++ inBytes 1 a ++ inBytes 1 n ++ at_)) ∧
    SentAs (.event d (.identityClash i l o a r slot)) 0xA3 (begins l ++ [lineByte o] ++ inBytes 1 a ++ at_) ∧
    SentAs (.event d (.rosterFull i l r slot)) 0xA4 (begins l ++ at_) ∧
    SentAs (.event d (.noAddress i l r slot)) 0xA5 (begins l ++ at_) ∧
    (∀ e E S C K B next, SentAs (.event d (.roundSummary r e E S C K B next)) 0xA6
      (inBytes 2 d.toNat ++ inBytes 1 r ++ inBytes 1 e ++ inBytes 2 E ++ inBytes 2 S ++ inBytes 2 C ++ inBytes 2 K ++
        inBytes 2 B ++ inBytes 1 next)) ∧
    (∀ t, ∀ x ∈ [((0 : Byte), LossCause.poll), (1, .transaction), (2, .limit)],
      SentAs (.event d (.nodeLost i l a t x.2)) 0xB0 (begins l ++ inBytes 1 a ++ inBytes 4 t.toNat ++ [x.1])) ∧
    (∀ t, SentAs (.event d (.attention i l a t)) 0xB1 (begins l ++ inBytes 1 a ++ inBytes 4 t.toNat)) ∧
    ∀ t lost, SentAs (.event d (.lineFault l t lost)) 0xB2
      (inBytes 2 d.toNat ++ [lineByte l] ++ inBytes 4 t.toNat ++ inBytes 1 lost)

/-! ## Line power (R128, R130 to R134) -/

/-- SETTLING_EXPIRY (R92, R98, R128): the line goes UP at the timer's expiry, its first poll cycle has no members and is
finished at once, and the on closes DONE. That the command carries the clock to the expiry is the model's choice (log
entry 3); without a settling timer nothing changes (DEDUCED, log entry 4). -/
def Obligations.SettlingEndsAndLineGoesUp : Prop :=
  ∀ (s : State) (l : Line),
    ((s.line l).power ≠ .settling → exec (.settlingExpiry l) s = .next s) ∧
    ∀ (t : Clock) (on : Tag) (front back : List Req) (q : Req),
      (s.line l).power = .settling → (s.line l).settleAt = some t → (t - s.clock).toNat ≤ 100 →
      (s.line l).openPower = some (on, .on) → DownLaw s l → OpenAt s on front q back →
      exec (.settlingExpiry l) s = .next (({ s with
        clock := t
        table := front ++ back
        stop := stopLeft s (front ++ back = [])
        reports := s.reports ++ [report on (.closed .done (.linePower l .up 0))] ++
          stopClosed s (front ++ back = []) } : State).setLine l
        { s.line l with
          power := .up, settleAt := none, openPower := none
          poll := some { running := false, start := t, period := s.params.pollPeriod,
                         nextDue := t + BitVec.ofNat 32 s.params.pollPeriod, members := [],
                         remaining := [], late := false } })

/-- OVERCURRENT_TRIP (R31, R51, R128, R131 to R134): an UP line goes to FAULT with the whole line-down sweep, the closings
of the sweep come first, then LINE_FAULT with the lost count, then a waiting off closes FAULTED with the same count; a
SETTLING line goes to FAULT and its on closes FAULTED; a line without power does not trip, and the command then changes
nothing (DEDUCED, log entry 4). LINE_FAULT is queued or dropped as there is room (R164). An open STOP closes behind the CLOSED that empties the table. -/
def Obligations.TripTakesLineToFault : Prop :=
  ∀ (s : State) (l : Line),
    ((s.line l).power = .off ∨ (s.line l).power = .fault → exec (.overcurrentTrip l) s = .next s) ∧
    (∀ (on : Tag) (front back : List Req) (q : Req), (s.line l).power = .settling →
      (s.line l).openPower = some (on, .on) → OpenAt s on front q back →
      exec (.overcurrentTrip l) s = .next (({ s with
        table := front ++ back
        stop := stopLeft s (front ++ back = [])
        reports := s.reports ++ [report on (.closed .faulted (.linePower l .fault 0))] ++
          stopClosed s (front ++ back = []) } : State).setLine
        l { s.line l with power := .fault, settleAt := none, speed := none, openPower := none })) ∧
    ((s.line l).power = .up → RosterLaw s → TargetLaw s l →
      let lost := (s.boundEntries l).length
      let swept := sweepReports s l
      let faulted (stopped : List Report) (stop : Option StopRec) : State :=
        brought 0 [.lineFault l s.clock lost] (({ s with
          roster := unpoweredRoster l s.roster
          table := tableLess swept s.table
          stop := stop
          reports := s.reports ++ swept ++ stopped } : State).setLine l (unpoweredLine s l .fault))
      ((s.line l).openPower = none → AllOpen s swept →
        exec (.overcurrentTrip l) s =
          .next (faulted (stopClosed s (Emptied s swept)) (stopLeft s (Emptied s swept)))) ∧
      ∀ tag, (s.line l).openPower = some (tag, .off) →
        let closing := report tag (.closed .faulted (.linePower l .fault lost))
        let t := faulted [] s.stop
        AllOpen s (swept ++ [closing]) →
        exec (.overcurrentTrip l) s = .next { t with
          table := tableLess (swept ++ [closing]) s.table
          stop := stopLeft s (Emptied s (swept ++ [closing]))
          reports := t.reports ++ [closing] ++ stopClosed s (Emptied s (swept ++ [closing])) })

/-- LINE_POWER(off) on an UP line without an operation (R130, R132): TAKEN, the whole line-down sweep, and CLOSED DONE with
line state OFF and the number of entries that were BOUND. -/
def Obligations.OffTakesIdleLineDown : Prop :=
  ∀ (s : State) (tag : Tag) (l : Line), Admissible s tag → (s.line l).power = .up →
    (s.line l).openPower = none → (s.line l).op = none → RosterLaw s → TargetLaw s l →
    AllOpen s (sweepReports s l) →
    exec (.linePower tag (Request.linePower l .off).body) s = .next (({ s with
      roster := unpoweredRoster l s.roster
      table := tableLess (sweepReports s l) s.table
      reports := s.reports ++ report tag (.taken .linePower) :: sweepReports s l ++
        [report tag (.closed .done (.linePower l .off (s.boundEntries l).length))] } : State).setLine l
      (unpoweredLine s l .off))

/-- A LINE_POWER(off) that waits for the operation in progress (R126, R130, R132): the command that ends the operation does
all that it does without an off open, and then takes the line OFF with the whole sweep and closes the off DONE with the
number of entries that were BOUND. Stated where no claim is half taken. A poll that finishes a late cycle is left out:
whether its overrun counts is DEDUCED (log entry 12). -/
def Obligations.OffTakesLineDownAfterOperation : Prop :=
  ∀ (s t : State) (l : Line) (tag : Tag) (h : Heard) (c : Instr),
    c ∈ [Instr.slotWindow l h, .claimWindow l h, .bindOutcome l h, .hushWindow l h, .pollWindow l h,
      .attemptWindow l h, .releaseWindow l h] → Settled s →
    (s.line l).openPower = some (tag, .off) → (s.line l).op ≠ none →
    exec c (s.setLine l { s.line l with openPower := none }) = .next t → (t.line l).op = none →
    RosterLaw t → TargetLaw t l →
    (c = .pollWindow l h → (t.line l).counters.overruns = (s.line l).counters.overruns) →
    let swept := sweepReports t l
    let closing := report tag (.closed .done (.linePower l .off (t.boundEntries l).length))
    AllOpen t (swept ++ [closing]) →
    exec c s = .next (({ t with
      roster := unpoweredRoster l t.roster
      table := tableLess (swept ++ [closing]) t.table
      stop := stopLeft t (Emptied t (swept ++ [closing]))
      reports := t.reports ++ swept ++ [closing] ++ stopClosed t (Emptied t (swept ++ [closing])) } :
      State).setLine l (unpoweredLine t l .off))

/-! ## Grants and calls (R48, R60, R61, R83, R93, R110, R124, R125, R135) -/

/-- LINE_GRANT (R124, R125) to each contender: the executor begins an attempt of the head record at its target's present
address (R110), the scheduler polls its first remaining member that is BOUND (R93), the sequencer sends ROLL at slot
index 0 and STEP after it (R60, R61); the one granted counts 0 and each other that waited counts one more. On a line that
is not UP, has an off open, an operation in progress or nobody waiting, nothing is granted. -/
def Obligations.GrantBeginsOneOperation : Prop :=
  ∀ (s : State) (l : Line),
    ((s.line l).power ≠ .up ∨ (s.line l).offOpen = true ∨ (s.line l).op ≠ none ∨
        (∀ c, s.waits l c = false) → exec (.lineGrant l) s = .next s) ∧
    (∀ r rest e a lease, Granted s l .executor → (s.line l).queue = r :: rest →
      s.lookup r.target = some e → e.standing = .bound a lease →
      exec (.lineGrant l) s = .next (({ s with table := runningIn r.tag s.table } : State).setLine l
        { s.line l with
          queue := { r with attempts := r.attempts + 1, inFlight := true } :: rest
          op := some
            { work := .attempt, listening := false
              call := match r.work with
                | .read off len => .read a off len
                | .write off bs => .write a off bs
                | .release => .release a s.params.hushTime }
          passedT := 0
          passedP := passedOver s l .scheduler
          passedC := passedOver s l .sequencer })) ∧
    (∀ c skip n rest e a lease, Granted s l .scheduler → (s.line l).poll = some c →
      c.remaining = skip ++ n :: rest → (∀ k ∈ skip, s.memberBound l k = false) →
      s.entryOf n = some e → e.line = l → e.standing = .bound a lease →
      exec (.lineGrant l) s = .next (s.setLine l
        { s.line l with
          poll := some { c with remaining := rest }
          op := some { work := .poll n e.identity, listening := false, call := .poll a }
          passedT := passedOver s l .executor
          passedP := 0
          passedC := passedOver s l .sequencer })) ∧
    ∀ c, Granted s l .sequencer → (s.line l).census = some c →
      let counts (L : LineState) : LineState :=
        { L with passedT := passedOver s l .executor, passedP := passedOver s l .scheduler, passedC := 0 }
      let e := if c.exponent < s.params.expMin then s.params.expMin
        else if s.params.expMax < c.exponent then s.params.expMax else c.exponent
      (c.slotIndex = 0 →
        exec (.lineGrant l) s = .next (({ s with table := runningIn c.tag s.table } : State).setLine l
          (counts { s.line l with
            census := some { c with
              exponent := e, roundNumber := c.roundNumber + 1, emptySlots := 0, singleSlots := 0,
              collidedSlots := 0, spoiledSlots := 0, boundNodes := 0,
              totals := { c.totals with rounds := c.totals.rounds + 1 } }
            op := some { work := .slotOpening, listening := false,
                         call := .roll e c.scopeLength c.scopeBits } }))) ∧
      (c.slotIndex ≠ 0 →
        exec (.lineGrant l) s = .next (({ s with table := runningIn c.tag s.table } : State).setLine l
          (counts { s.line l with
            op := some { work := .slotOpening, listening := false, call := .step } })))

/-- CALL_SENT (R3, R48, R60, R83, R84, R135): the call is counted and its window opens; a ROLL is counted as a round and
extends every quarantine record of the line to its full hold from now, never to an earlier expiry, and puts the list in
order; a HUSH enters or refreshes the hush record of the found identity at the tail, a full list losing its head;
its hush_s is the one the HUSH began with (the model's choice, log entry 19). With no call being sent nothing changes
(DEDUCED, log entry 4). -/
def Obligations.SentCallOpensWindow : Prop :=
  ∀ (s : State) (l : Line),
    ((∀ o, (s.line l).op = some o → o.listening = true) → exec (.callSent l) s = .next s) ∧
    ∀ (w : OpWork) (c : Call),
      (s.line l).op = some { work := w, call := c, listening := false } →
      let counted : LineCounters :=
        { (s.line l).counters with callsSent := (s.line l).counters.callsSent + 1 }
      let open_ (w : OpWork) : Option LineOp := some { work := w, call := c, listening := true }
      ((∀ e n bits, c ≠ .roll e n bits) → (∀ h k, c ≠ .hush h k) →
        exec (.callSent l) s = .next (s.setLine l { s.line l with counters := counted, op := open_ w })) ∧
      (∀ e n bits, c = .roll e n bits →
        ∃ q, q.Perm ((s.line l).quarantine.map fun r =>
            if timeLeft s.clock r.expiry < r.hold then { r with expiry := s.clock + BitVec.ofNat 32 r.hold }
            else r) ∧ InOrder s.clock q ∧
          exec (.callSent l) s = .next (s.setLine l { s.line l with
            counters := { counted with rounds := counted.rounds + 1 }, op := open_ w, quarantine := q })) ∧
      ∀ h k i r v m, c = .hush h k → w = .slotHush i r v m →
        let record : HushRec :=
          { identity := i, line := l, reason := r, expiry := s.clock + BitVec.ofNat 32 (k * 1000) }
        let matched := s.hush.any fun x => x.identity == i && x.line == l && x.reason == r
        exec (.callSent l) s = .next (({ s with
          hush :=
            if ∃ x ∈ s.hush, x.identity = i then s.hush.filter (·.identity != i) ++ [record]
            else if s.hush.length < 16 then s.hush ++ [record] else s.hush.drop 1 ++ [record] } :
          State).setLine l { s.line l with counters := counted, op := open_ (.slotHush i r v matched) })

/-! ## Slots, claims, binds and hushes of the census (R4, R21 to R27, R61 to R69) -/

/-- The opening window of a slot (R4, R62): the classes of what can be heard; an empty slot and a collided slot are
counted and end the slot, a single one is claimed by its handle at once. The end of a slot that is the last of its round or
whose census is marked is in SlotEndGoesOnHaltsOrEndsRound. That a single slot is counted here (R62), before
its slot operation ends (R58), is the model's choice (log entry 27). -/
def Obligations.OpeningWindowClassesTheSlot : Prop :=
  (∀ (c : Call) (a b : Answer),
    c.classify .silence = .silence ∧
    c.classify .noise = .garbled ∧
    c.classify (.alone a) = (if c.admits a = true then .valid a else .garbled) ∧
    (∀ ok late, c.classify (.energy [⟨a, ok, false, late⟩] false) = .silence) ∧
    (∀ late, c.classify (.energy [⟨a, false, true, late⟩] false) = .garbled) ∧
    c.classify (.energy [⟨a, true, true, false⟩] false) = .garbled ∧
    (∀ x y, c.classify (.energy [⟨a, x, true, true⟩, ⟨b, y, true, true⟩] false) = .garbled)) ∧
  ∀ (s : State) (l : Line) (call : Call) (h : Heard) (c : Census),
    WindowOpen s l .slotOpening call →
    let L := s.line l
    (SlotGoesOn s l c → call.classify h = .silence →
      exec (.slotWindow l h) s = .next (s.setLine l { L with
        op := none, counters := { L.counters with silent := L.counters.silent + 1 },
        census := some (slotCounted { c with emptySlots := c.emptySlots + 1 }) })) ∧
    (SlotGoesOn s l c → call.classify h = .garbled →
      exec (.slotWindow l h) s = .next (s.setLine l { L with
        op := none, counters := { L.counters with garbled := L.counters.garbled + 1 },
        census := some (slotCounted { c with collidedSlots := c.collidedSlots + 1 }) })) ∧
    ∀ k, L.census = some c → call.classify h = .valid (.stub k) →
      exec (.slotWindow l h) s = .next (s.setLine l { nextCall s l .slotClaim (.claim k) with
        census := some { c with singleSlots := c.singleSlots + 1 } })

/-- The CLAIM's window (R21, R22, R25, R62, R65): no usable identity spoils the slot; a clash, a full roster and an empty
pool send HUSH with the event of the decision, the roster unchanged but for the UNBOUND entry that an identity without
an address gets, or that a LOST or UNBOUND entry becomes, a held address going back to the pool of its old line. A spoiled
slot that is the last of its round or whose census is marked is in SlotEndGoesOnHaltsOrEndsRound. hush_time is read as the
HUSH begins (the model's choice, log entry 19). -/
def Obligations.ClaimSpoilsOrHushes : Prop :=
  ∀ (s : State) (l : Line) (k : Handle) (h : Heard) (c : Census), Settled s →
    WindowOpen s l .slotClaim (.claim k) → (s.line l).census = some c →
    let w := (Call.claim k).classify h
    let hushing (r : HushReason) (v : FindEvent) : LineState :=
      nextCall s l (.slotHush (match v with
        | .identityClash i _ _ _ | .rosterFull i _ | .noAddress i _ => i
        | .nodeFound i _ _ _ | .nodeReturned i _ _ _ | .nodeMoved i _ _ _ _ => i) r (some v) false)
        (.hush k s.params.hushTime)
    (SlotGoesOn s l c →
      (w = .silence ∨ w = .garbled ∨ ∃ i m, w = .valid (.identity i m) ∧ (i = 0 ∨ i = BitVec.allOnes 64)) →
      exec (.claimWindow l h) s = .next (s.setLine l { s.line l with
        op := none, counters := classCounted w (s.line l).counters,
        census := some (slotCounted (slotSpoiled c)) })) ∧
    ∀ i m, w = .valid (.identity i m) → i ≠ 0 → i ≠ BitVec.allOnes 64 →
      (∀ e a lease, s.lookup i = some e → e.standing = .bound a lease → e.line ≠ l →
        exec (.claimWindow l h) s =
          .next (s.setLine l (hushing .clash (.identityClash i l e.line a)))) ∧
      (s.lookup i = none → 256 ≤ s.roster.length →
        exec (.claimWindow l h) s = .next (s.setLine l (hushing .rosterFull (.rosterFull i l)))) ∧
      (s.lookup i = none → s.roster.length < 256 → (s.line l).pool = [] →
        exec (.claimWindow l h) s = .next (({ s with
          roster := s.roster ++
            [{ serial := s.nextSerial, identity := i, line := l, standing := .unbound, misses := 0,
               attention := false, memorySize := m, returns := 0, lastSeen := s.clock,
               forgetting := none, pendingTx := 0 }]
          nextSerial := s.nextSerial + 1 } : State).setLine l (hushing .noAddress (.noAddress i l)))) ∧
      (∀ e x, RosterLaw s → s.lookup i = some e → e.standing = .lost (some x) → e.line ≠ l →
        (s.line l).pool = [] →
        exec (.claimWindow l h) s = .next ((({ s with
          roster := withEntry i (fun e => { e with
            line := l, standing := .unbound, memorySize := m, lastSeen := s.clock }) s.roster } :
          State).setLine e.line { s.line e.line with
            pool := (s.line e.line).pool ++ [x]
            quarantine := (s.line e.line).quarantine.filter (·.address != x) }).setLine l
          (hushing .noAddress (.noAddress i l)))) ∧
      ∀ e, RosterLaw s → s.lookup i = some e → (e.standing = .unbound ∨ e.standing = .lost none) →
        (s.line l).pool = [] →
        exec (.claimWindow l h) s = .next (({ s with
          roster := withEntry i (fun e => { e with
            line := l, standing := .unbound, memorySize := m, lastSeen := s.clock }) s.roster } :
          State).setLine l (hushing .noAddress (.noAddress i l)))

/-- The CLAIM's window with a find that binds (R22, R23, R24, R44, R45, R50, R86): the address given up, if any, goes to
the tail of the pool of the line it belonged to, the head of the found line's pool and node_lease go to the entry, the
hush record of the identity is removed and BIND goes out. A find by its own line of a forgotten entry (R26) completes the
FORGET, removes the entry and hushes the node without an event; a running record that names it closes TARGET_LOST first,
before the FORGET (the order of the two is the model's choice, log entry 11), and a cycle that the removal leaves with
nothing to do finishes (R98). hush_time is read as the HUSH begins (the model's choice, log entry 19). -/
def Obligations.ClaimBindsOrCompletesForget : Prop :=
  ∀ (s : State) (l : Line) (k : Handle) (h : Heard) (c : Census) (i : Ident) (m : Nat), Settled s →
    RosterLaw s → WindowOpen s l .slotClaim (.claim k) → (s.line l).census = some c →
    (Call.claim k).classify h = .valid (.identity i m) → i ≠ 0 → i ≠ BitVec.allOnes 64 →
    let lease := s.params.nodeLease
    let hush := s.hush.filter (·.identity != i)
    let back (e : Entry) : Nat := if e.returns < 255 then e.returns + 1 else 255
    let rebound (a : Address) : List Entry :=
      withEntry i (fun e => { e with
        line := l, standing := .bound a lease, misses := 0, returns := back e, memorySize := m,
        lastSeen := s.clock }) s.roster
    (∀ a rest, s.lookup i = none → s.roster.length < 256 → (s.line l).pool = a :: rest →
      exec (.claimWindow l h) s = .next (({ s with
        roster := s.roster ++
          [{ serial := s.nextSerial, identity := i, line := l, standing := .bound a lease, misses := 0,
             attention := false, memorySize := m, returns := 0, lastSeen := s.clock,
             forgetting := none, pendingTx := 0 }]
        nextSerial := s.nextSerial + 1, hush := hush } : State).setLine l
          { nextCall s l (.slotBind s.nextSerial i m (.nodeFound i l a m)) (.bind k a lease) with
            pool := rest })) ∧
    ∀ e, s.lookup i = some e →
      (∀ a rest, e.line = l → e.forgetting = none →
        (s.line l).pool ++ ((match e.standing with | .bound x _ => some x | .lost x => x | .unbound => none) :
          Option Address).toList = a :: rest →
        exec (.claimWindow l h) s = .next (({ s with roster := rebound a, hush := hush } : State).setLine l
          { nextCall s l (.slotBind e.serial i m (.nodeReturned i l a (back e))) (.bind k a lease) with
            pool := rest
            quarantine := (s.line l).quarantine.filter fun r => !decide (e.standing = .lost (some r.address)) })) ∧
      (∀ o a rest, e.line = o → o ≠ l → e.standing.isBound = false → (s.line l).pool = a :: rest →
        exec (.claimWindow l h) s = .next ((({ s with roster := rebound a, hush := hush } : State).setLine o
          { s.line o with
            pool := (s.line o).pool ++
              ((match e.standing with | .lost x => x | _ => none) : Option Address).toList
            quarantine := (s.line o).quarantine.filter fun r =>
              !decide (e.standing = .lost (some r.address)) }).setLine l
          { nextCall s l (.slotBind e.serial i m (.nodeMoved i o l a (back e))) (.bind k a lease) with
            pool := rest })) ∧
      ∀ a old tag, e.line = l → e.standing = .bound a old → e.forgetting = some tag →
        let rs := lostReports (s.line l).queue i ++ [report tag (.closed .done (.forget i .found))]
        let queue := purged (s.line l).queue i
        let roster := s.roster.filter (·.identity != i)
        AllOpen s rs →
        exec (.claimWindow l h) s = .next (({ s with
          roster := roster
          table := tableLess rs s.table
          stop := stopLeft s (Emptied s rs)
          reports := s.reports ++ rs ++ stopClosed s (Emptied s rs) } : State).setLine l
          (cycleAfter s l roster
            { nextCall s l (.slotHush i .forgotten none false) (.hush k s.params.hushTime) with
              pool := (s.line l).pool ++ [a], queue := queue, passedT := passedWith (s.line l) queue }))

/-- The BIND's window (R27, R47, R64, R70, R79): a matching ACK confirms the bind, with last_seen the clock, one more bound
node and the event of the find; anything else leaves it unconfirmed: the entry goes LOST with its address held and
quarantined, or is removed if it carries forgetting (DEDUCED, log entry 18), its records close TARGET_LOST, before the
FORGET of a forgetting one (the order is the model's choice, log entry 11), and NODE_FOUND is brought with the unconfirmed
flag; a cycle that the claim leaves with nothing to do finishes (R98). The event is queued or dropped as there is room
(R164). A slot that is the last of its round or whose census is marked is in SlotEndGoesOnHaltsOrEndsRound. -/
def Obligations.BindIsConfirmedOrEntryLost : Prop :=
  ∀ (s : State) (l : Line) (n : Nat) (i : Ident) (m : Nat) (v : FindEvent) (k : Handle)
    (a lease : Nat) (h : Heard) (c : Census) (e : Entry), Settled s → RosterLaw s →
    WindowOpen s l (.slotBind n i m v) (.bind k a lease) → SlotGoesOn s l c → s.entryOf n = some e →
    e.identity = i → e.line = l → e.standing = .bound a lease →
    let w := (Call.bind k a lease).classify h
    (w = .valid (.ack (i.setWidth 16)) →
      exec (.bindOutcome l h) s = .next (brought c.tag [findReport v c.roundNumber c.slotIndex] (({ s with
        roster := withEntry i (fun e => { e with lastSeen := s.clock }) s.roster } : State).setLine l
        { s.line l with
          op := none
          census := some (slotCounted (slotBound v c)) }))) ∧
    (w ≠ .valid (.ack (i.setWidth 16)) →
      let rs := outReports (s.line l).queue e
      let queue := purged (s.line l).queue i
      AllOpen s rs →
      ∃ q, OneMore s.clock (quarantined s l a lease (outOrigin e)) (s.line l).quarantine q ∧
        exec (.bindOutcome l h) s = .next (brought c.tag
          [.nodeFound i l a m c.roundNumber c.slotIndex true] (({ s with
          roster := countedOut e a s.roster
          table := tableLess rs s.table
          stop := stopLeft s (Emptied s rs)
          reports := s.reports ++ rs ++ stopClosed s (Emptied s rs) } : State).setLine l
          (cycleAfter s l (countedOut e a s.roster) { s.line l with
            op := none, counters := windowCounted w i (s.line l).counters, quarantine := q,
            nextSeq := (s.line l).nextSeq + 1, queue := queue, passedT := passedWith (s.line l) queue,
            census := some (slotCounted (slotUnconfirmed c)) }))))

/-- The HUSH's window (R65, R66, R70, R87): counted as classed, whatever its class the total of the reason rises and the
slot ends; the event is brought unless a hush record stood for the same identity, reason and line, and is queued or dropped
as there is room (R164). A slot that is the last of its round or whose census is marked is in
SlotEndGoesOnHaltsOrEndsRound. -/
def Obligations.HushEndsSlotWithOneEvent : Prop :=
  ∀ (s : State) (l : Line) (i : Ident) (r : HushReason) (v : Option FindEvent) (matched : Bool)
    (k : Handle) (t : Nat) (h : Heard) (c : Census),
    WindowOpen s l (.slotHush i r v matched) (.hush k t) → SlotGoesOn s l c →
    let after : LineState :=
      { s.line l with
        op := none, counters := classCounted ((Call.hush k t).classify h) (s.line l).counters,
        census := some (slotCounted (slotHushed r c)) }
    (matched = true ∨ v = none → exec (.hushWindow l h) s = .next (s.setLine l after)) ∧
    ∀ f, matched = false → v = some f →
      exec (.hushWindow l h) s =
        .next (brought c.tag [findReport f c.roundNumber c.slotIndex] (s.setLine l after))

/-- The end of a slot operation (R61, R66 to R69, R72, R75, R79) of any sort, empty, collided, spoiled, hushed, bound or
bound without confirmation, anywhere in its round. The slot's own event comes first. In the middle of a round a halt mark
then closes the census CANCELLED or STOPPED with its totals and without a summary, and an unmarked census goes on. After the
last slot comes the summary, with the counters of the round and the next exponent clamped into the limits; then a halt mark,
a round without any answer and a spent budget close the census in this order; otherwise the next round awaits its grant. An
open STOP closes behind the census when it was the last request; an event is queued or dropped as there is room (R164). Of
a slot whose BIND is unconfirmed, that a forgetting entry is removed is DEDUCED (log entry 18), and that its transactions
close before its FORGET is the model's choice (log entry 11). -/
def Obligations.SlotEndGoesOnHaltsOrEndsRound : Prop :=
  ∀ (s : State) (l : Line) (h : Heard) (c : Census) (front back : List Req) (q : Req),
    (s.line l).census = some c → (s.line l).offOpen = false → OpenAt s c.tag front q back →
    let counting (k : LineCounters) : State := s.setLine l { s.line l with counters := k }
    (∀ call, WindowOpen s l .slotOpening call →
      (call.classify h = .silence →
        exec (.slotWindow l h) s = .next (slotOver (counting (classCounted .silence (s.line l).counters)) l
          { c with emptySlots := c.emptySlots + 1 } none (front ++ back))) ∧
      (call.classify h = .garbled →
        exec (.slotWindow l h) s = .next (slotOver (counting (classCounted .garbled (s.line l).counters)) l
          { c with collidedSlots := c.collidedSlots + 1 } none (front ++ back)))) ∧
    (∀ k, Settled s → WindowOpen s l .slotClaim (.claim k) →
      let w := (Call.claim k).classify h
      (w = .silence ∨ w = .garbled ∨ ∃ i m, w = .valid (.identity i m) ∧ (i = 0 ∨ i = BitVec.allOnes 64)) →
      exec (.claimWindow l h) s = .next (slotOver (counting (classCounted w (s.line l).counters)) l
        (slotSpoiled c) none (front ++ back))) ∧
    (∀ i r v matched k t, WindowOpen s l (.slotHush i r v matched) (.hush k t) →
      let event := if matched = true then none else v.map (findReport · c.roundNumber c.slotIndex)
      exec (.hushWindow l h) s = .next
        (slotOver (counting (classCounted ((Call.hush k t).classify h) (s.line l).counters)) l
          (slotHushed r c) event (front ++ back))) ∧
    ∀ n i m v k a lease e, Settled s → RosterLaw s →
      WindowOpen s l (.slotBind n i m v) (.bind k a lease) → s.entryOf n = some e → e.identity = i →
      e.line = l → e.standing = .bound a lease →
      let w := (Call.bind k a lease).classify h
      (w = .valid (.ack (i.setWidth 16)) →
        exec (.bindOutcome l h) s = .next (slotOver
          { s with roster := withEntry i (fun e => { e with lastSeen := s.clock }) s.roster } l (slotBound v c)
          (some (findReport v c.roundNumber c.slotIndex)) (front ++ back))) ∧
      (w ≠ .valid (.ack (i.setWidth 16)) →
        let rs := outReports (s.line l).queue e
        let queue := purged (s.line l).queue i
        let roster := countedOut e a s.roster
        AllOpen s rs → (∀ r ∈ rs, r.tag ≠ c.tag) →
        ∃ x, OneMore s.clock (quarantined s l a lease (outOrigin e)) (s.line l).quarantine x ∧
          exec (.bindOutcome l h) s = .next (slotOver
            (({ s with
              roster := roster, table := tableLess rs s.table, reports := s.reports ++ rs } : State).setLine l
              (cycleAfter s l roster { s.line l with
                op := none, counters := windowCounted w i (s.line l).counters, quarantine := x,
                nextSeq := (s.line l).nextSeq + 1, queue := queue, passedT := passedWith (s.line l) queue }))
            l (slotUnconfirmed c) (some (.nodeFound i l a m c.roundNumber c.slotIndex true))
            (tableLess rs (front ++ back))))

/-! ## Polls (R28, R29, R92 to R99) -/

/-- The POLL's window (R28, R29, R94 to R97, R101): a STATUS with the member's check word sets misses 0, last_seen and
attention, a rise of attention being reported when attention_reports is on; anything else is a miss. At miss_limit the
entry goes LOST with its address held and quarantined, its records close TARGET_LOST and NODE_LOST is brought; a forgetting
one is removed, its FORGET closes DONE, WENT_LOST behind them (the order is the model's choice, log entry 11), and no
NODE_LOST is made. An event is queued or dropped as there is room (R164). For an entry that is no longer BOUND, or no longer
in the roster, the claim is ignored and no ATTENTION made, and the window still counts; one that is BOUND again, on the
other line, is claimed there (the entry is told by its serial, DEDUCED, log entry 10). A poll that leaves a cycle with
nothing to do, however it is judged, finishes it (R98). -/
def Obligations.PollIsAnsweredMissedOrLost : Prop :=
  ∀ (s : State) (l : Line) (n : Nat) (i : Ident) (a : Nat) (h : Heard), Settled s →
    WindowOpen s l (.poll n i) (.poll a) → (s.line l).offOpen = false →
    let w := (Call.poll a).classify h
    let after : LineState :=
      { s.line l with op := none, counters := windowCounted w i (s.line l).counters }
    ((∀ e, s.entryOf n = some e → e.standing.isBound = false) →
      exec (.pollWindow l h) s = .next (s.setLine l (cycleAfter s l s.roster after))) ∧
    ∀ (e : Entry) (b lease : Nat), RosterLaw s → s.entryOf n = some e → e.identity = i →
      e.standing = .bound b lease →
      (∀ flag, w = .valid (.status (i.setWidth 16) flag) →
        let roster := withEntry i (fun e => { e with
          misses := 0, lastSeen := s.clock, attention := flag }) s.roster
        let heard : State := ({ s with roster := roster } : State).setLine l (cycleAfter s l roster after)
        (flag = true ∧ e.attention = false ∧ s.params.attentionReports = 1 →
          exec (.pollWindow l h) s = .next (brought 0 [.attention i l a s.clock] heard)) ∧
        (flag = false ∨ e.attention = true ∨ s.params.attentionReports = 0 →
          exec (.pollWindow l h) s = .next heard)) ∧
      ((∀ flag, w ≠ .valid (.status (i.setWidth 16) flag)) →
        (e.misses + 1 < s.params.missLimit →
          let roster := withEntry i (fun e => { e with misses := e.misses + 1 }) s.roster
          exec (.pollWindow l h) s = .next (({ s with roster := roster } : State).setLine l
            (cycleAfter s l roster after))) ∧
        (s.params.missLimit ≤ e.misses + 1 →
          let rs := outReports (s.line e.line).queue e
          let queue := purged (s.line e.line).queue i
          let roster := countedOut e b s.roster
          AllOpen s rs →
          ∃ q, OneMore s.clock (quarantined s e.line b lease (outOrigin e)) (s.line e.line).quarantine q ∧
            let base (k : Line) : LineState := if k = l then after else s.line k
            let ends (k : Line) : LineState := cycleAfter s k roster
              (if k = e.line then { base k with
                quarantine := q, nextSeq := (s.line k).nextSeq + 1, queue := queue,
                passedT := passedWith (s.line k) queue }
              else base k)
            exec (.pollWindow l h) s = .next (brought 0 (lossOf e b .poll) ((({ s with
              roster := roster
              table := tableLess rs s.table
              stop := stopLeft s (Emptied s rs)
              reports := s.reports ++ rs ++ stopClosed s (Emptied s rs) } :
              State).setLine .A (ends .A)).setLine .B (ends .B)))))

/-- POLL_DUE and the finish of a cycle (R92, R98, R99): the due time makes a WAITING scheduler start a cycle over the
entries BOUND on the line in roster order, and a RUNNING one set its late mark; the poll that leaves no remaining member
BOUND, answered with or without a rise of attention, missed, its member counted out, or no longer BOUND when its window
comes, finishes the cycle, which waits for its due time or, late, counts an overrun and the next starts at once over the entries then BOUND. That POLL_DUE carries
the clock to the due time is the model's choice (log entry 3); without a cycle it changes nothing (DEDUCED, log entry
4). -/
def Obligations.CyclesStartAtDueTimeAndFinish : Prop :=
  ∀ (s : State) (l : Line),
    ((s.line l).poll = none → exec (.pollDue l) s = .next s) ∧
    (∀ c, (s.line l).poll = some c → (c.nextDue - s.clock).toNat ≤ 10000 →
      (c.running = true →
        exec (.pollDue l) s = .next (({ s with clock := c.nextDue } : State).setLine l
          { s.line l with poll := some { c with late := true } })) ∧
      (c.running = false →
        exec (.pollDue l) s = .next (({ s with clock := c.nextDue } : State).setLine l
          { s.line l with poll := some (cycleFrom l c.nextDue s.params.pollPeriod s.roster) }))) ∧
    ∀ (c : PollCycle) (n : Nat) (i : Ident) (a : Nat) (h : Heard), Settled s → RosterLaw s →
      (s.line l).poll = some c → c.running = true →
      (∀ k ∈ c.remaining, s.memberBound l k = false) →
      WindowOpen s l (.poll n i) (.poll a) → (s.line l).offOpen = false →
      ∃ t, exec (.pollWindow l h) s = .next t ∧ t.clock = s.clock ∧ (t.line l).op = none ∧
        (t.line l).passedP = 0 ∧
        (t.line l).poll = some (if c.late = true then cycleFrom l s.clock s.params.pollPeriod t.roster
          else { c with running := false, remaining := [] }) ∧
        (t.line l).counters.overruns =
          (s.line l).counters.overruns + if c.late = true then 1 else 0

/-! ## Transactions (R28, R111 to R114, R116, R119, R35) -/

/-- The window of an attempt of a READ or WRITE (R28, R29, R111 to R116): done and refused close with their contents, marked
or not, the entry answered; a busy or unheard attempt closes by the record's halt mark if it has one; unmarked it stays at
the head while retry_limit allows, or closes NODE_BUSY, or NO_ANSWER with one miss behind it, which at miss_limit counts the
entry out; a WRITE that is not acknowledged says whether an unheard attempt may have stored its data. That a WRITE closed
NODE_BUSY carries no refusal code is the model's choice (log entry 28), and so is that the transactions of a forgetting entry
counted out close before its FORGET (log entry 11). A cycle that the counting out leaves with nothing to do finishes
(R98); NODE_LOST is queued or dropped as there is room (R164). The window of an attempt whose record was purged while it was
in flight (R115) is classed and counted, without a check mismatch, and handed to nothing. -/
def Obligations.AttemptClosesOrStaysAtHead : Prop :=
  (∀ (s : State) (l : Line) (call : Call) (h : Heard), Settled s → WindowOpen s l .attempt call →
    (∃ a off len, call = .read a off len) ∨ (∃ a off bytes, call = .write a off bytes) →
    (s.line l).offOpen = false → (∀ r ∈ (s.line l).queue.head?, r.inFlight = false) →
    exec (.attemptWindow l h) s = .next (s.setLine l { s.line l with
      op := none, counters := classCounted (call.classify h) (s.line l).counters })) ∧
  ∀ (s : State) (l : Line) (a lease : Nat) (r : Txn) (rest : List Txn) (h : Heard) (e : Entry)
    (front back : List Req) (q : Req), Settled s → RosterLaw s →
    (s.line l).queue = r :: rest → r.inFlight = true → (s.line l).offOpen = false →
    s.lookup r.target = some e → e.line = l → e.standing = .bound a lease → OpenAt s r.tag front q back →
    let i := r.target
    let answered := withEntry i (fun e => { e with misses := 0, lastSeen := s.clock }) s.roster
    ∀ (call : Call), WindowOpen s l .attempt call →
      (∃ off len, r.work = .read off len ∧ call = .read a off len) ∨
        (∃ off bytes, r.work = .write off bytes ∧ call = .write a off bytes) →
      let w := call.classify h
      let after (queue : List Txn) : LineState :=
        { s.line l with
          op := none, counters := windowCounted w i (s.line l).counters, queue := queue }
      let done (stored : Stored) (bytes : Option (List Byte)) (code : Option RefusalCode) : CloseResult :=
        match r.work with
        | .read _ _ => .read r.attempts bytes code
        | _ => .write r.attempts stored code
      let unsure : Stored := if r.unheard = 0 then .no else .unknown
      let closes (roster : List Entry) (o : CloseOutcome) (x : CloseResult) : Prop :=
        exec (.attemptWindow l h) s = .next (({ s with
          roster := lessPending i roster
          table := front ++ back
          stop := stopLeft s (front ++ back = [])
          reports := s.reports ++ [report r.tag (.closed o x)] ++ stopClosed s (front ++ back = []) } :
          State).setLine l (after rest))
      let stays (roster : List Entry) (x : Txn) : Prop :=
        exec (.attemptWindow l h) s =
          .next (({ s with roster := roster } : State).setLine l (after (x :: rest)))
      let missed := withEntry i (fun e => { e with misses := e.misses + 1 }) s.roster
      (∀ bs, w = .valid (.data (i.setWidth 16) bs) → closes answered .done (done .yes (some bs) none)) ∧
      (w = .valid (.ack (i.setWidth 16)) → closes answered .done (done .yes none none)) ∧
      (∀ code, w = .valid (.refusal (i.setWidth 16) code) → code ≠ .busy →
        closes answered .nodeRefused (done unsure none (some code))) ∧
      (w = .valid (.refusal (i.setWidth 16) .busy) →
        (∀ m, r.halt = some m → closes answered (haltOutcome m) (done unsure none none)) ∧
        (r.halt = none → r.attempts ≤ s.params.retryLimit → stays answered { r with inFlight := false }) ∧
        (r.halt = none → s.params.retryLimit < r.attempts →
          closes answered .nodeBusy (done unsure none none))) ∧
      (NotItsAnswer w i →
        (∀ m, r.halt = some m → closes s.roster (haltOutcome m) (done .unknown none none)) ∧
        (r.halt = none → r.attempts ≤ s.params.retryLimit →
          stays s.roster { r with inFlight := false, unheard := r.unheard + 1 }) ∧
        (r.halt = none → s.params.retryLimit < r.attempts → e.misses + 1 < s.params.missLimit →
          closes missed .noAnswer (done .unknown none none)) ∧
        (r.halt = none → s.params.retryLimit < r.attempts → s.params.missLimit ≤ e.misses + 1 →
          let rs := report r.tag (.closed .noAnswer (done .unknown none none)) :: outReports rest e
          AllOpen s rs →
          ∃ k, OneMore s.clock (quarantined s l a lease (outOrigin e)) (s.line l).quarantine k ∧
            exec (.attemptWindow l h) s = .next (brought 0 (lossOf e a .transaction) (({ s with
              roster := countedOut e a s.roster
              table := tableLess rs s.table
              stop := stopLeft s (Emptied s rs)
              reports := s.reports ++ rs ++ stopClosed s (Emptied s rs) } : State).setLine l
              (cycleAfter s l (countedOut e a s.roster)
                { after (purged rest i) with quarantine := k, nextSeq := (s.line l).nextSeq + 1 })))))

/-- The window of a RELEASE attempt (R35, R119): a matching ACK removes the entry, its address to the tail of the pool, and
the FORGET closes DONE, RELEASED; without one the RELEASE stays between attempts while retry_limit allows, and then the
entry is removed, its address in quarantine with no origin, and the FORGET closes DONE, UNCONFIRMED. A cycle that the
removal leaves with nothing to do finishes (R98). The window of a RELEASE that was removed while it was in flight (R121) is
classed and counted, without a check mismatch, and handed to nothing. -/
def Obligations.ReleaseEndsTheForget : Prop :=
  (∀ (s : State) (l : Line) (a t : Nat) (h : Heard), Settled s → WindowOpen s l .attempt (.release a t) →
    (s.line l).offOpen = false → (∀ r ∈ (s.line l).queue.head?, r.inFlight = false) →
    exec (.releaseWindow l h) s = .next (s.setLine l { s.line l with
      op := none, counters := classCounted ((Call.release a t).classify h) (s.line l).counters })) ∧
  ∀ (s : State) (l : Line) (a lease t : Nat) (r : Txn) (rest : List Txn) (h : Heard) (e : Entry)
    (front back : List Req) (q : Req), Settled s → RosterLaw s →
    WindowOpen s l .attempt (.release a t) → (s.line l).queue = r :: rest → r.inFlight = true →
    r.work = .release → (s.line l).offOpen = false → s.lookup r.target = some e → e.line = l →
    e.standing = .bound a lease → OpenAt s r.tag front q back →
    let i := r.target
    let roster := s.roster.filter (·.identity != i)
    let w := (Call.release a t).classify h
    let after (queue : List Txn) : LineState :=
      { s.line l with op := none, counters := windowCounted w i (s.line l).counters, queue := queue }
    let removed (d : ForgetDetail) : State :=
      { s with
        roster := roster
        table := front ++ back
        stop := stopLeft s (front ++ back = [])
        reports := s.reports ++ [report r.tag (.closed .done (.forget i d))] ++
          stopClosed s (front ++ back = []) }
    (w = .valid (.ack (i.setWidth 16)) →
      exec (.releaseWindow l h) s = .next ((removed .released).setLine l
        (cycleAfter s l roster { after rest with pool := (s.line l).pool ++ [a] }))) ∧
    (w ≠ .valid (.ack (i.setWidth 16)) → r.attempts ≤ s.params.retryLimit →
      exec (.releaseWindow l h) s = .next (s.setLine l
        (after ({ r with inFlight := false, unheard := r.unheard + 1 } :: rest)))) ∧
    (w ≠ .valid (.ack (i.setWidth 16)) → s.params.retryLimit < r.attempts →
      ∃ k, OneMore s.clock (quarantined s l a lease none) (s.line l).quarantine k ∧
        exec (.releaseWindow l h) s = .next ((removed .unconfirmed).setLine l
          (cycleAfter s l roster { after rest with quarantine := k, nextSeq := (s.line l).nextSeq + 1 })))

/-! ## Expiries (R32, R49, R85) -/

/-- QUARANTINE_EXPIRY (R32, R49): at the soonest expiry every record that is due leaves, the addresses go to the tail of
the pool in list order, and a LOST entry that still holds one of them clears it. HUSH_EXPIRY (R85): at the soonest expiry
the records due at that clock value leave together, and nothing else changes. That either command carries the clock to the
expiry is the model's choice (log entry 3), that an expiry claim looks at the entry's line is DEDUCED (log entry 23), and
so is that without a record nothing changes (log entry 4). -/
def Obligations.DueRecordsLeaveAtTheirExpiry : Prop :=
  (∀ (s : State) (l : Line),
    ((s.line l).quarantine = [] → exec (.quarantineExpiry l) s = .next s) ∧
    ∀ (due later : List QuarantineRec) (t : Clock), (s.line l).quarantine = due ++ later → due ≠ [] →
      (∀ r ∈ due, r.expiry = t) → (t - s.clock).toNat ≤ 70000 →
      (∀ r ∈ later, (t - s.clock).toNat < (r.expiry - s.clock).toNat ∧
        (r.expiry - s.clock).toNat ≤ 70000) →
      exec (.quarantineExpiry l) s = .next (({ s with
        clock := t
        roster := s.roster.map fun e =>
          if e.line = l ∧ ∃ r ∈ due, r.origin = some e.identity ∧ e.standing = .lost (some r.address) then
            { e with standing := .lost none }
          else e } : State).setLine l { s.line l with
            quarantine := later, pool := (s.line l).pool ++ due.map (·.address) })) ∧
  ∀ s : State,
    (s.hush = [] → exec .hushExpiry s = .next s) ∧
    ∀ t : Clock, (∃ h ∈ s.hush, h.expiry = t) →
      (∀ h ∈ s.hush, (t - s.clock).toNat ≤ (h.expiry - s.clock).toNat ∧
        (h.expiry - s.clock).toNat ≤ 600000) →
      exec .hushExpiry s = .next { s with clock := t, hush := s.hush.filter (·.expiry != t) }

/-! ## Laws that every step keeps -/

/-- The limits of the tables and buffers (R82, R142, R144, R150, R162). -/
def Obligations.EveryStepKeepsTablesWithinLimits : Prop :=
  KeptByEveryStep fun s => RoomLaw s ∧ TableLaw s ∧ InboundLaw s ∧ HushLaw s ∧ ReceiverLaw s

/-- Every parameter lies within its range and both cross-checks hold (R172), and the link runs at a host rate (R178). -/
def Obligations.EveryStepKeepsParametersLegal : Prop :=
  KeptByEveryStep fun s => ParamLaw s ∧ LinkLaw s

/-- No two entries bear one identity, the roster holds at most 256 (R18), a BOUND entry's misses are below miss_limit (R28)
and an entry that is not BOUND has misses 0, pending 0 and no forgetting (R19). -/
def Obligations.EveryStepKeepsEntriesLegal : Prop :=
  KeptByEveryStep fun s => RosterLaw s ∧ ParamLaw s ∧ EntryLaw s

/-- The address law (R43) and the held address law (R19): for each line every address 1..240 stands in exactly one place,
in the pool, at one BOUND entry of the line or in one quarantine record. -/
def Obligations.EveryStepKeepsAddressLaw : Prop :=
  KeptByEveryStep fun s => RosterLaw s ∧ HeldLaw s ∧ OnBothLines AddressLaw s

/-- A line that is not UP has nothing in it (R52, R91, R122, R137), the supervisor's fields agree (R127, R128, R130, R134),
a contender that does not wait has count 0 (R124), and the executor is passed over at most 2 times, the scheduler at most
4 and the sequencer at most 5 (section 8.1). -/
def Obligations.EveryStepKeepsLinesLegal : Prop :=
  KeptByEveryStep fun s => RosterLaw s ∧ OnBothLines DownLaw s ∧ OnBothLines PowerLaw s ∧
    OnBothLines WaitLaw s ∧ OnBothLines ArbiterLaw s

/-- At most 16 records, only the head runs, in flight only while an attempt holds the line, never more than 8 attempts
(R107, R110, R112). -/
def Obligations.EveryStepKeepsQueuesLegal : Prop :=
  KeptByEveryStep fun s => ParamLaw s ∧ OnBothLines QueueLaw s

/-- Every open request stands for a census, a record or a LINE_POWER of its line, and each of these has its open request
(R57, R107, R127, R149, R150); a STOP is open only while some request is (R155). Every record names an entry BOUND on its
line (R107), a record in flight is the one whose call the line SentAs (R110), and a forgetting entry has its RELEASE in the
queue of its line, with no record behind it for the same node (R33, R109, R118). With these also a BOUND entry's pending is
the number of records naming it (R36). -/
def Obligations.EveryStepKeepsRecordsAndRequests : Prop :=
  let laws (s : State) : Prop :=
    RosterLaw s ∧ ParamLaw s ∧ EntryLaw s ∧ TableLaw s ∧ RequestLaw s ∧ StopLaw s ∧
      OnBothLines DownLaw s ∧ OnBothLines PowerLaw s ∧ OnBothLines QueueLaw s ∧ OnBothLines FlightLaw s ∧
      OnBothLines TargetLaw s ∧ OnBothLines ForgetLaw s ∧ OnBothLines WorkLaw s
  KeptByEveryStep laws ∧ KeptByEveryStep fun s => laws s ∧ PendingLaw s

/-- Every CLOSED queued carries an outcome of its kind (R167), every line event tag 0 and every TAKEN and CLOSED a tag of
1..255 (R165). -/
def Obligations.EveryStepKeepsReportsLegal : Prop :=
  KeptByEveryStep fun s => TableLaw s ∧ ReportLaw s

/-- The round counters of a census agree with its slot index (R58, R61, R67, R70). That a single slot is counted when its
opening window is classed, before its slot operation ends, is the model's choice (log entry 27). -/
def Obligations.EveryStepKeepsCensusCounters : Prop :=
  KeptByEveryStep fun s => ParamLaw s ∧ OnBothLines CensusLaw s

/-! ## A node (R5, R11, R13, R14) -/

/-- READ and WRITE at a node that holds the address (R11, R13, R14): range first, for a WRITE then write protection of any
byte of the region, then busy, then the bytes read or every byte stored; the lease restarts whatever the answer. A node
that holds another address, or none, ignores both. That nodes stand beside the state of the part is the model's choice (log
entry 6), and so is that nothing else of the node changes within the call, its attention flag among it (log entry 29). -/
def Obligations.NodeServesReadAndWrite : Prop :=
  ∀ (n : Node) (a off len : Nat) (bs : List Byte) (s : Nat) (k : Handle) (busy : Bool), n.powered = true →
    1 ≤ a → a ≤ 240 → off ≤ 4095 → 1 ≤ len → len ≤ 32 → 1 ≤ bs.length → bs.length ≤ 32 →
    let hear (c : Call) := n.hear c true s k busy
    ((∀ x, n.held = some x → x.address ≠ a) →
      hear (.read a off len) = (n, none) ∧ hear (.write a off bs) = (n, none)) ∧
    ∀ x, n.held = some x → x.address = a →
      let m : Node := { n with held := some { x with leftMs := x.leaseMs } }
      let id := n.identity.setWidth 16
      (n.memory.length < off + len → hear (.read a off len) = (m, some (.refusal id .range))) ∧
      (off + len ≤ n.memory.length →
        (busy = true → hear (.read a off len) = (m, some (.refusal id .busy))) ∧
        (busy = false → ∃ out, hear (.read a off len) = (m, some (.data id out)) ∧ out.length = len ∧
          ∀ j, j < len → out[j]? = (n.memory[off + j]?).map (·.1))) ∧
      (n.memory.length < off + bs.length → hear (.write a off bs) = (m, some (.refusal id .range))) ∧
      (off + bs.length ≤ n.memory.length →
        ((∃ j, j < bs.length ∧ (n.memory[off + j]?).map (·.2) = some true) →
          hear (.write a off bs) = (m, some (.refusal id .writeProtected))) ∧
        ((∀ j, j < bs.length → (n.memory[off + j]?).map (·.2) = some false) →
          (busy = true → hear (.write a off bs) = (m, some (.refusal id .busy))) ∧
          (busy = false → ∃ mem, hear (.write a off bs) = ({ m with memory := mem }, some (.ack id)) ∧
            mem.length = n.memory.length ∧
            ∀ j : Nat, mem[j]? = if off ≤ j ∧ j < off + bs.length then (bs[j - off]?).map fun b => (b, false)
              else n.memory[j]?)))
end

