-- ==== Sys2Proof/Laws/State.lean ====
section
/-! SUPPORT. One lemma for each field and each basic update of the state, so that no proof unfolds a record update. -/

namespace Sys2Proof.Machine

variable (s : State) (l : Line)

/-! ## A line replaced or changed -/

@[simp] theorem State.line_setLine (L : LineState) : (s.setLine l L).line l = L := by cases l <;> rfl

theorem State.line_setLine_of_ne {l m : Line} (h : m ≠ l) (L : LineState) :
    (s.setLine l L).line m = s.line m := by
  cases l <;> cases m <;> first | rfl | exact absurd rfl h

@[simp] theorem State.setLine_line : s.setLine l (s.line l) = s := by cases l <;> rfl

@[simp] theorem State.setLine_setLine (L M : LineState) :
    (s.setLine l L).setLine l M = s.setLine l M := by cases l <;> rfl

@[simp] theorem State.line_modLine (f : LineState → LineState) :
    (s.modLine l f).line l = f (s.line l) := by cases l <;> rfl

theorem State.line_modLine_of_ne {l m : Line} (h : m ≠ l) (f : LineState → LineState) :
    (s.modLine l f).line m = s.line m := State.line_setLine_of_ne s h _

theorem State.modLine_eq_setLine (f : LineState → LineState) :
    s.modLine l f = s.setLine l (f (s.line l)) := rfl

@[simp] theorem State.setLine_clock (L : LineState) : (s.setLine l L).clock = s.clock := by
  cases l <;> rfl

@[simp] theorem State.setLine_params (L : LineState) : (s.setLine l L).params = s.params := by
  cases l <;> rfl

@[simp] theorem State.setLine_linkRate (L : LineState) : (s.setLine l L).linkRate = s.linkRate := by
  cases l <;> rfl

@[simp] theorem State.setLine_rx (L : LineState) : (s.setLine l L).rx = s.rx := by
  cases l <;> rfl

@[simp] theorem State.setLine_rxTimeouts (L : LineState) : (s.setLine l L).rxTimeouts = s.rxTimeouts := by
  cases l <;> rfl

@[simp] theorem State.setLine_rxBadLength (L : LineState) : (s.setLine l L).rxBadLength = s.rxBadLength := by
  cases l <;> rfl

@[simp] theorem State.setLine_rxCrcErrors (L : LineState) : (s.setLine l L).rxCrcErrors = s.rxCrcErrors := by
  cases l <;> rfl

@[simp] theorem State.setLine_rxDiscards (L : LineState) : (s.setLine l L).rxDiscards = s.rxDiscards := by
  cases l <;> rfl

@[simp] theorem State.setLine_inbound (L : LineState) : (s.setLine l L).inbound = s.inbound := by
  cases l <;> rfl

@[simp] theorem State.setLine_reports (L : LineState) : (s.setLine l L).reports = s.reports := by
  cases l <;> rfl

@[simp] theorem State.setLine_dropped (L : LineState) : (s.setLine l L).dropped = s.dropped := by
  cases l <;> rfl

@[simp] theorem State.setLine_departed (L : LineState) : (s.setLine l L).departed = s.departed := by
  cases l <;> rfl

@[simp] theorem State.setLine_table (L : LineState) : (s.setLine l L).table = s.table := by
  cases l <;> rfl

@[simp] theorem State.setLine_stop (L : LineState) : (s.setLine l L).stop = s.stop := by
  cases l <;> rfl

@[simp] theorem State.setLine_roster (L : LineState) : (s.setLine l L).roster = s.roster := by
  cases l <;> rfl

@[simp] theorem State.setLine_nextSerial (L : LineState) : (s.setLine l L).nextSerial = s.nextSerial := by
  cases l <;> rfl

@[simp] theorem State.setLine_hush (L : LineState) : (s.setLine l L).hush = s.hush := by
  cases l <;> rfl

@[simp] theorem State.setLine_pending (L : LineState) : (s.setLine l L).pending = s.pending := by
  cases l <;> rfl

@[simp] theorem State.modLine_clock (f : LineState → LineState) :
    (s.modLine l f).clock = s.clock := by cases l <;> rfl

@[simp] theorem State.modLine_params (f : LineState → LineState) :
    (s.modLine l f).params = s.params := by cases l <;> rfl

@[simp] theorem State.modLine_linkRate (f : LineState → LineState) :
    (s.modLine l f).linkRate = s.linkRate := by cases l <;> rfl

@[simp] theorem State.modLine_rx (f : LineState → LineState) :
    (s.modLine l f).rx = s.rx := by cases l <;> rfl

@[simp] theorem State.modLine_rxTimeouts (f : LineState → LineState) :
    (s.modLine l f).rxTimeouts = s.rxTimeouts := by cases l <;> rfl

@[simp] theorem State.modLine_rxBadLength (f : LineState → LineState) :
    (s.modLine l f).rxBadLength = s.rxBadLength := by cases l <;> rfl

@[simp] theorem State.modLine_rxCrcErrors (f : LineState → LineState) :
    (s.modLine l f).rxCrcErrors = s.rxCrcErrors := by cases l <;> rfl

@[simp] theorem State.modLine_rxDiscards (f : LineState → LineState) :
    (s.modLine l f).rxDiscards = s.rxDiscards := by cases l <;> rfl

@[simp] theorem State.modLine_inbound (f : LineState → LineState) :
    (s.modLine l f).inbound = s.inbound := by cases l <;> rfl

@[simp] theorem State.modLine_reports (f : LineState → LineState) :
    (s.modLine l f).reports = s.reports := by cases l <;> rfl

@[simp] theorem State.modLine_dropped (f : LineState → LineState) :
    (s.modLine l f).dropped = s.dropped := by cases l <;> rfl

@[simp] theorem State.modLine_departed (f : LineState → LineState) :
    (s.modLine l f).departed = s.departed := by cases l <;> rfl

@[simp] theorem State.modLine_table (f : LineState → LineState) :
    (s.modLine l f).table = s.table := by cases l <;> rfl

@[simp] theorem State.modLine_stop (f : LineState → LineState) :
    (s.modLine l f).stop = s.stop := by cases l <;> rfl

@[simp] theorem State.modLine_roster (f : LineState → LineState) :
    (s.modLine l f).roster = s.roster := by cases l <;> rfl

@[simp] theorem State.modLine_nextSerial (f : LineState → LineState) :
    (s.modLine l f).nextSerial = s.nextSerial := by cases l <;> rfl

@[simp] theorem State.modLine_hush (f : LineState → LineState) :
    (s.modLine l f).hush = s.hush := by cases l <;> rfl

@[simp] theorem State.modLine_pending (f : LineState → LineState) :
    (s.modLine l f).pending = s.pending := by cases l <;> rfl

/-! ## Entries changed -/

@[simp] theorem State.updEntry_clock (n : Nat) (f : Entry → Entry) : (s.updEntry n f).clock = s.clock := rfl

@[simp] theorem State.updEntry_params (n : Nat) (f : Entry → Entry) : (s.updEntry n f).params = s.params := rfl

@[simp] theorem State.updEntry_linkRate (n : Nat) (f : Entry → Entry) : (s.updEntry n f).linkRate = s.linkRate := rfl

@[simp] theorem State.updEntry_rx (n : Nat) (f : Entry → Entry) : (s.updEntry n f).rx = s.rx := rfl

@[simp] theorem State.updEntry_rxTimeouts (n : Nat) (f : Entry → Entry) : (s.updEntry n f).rxTimeouts = s.rxTimeouts := rfl

@[simp] theorem State.updEntry_rxBadLength (n : Nat) (f : Entry → Entry) : (s.updEntry n f).rxBadLength = s.rxBadLength := rfl

@[simp] theorem State.updEntry_rxCrcErrors (n : Nat) (f : Entry → Entry) : (s.updEntry n f).rxCrcErrors = s.rxCrcErrors := rfl

@[simp] theorem State.updEntry_rxDiscards (n : Nat) (f : Entry → Entry) : (s.updEntry n f).rxDiscards = s.rxDiscards := rfl

@[simp] theorem State.updEntry_inbound (n : Nat) (f : Entry → Entry) : (s.updEntry n f).inbound = s.inbound := rfl

@[simp] theorem State.updEntry_reports (n : Nat) (f : Entry → Entry) : (s.updEntry n f).reports = s.reports := rfl

@[simp] theorem State.updEntry_dropped (n : Nat) (f : Entry → Entry) : (s.updEntry n f).dropped = s.dropped := rfl

@[simp] theorem State.updEntry_departed (n : Nat) (f : Entry → Entry) : (s.updEntry n f).departed = s.departed := rfl

@[simp] theorem State.updEntry_table (n : Nat) (f : Entry → Entry) : (s.updEntry n f).table = s.table := rfl

@[simp] theorem State.updEntry_stop (n : Nat) (f : Entry → Entry) : (s.updEntry n f).stop = s.stop := rfl

@[simp] theorem State.updEntry_nextSerial (n : Nat) (f : Entry → Entry) : (s.updEntry n f).nextSerial = s.nextSerial := rfl

@[simp] theorem State.updEntry_hush (n : Nat) (f : Entry → Entry) : (s.updEntry n f).hush = s.hush := rfl

@[simp] theorem State.updEntry_pending (n : Nat) (f : Entry → Entry) : (s.updEntry n f).pending = s.pending := rfl

@[simp] theorem State.line_updEntry (n : Nat) (f : Entry → Entry) : (s.updEntry n f).line l = s.line l := by
  cases l <;> rfl

@[simp] theorem State.updNamed_clock (i : Ident) (f : Entry → Entry) : (s.updNamed i f).clock = s.clock := rfl

@[simp] theorem State.updNamed_params (i : Ident) (f : Entry → Entry) : (s.updNamed i f).params = s.params := rfl

@[simp] theorem State.updNamed_linkRate (i : Ident) (f : Entry → Entry) : (s.updNamed i f).linkRate = s.linkRate := rfl

@[simp] theorem State.updNamed_rx (i : Ident) (f : Entry → Entry) : (s.updNamed i f).rx = s.rx := rfl

@[simp] theorem State.updNamed_rxTimeouts (i : Ident) (f : Entry → Entry) : (s.updNamed i f).rxTimeouts = s.rxTimeouts := rfl

@[simp] theorem State.updNamed_rxBadLength (i : Ident) (f : Entry → Entry) : (s.updNamed i f).rxBadLength = s.rxBadLength := rfl

@[simp] theorem State.updNamed_rxCrcErrors (i : Ident) (f : Entry → Entry) : (s.updNamed i f).rxCrcErrors = s.rxCrcErrors := rfl

@[simp] theorem State.updNamed_rxDiscards (i : Ident) (f : Entry → Entry) : (s.updNamed i f).rxDiscards = s.rxDiscards := rfl

@[simp] theorem State.updNamed_inbound (i : Ident) (f : Entry → Entry) : (s.updNamed i f).inbound = s.inbound := rfl

@[simp] theorem State.updNamed_reports (i : Ident) (f : Entry → Entry) : (s.updNamed i f).reports = s.reports := rfl

@[simp] theorem State.updNamed_dropped (i : Ident) (f : Entry → Entry) : (s.updNamed i f).dropped = s.dropped := rfl

@[simp] theorem State.updNamed_departed (i : Ident) (f : Entry → Entry) : (s.updNamed i f).departed = s.departed := rfl

@[simp] theorem State.updNamed_table (i : Ident) (f : Entry → Entry) : (s.updNamed i f).table = s.table := rfl

@[simp] theorem State.updNamed_stop (i : Ident) (f : Entry → Entry) : (s.updNamed i f).stop = s.stop := rfl

@[simp] theorem State.updNamed_nextSerial (i : Ident) (f : Entry → Entry) : (s.updNamed i f).nextSerial = s.nextSerial := rfl

@[simp] theorem State.updNamed_hush (i : Ident) (f : Entry → Entry) : (s.updNamed i f).hush = s.hush := rfl

@[simp] theorem State.updNamed_pending (i : Ident) (f : Entry → Entry) : (s.updNamed i f).pending = s.pending := rfl

@[simp] theorem State.line_updNamed (i : Ident) (f : Entry → Entry) : (s.updNamed i f).line l = s.line l := by
  cases l <;> rfl

/-! ## A report queued -/

@[simp] theorem State.push_clock (t : Tag) (b : ReportBody) : (s.push t b).clock = s.clock := rfl

@[simp] theorem State.push_params (t : Tag) (b : ReportBody) : (s.push t b).params = s.params := rfl

@[simp] theorem State.push_linkRate (t : Tag) (b : ReportBody) : (s.push t b).linkRate = s.linkRate := rfl

@[simp] theorem State.push_rx (t : Tag) (b : ReportBody) : (s.push t b).rx = s.rx := rfl

@[simp] theorem State.push_rxTimeouts (t : Tag) (b : ReportBody) : (s.push t b).rxTimeouts = s.rxTimeouts := rfl

@[simp] theorem State.push_rxBadLength (t : Tag) (b : ReportBody) : (s.push t b).rxBadLength = s.rxBadLength := rfl

@[simp] theorem State.push_rxCrcErrors (t : Tag) (b : ReportBody) : (s.push t b).rxCrcErrors = s.rxCrcErrors := rfl

@[simp] theorem State.push_rxDiscards (t : Tag) (b : ReportBody) : (s.push t b).rxDiscards = s.rxDiscards := rfl

@[simp] theorem State.push_inbound (t : Tag) (b : ReportBody) : (s.push t b).inbound = s.inbound := rfl

@[simp] theorem State.push_dropped (t : Tag) (b : ReportBody) : (s.push t b).dropped = s.dropped := rfl

@[simp] theorem State.push_departed (t : Tag) (b : ReportBody) : (s.push t b).departed = s.departed := rfl

@[simp] theorem State.push_table (t : Tag) (b : ReportBody) : (s.push t b).table = s.table := rfl

@[simp] theorem State.push_stop (t : Tag) (b : ReportBody) : (s.push t b).stop = s.stop := rfl

@[simp] theorem State.push_roster (t : Tag) (b : ReportBody) : (s.push t b).roster = s.roster := rfl

@[simp] theorem State.push_nextSerial (t : Tag) (b : ReportBody) : (s.push t b).nextSerial = s.nextSerial := rfl

@[simp] theorem State.push_hush (t : Tag) (b : ReportBody) : (s.push t b).hush = s.hush := rfl

@[simp] theorem State.push_pending (t : Tag) (b : ReportBody) : (s.push t b).pending = s.pending := rfl

@[simp] theorem State.push_reports (t : Tag) (b : ReportBody) :
    (s.push t b).reports = s.reports ++ [{ tag := t, body := b, rateAfter := none }] := rfl

@[simp] theorem State.line_push (t : Tag) (b : ReportBody) : (s.push t b).line l = s.line l := by
  cases l <;> rfl

@[simp] theorem State.push_lineA (t : Tag) (b : ReportBody) : (s.push t b).lineA = s.lineA := rfl

@[simp] theorem State.push_lineB (t : Tag) (b : ReportBody) : (s.push t b).lineB = s.lineB := rfl

@[simp] theorem State.reserved_push (t : Tag) (b : ReportBody) :
    (s.push t b).reserved = s.reserved := rfl

theorem State.room_push (t : Tag) (b : ReportBody) : (s.push t b).room = s.room - 1 := by
  simp only [State.room, State.reserved_push, State.push_reports, List.length_append,
    List.length_singleton]
  omega

/-! ## The line read from a state with one field changed -/

@[simp] theorem State.line_with_clock (x : Clock) : ({ s with clock := x } : State).line l = s.line l := by
  cases l <;> rfl

@[simp] theorem State.line_with_params (x : Params) : ({ s with params := x } : State).line l = s.line l := by
  cases l <;> rfl

@[simp] theorem State.line_with_linkRate (x : Nat) : ({ s with linkRate := x } : State).line l = s.line l := by
  cases l <;> rfl

@[simp] theorem State.line_with_rx (x : Receiver) : ({ s with rx := x } : State).line l = s.line l := by
  cases l <;> rfl

@[simp] theorem State.line_with_inbound (x : List Frame) : ({ s with inbound := x } : State).line l = s.line l := by
  cases l <;> rfl

@[simp] theorem State.line_with_reports (x : List Report) : ({ s with reports := x } : State).line l = s.line l := by
  cases l <;> rfl

@[simp] theorem State.line_with_dropped (x : BitVec 16) : ({ s with dropped := x } : State).line l = s.line l := by
  cases l <;> rfl

@[simp] theorem State.line_with_departed (x : Option Clock) : ({ s with departed := x } : State).line l = s.line l := by
  cases l <;> rfl

@[simp] theorem State.line_with_table (x : List Req) : ({ s with table := x } : State).line l = s.line l := by
  cases l <;> rfl

@[simp] theorem State.line_with_stop (x : Option StopRec) : ({ s with stop := x } : State).line l = s.line l := by
  cases l <;> rfl

@[simp] theorem State.line_with_roster (x : List Entry) : ({ s with roster := x } : State).line l = s.line l := by
  cases l <;> rfl

@[simp] theorem State.line_with_nextSerial (x : Nat) : ({ s with nextSerial := x } : State).line l = s.line l := by
  cases l <;> rfl

@[simp] theorem State.line_with_hush (x : List HushRec) : ({ s with hush := x } : State).line l = s.line l := by
  cases l <;> rfl

@[simp] theorem State.line_with_pending (x : List Instr) : ({ s with pending := x } : State).line l = s.line l := by
  cases l <;> rfl

end Sys2Proof.Machine
end

