-- ==== Sys2Proof/Laws/Allocator.lean ====
section
/-! SUPPORT. What the allocator's and the hush list's operations do, said once: an ordered insertion keeps every record, and
what each claim does to pool, quarantine and hush list. -/

namespace Sys2Proof.Machine

variable (s : State) (l : Line)

/-- An insertion adds exactly the record (R47). -/
theorem insertRecord_perm (now : Clock) (r : QuarantineRec) (rs : List QuarantineRec) :
    (insertRecord now r rs).Perm (r :: rs) := by
  induction rs with
  | nil => exact .rfl
  | cons x xs ih =>
    unfold insertRecord
    split
    · exact .rfl
    · exact (ih.cons x).trans (.swap r x xs)

/-- Putting records in order keeps every record (R48). -/
theorem orderRecords_perm (now : Clock) (rs : List QuarantineRec) : (orderRecords now rs).Perm rs := by
  induction rs with
  | nil => exact .rfl
  | cons r rs ih => exact (insertRecord_perm now r _).trans (ih.cons r)

/-- An address placed in ascending order is added and nothing else. -/
theorem insertAddress_perm (a : Address) (as_ : List Address) : (insertAddress a as_).Perm (a :: as_) := by
  induction as_ with
  | nil => exact .rfl
  | cons x xs ih =>
    unfold insertAddress
    split
    · exact .rfl
    · exact (ih.cons x).trans (.swap a x xs)

/-- Ascending order keeps every address (R51). -/
theorem ascending_perm (as_ : List Address) : (ascending as_).Perm as_ := by
  induction as_ with
  | nil => exact .rfl
  | cons a as_ ih => exact (insertAddress_perm a _).trans (ih.cons a)

/-- A return claim lengthens the pool of its line and changes nothing else (R45). -/
theorem State.giveBack_eq (addrs : List Address) :
    s.giveBack l addrs = s.setLine l { s.line l with pool := (s.line l).pool ++ addrs } := rfl

/-- A quarantine claim adds one record to its line's list and changes besides only the line's next order number (R47). -/
theorem State.quarantineAddress_eq (a : Address) (lease : Nat) (origin : Option Ident) :
    ∃ q r, s.quarantineAddress l a lease origin =
        s.setLine l { s.line l with quarantine := q, nextSeq := (s.line l).nextSeq + 1 } ∧
      q.Perm (r :: (s.line l).quarantine) ∧ r.address = a ∧ r.origin = origin ∧
      r.hold = lease + s.params.quarantineMargin ∧ r.expiry = s.clock + BitVec.ofNat 32 r.hold :=
  ⟨_, _, rfl, insertRecord_perm _ _ _, rfl, rfl, rfl, rfl⟩

/-- An early exit moves an address from quarantine to the tail of the pool (R50). -/
theorem State.releaseEarly_eq (a : Address) :
    s.releaseEarly l a = s.setLine l { s.line l with
      quarantine := (s.line l).quarantine.filter (·.address != a)
      pool := (s.line l).pool ++ [a] } := rfl

/-- The extension at a ROLL changes expiries and order of the line's records, and nothing else (R48). -/
theorem State.extendQuarantine_eq :
    ∃ q, s.extendQuarantine l = s.setLine l { s.line l with quarantine := q } ∧
      q.Perm ((s.line l).quarantine.map (·.extend s.clock)) := ⟨_, rfl, orderRecords_perm _ _⟩

/-- The hush list has one record for the identity entered, at its tail (R83, R84). -/
theorem hushEnter_eq (hs : List HushRec) (h : HushRec) :
    ∃ front, hushEnter hs h = front ++ [h] ∧ front.Sublist hs := by
  unfold hushEnter
  split
  · exact ⟨_, rfl, List.filter_sublist⟩
  · split
    · exact ⟨hs, rfl, .refl hs⟩
    · exact ⟨hs.tail, rfl, List.tail_sublist hs⟩

end Sys2Proof.Machine
end

