-- ==== Sys2Proof/Laws/HostLink.lean ====
section
/-! SUPPORT. What the operations of the host link do, said once: arrival, the dispatcher, a request served, closing. -/

namespace Sys2Proof.Machine

variable (s : State)

theorem State.arrive_of_takes {s : State} (hi : s.inbound = []) (hr : 2 ≤ s.room) (k : Byte) (t : Tag)
    (b : List Byte) : s.arrive k t b = s.handle { kind := k, tag := t, body := b } := by
  have hroom : Config.takeRoom ≤ ({ s with inbound := [⟨k, t, b⟩] } : State).room := hr
  have hs : ({ s with inbound := [] } : State) = s := by rw [← hi]
  simp only [State.arrive, State.join, hi, Config.inboundMax, List.length_nil, List.nil_append,
    State.dispatch]
  simp only [Nat.zero_lt_succ, if_true, State.drain, List.length_singleton, hroom]
  exact congrArg (State.handle · { kind := k, tag := t, body := b }) hs

theorem State.drain_of_no_room {s : State} (hr : s.room < 2) (n : Nat) : State.drain n s = s := by
  cases n with
  | zero => rfl
  | succ n =>
    unfold State.drain
    split
    · rfl
    · rw [if_neg (by simpa [Config.takeRoom] using hr)]

/-- With no departure at this clock value the head is in transmission (R161, log entry 15). -/
theorem State.sending_of_not_departed {s : State} (h : s.departed ≠ some s.clock) :
    s.sending = s.reports.head? := if_neg h

/-- A RESET that comes together with a departure keeps no report and takes the table's rate at once (R171). -/
theorem State.serveReset_of_departed {s : State} (h : s.departed = some s.clock) :
    s.keptReport = [] ∧ s.rateAfterReset = s.params.hostRate := by
  simp only [State.keptReport, State.rateAfterReset, State.sending, if_pos h, and_self]

/-- The request served for a frame whose body is well formed for its kind. -/
theorem State.handle_of_request {f : Frame} {r : Request} (h : readRequest f.kind f.body = .request r) :
    s.handle f = s.serve f r := by simp only [State.handle, h]

end Sys2Proof.Machine
end

