-- ==== Sys2Proof/Laws/Operands.lean ====
section
/-! SUPPORT. What the operand forms do, said once: numbers in bytes, and what a window is classed as. -/

namespace Sys2Proof.Machine

/-! ## Numbers in bytes -/

@[simp] theorem bytesOf_length (k n : Nat) : (bytesOf k n).length = k := by
  induction k generalizing n with
  | zero => rfl
  | succ k ih => simp [bytesOf, ih]

theorem bytesOf_one (n : Nat) : bytesOf 1 n = [BitVec.ofNat 8 n] := by simp [bytesOf]

theorem bytesOf_two (n : Nat) : bytesOf 2 n = [BitVec.ofNat 8 (n / 256), BitVec.ofNat 8 n] := by
  simp [bytesOf]

theorem number_append_singleton (bs : List Byte) (b : Byte) :
    number (bs ++ [b]) = number bs * 256 + b.toNat := by simp [number]

/-- The number that `k` bytes of a number spell. -/
theorem number_bytesOf (k n : Nat) : number (bytesOf k n) = n % 256 ^ k := by
  induction k generalizing n with
  | zero => simp [bytesOf, number, Nat.mod_one]
  | succ k ih =>
    have hp : 256 ^ (k + 1) = 256 * 256 ^ k := by rw [pow_succ, Nat.mul_comm]
    simp only [bytesOf, number_append_singleton, ih, BitVec.toNat_ofNat]
    rw [hp, Nat.mod_mul]
    omega

/-- The identity read at the place where its 8 bytes stand. -/
theorem identAt_bytesOf (i : Ident) (rest : List Byte) :
    identAt (bytesOf 8 i.toNat ++ rest) 0 = i := by
  have h : (bytesOf 8 i.toNat ++ rest).take 8 = bytesOf 8 i.toNat := by
    rw [List.take_append_of_le_length (by simp), List.take_of_length_le (by simp)]
  have hi := i.isLt
  simp only [identAt, List.drop_zero, h, number_bytesOf]
  apply BitVec.eq_of_toNat_eq
  rw [BitVec.toNat_ofNat, Nat.mod_eq_of_lt (a := i.toNat) (by simpa using hi), Nat.mod_eq_of_lt hi]

@[simp] theorem lineOfCode_lineCode (l : Line) : lineOfCode (lineCode l) = l := by cases l <;> rfl

@[simp] theorem policyOfCode_policyCode (p : Policy) : policyOfCode (policyCode p) = p := by
  cases p <;> rfl

@[simp] theorem directionOfCode_directionCode (d : Direction) :
    directionOfCode (directionCode d) = d := by cases d <;> rfl

/-! ## Windows (R4) -/

/-- A window is valid exactly when one answer was heard, alone, correct, in time and admitted. -/
theorem Call.classify_valid_iff (c : Call) (h : Heard) (a : Answer) :
    c.classify h = .valid a ↔ h = .energy [⟨a, true, true, true⟩] false ∧ c.admits a = true := by
  cases h with
  | silence => simp [Call.classify]
  | energy hs stray =>
    rcases hs with _ | ⟨⟨x, ok, inw, inl⟩, _ | ⟨y, ys⟩⟩ <;> cases stray <;>
      simp only [Call.classify]
    · simp
    · simp
    · cases ok <;> cases inw <;> cases inl <;> simp
      split <;> rename_i ha
      · simp only [WindowClass.valid.injEq]
        exact ⟨fun h => ⟨h, h ▸ ha⟩, fun h => h.1⟩
      · exact ⟨fun h => (nomatch h), fun h => absurd (h.1 ▸ h.2) ha⟩
    · simp
    · split <;> simp
    · simp

end Sys2Proof.Machine
end

