-- ==== Sys2Proof/Laws/Ops.lean ====
section
/-! SUPPORT. What the shared operations can do, said once: which fields each one changes, and how. -/

namespace Sys2Proof.Machine

variable (s : State)

/-! ## Reports -/

/-- An event adds at most one report and changes besides only the dropped counter. -/
theorem State.pushEvent_eq (t : Tag) (e : Event) :
    ∃ rs d, s.pushEvent t e = { s with reports := s.reports ++ rs, dropped := d } ∧
      rs.length ≤ 1 ∧ (s.room < 3 → rs = []) := by
  unfold State.pushEvent
  split
  · exact ⟨_, 0, rfl, by simp, fun h => by simp_all [Config.eventRoom]; omega⟩
  · exact ⟨[], bump16 s.dropped, by simp, by simp, fun _ => rfl⟩

/-- Several events add reports and change besides only the dropped counter. -/
theorem State.pushLineEvents_eq (es : List Event) :
    ∃ rs d, s.pushLineEvents es = { s with reports := s.reports ++ rs, dropped := d } := by
  unfold State.pushLineEvents
  induction es generalizing s with
  | nil => exact ⟨[], s.dropped, by simp⟩
  | cons e es ih =>
    obtain ⟨rs, d, h, -, -⟩ := s.pushEvent_eq 0 e
    obtain ⟨rs', d', h'⟩ := ih (s.pushEvent 0 e)
    refine ⟨rs ++ rs', d', ?_⟩
    rw [List.foldl_cons, h', h]
    simp

/-- The settling of a STOP adds at most its CLOSED and empties the stop record with it. -/
theorem State.settleStop_eq :
    ∃ rs st, s.settleStop = { s with reports := s.reports ++ rs, stop := st } := by
  unfold State.settleStop
  split
  · split
    · exact ⟨_, none, rfl⟩
    · exact ⟨[], s.stop, by simp⟩
  · exact ⟨[], s.stop, by simp⟩

/-- A STOP that is not open is not settled. -/
theorem State.settleStop_of_none {s : State} (h : s.stop = none) : s.settleStop = s := by
  simp only [State.settleStop, h]

/-- A close claim changes the reports, the table and the stop record, and nothing else. -/
theorem State.close_eq (t : Tag) (o : CloseOutcome) (r : CloseResult) :
    ∃ rs tb st, s.close t o r = { s with reports := s.reports ++ rs, table := tb, stop := st } := by
  unfold State.close
  split
  · obtain ⟨rs, st, h⟩ :=
      (({ s with table := s.table.filter (·.tag != t) }).push t (.closed o r)).settleStop_eq
    refine ⟨{ tag := t, body := .closed o r, rateAfter := none } :: rs,
      s.table.filter (·.tag != t), st, ?_⟩
    rw [h]
    simp [State.push]
  · exact ⟨[], s.table, s.stop, by simp⟩

/-- A close claim for a tag that no entry holds changes nothing (R149). -/
theorem State.close_of_absent {s : State} {t : Tag} (h : ∀ r ∈ s.table, r.tag ≠ t) (o : CloseOutcome)
    (r : CloseResult) : s.close t o r = s := by
  unfold State.close
  rw [if_neg (by simpa using h)]

/-- A close claim for an open tag while no STOP is open (R149). -/
theorem State.close_of_open {s : State} {t : Tag} (h : ∃ r ∈ s.table, r.tag = t) (hs : s.stop = none)
    (o : CloseOutcome) (r : CloseResult) :
    s.close t o r = { s with
      table := s.table.filter (·.tag != t)
      reports := s.reports ++ [{ tag := t, body := .closed o r, rateAfter := none }] } := by
  unfold State.close
  rw [if_pos (by simpa using h), State.settleStop_of_none (by simpa using hs)]
  rfl

/-! ## Transactions -/

/-- A record that closes lowers its target's pending count and, unless it is a RELEASE, closes its request. -/
theorem State.closeTxn_eq (r : Txn) (o : CloseOutcome) (bs : Option (List Byte)) (c : Option RefusalCode) :
    ∃ rs tb st, s.closeTxn r o bs c = { s with
      reports := s.reports ++ rs, table := tb, stop := st
      roster := s.roster.map fun e =>
        if e.identity = r.target then { e with pendingTx := e.pendingTx - 1 } else e } := by
  unfold State.closeTxn
  cases r.work with
  | read off len =>
    obtain ⟨rs, tb, st, h⟩ := State.close_eq
      (s.updNamed r.target fun e => { e with pendingTx := e.pendingTx - 1 }) r.tag o (.read r.attempts bs c)
    exact ⟨rs, tb, st, h⟩
  | write off bytes =>
    obtain ⟨rs, tb, st, h⟩ := State.close_eq
      (s.updNamed r.target fun e => { e with pendingTx := e.pendingTx - 1 }) r.tag o
        (.write r.attempts (if o = .done then .yes else r.stored) c)
    exact ⟨rs, tb, st, h⟩
  | release => exact ⟨[], s.table, s.stop, by simp [State.updNamed]⟩

/-- Records that close change reports, table, stop record and roster, and nothing else. -/
theorem State.closeTxns_eq (rs : List Txn) (o : CloseOutcome) :
    ∃ ps tb st ro, s.closeTxns rs o = { s with
      reports := s.reports ++ ps, table := tb, stop := st, roster := ro } := by
  unfold State.closeTxns
  induction rs generalizing s with
  | nil => exact ⟨[], s.table, s.stop, s.roster, by simp⟩
  | cons r rs ih =>
    obtain ⟨p1, t1, st1, h1⟩ := s.closeTxn_eq r o none none
    obtain ⟨p2, t2, st2, ro2, h2⟩ := ih (s.closeTxn r o none none)
    refine ⟨p1 ++ p2, t2, st2, ro2, ?_⟩
    rw [List.foldl_cons, h2, h1]
    simp

/-- A purge takes the records naming an identity out of the line's queue, and changes besides reports, table, stop record
and roster only (R115). -/
theorem State.purge_eq (l : Line) (i : Ident) :
    ∃ ps tb st ro, s.purge l i = ({ s with
      reports := s.reports ++ ps, table := tb, stop := st, roster := ro } : State).setLine l
        { s.line l with queue := (s.line l).queue.filter (·.target != i) } := by
  unfold State.purge
  obtain ⟨ps, tb, st, ro, h⟩ := State.closeTxns_eq
    (s.setQueue l ((s.line l).queue.filter (·.target != i)))
    ((s.line l).queue.filter (·.target == i)) .targetLost
  refine ⟨ps, tb, st, ro, ?_⟩
  dsimp only
  rw [h]
  cases l <;> rfl

/-! ## Line operations -/

/-- An operation that ends with no off waiting frees the line and changes nothing else (R126). -/
theorem State.endOp_of_no_off {s : State} {l : Line} (h : (s.line l).offOpen = false) :
    s.endOp l = s.setLine l { s.line l with op := none } := by
  have h' : ((s.modLine l fun L => { L with op := none }).line l).offOpen = false := by
    rw [State.line_modLine]
    exact h
  simp only [State.endOp, h']
  rfl

/-- The window that is open on a line. -/
theorem LineState.window_of_open {L : LineState} {w : OpWork} {c : Call}
    (h : L.op = some { work := w, call := c, listening := true }) :
    L.window = some { work := w, call := c, listening := true } := by
  simp only [LineState.window, h, if_true]

/-- A slot that is not the last of its round ends: it is counted and the line is free (R61, R70). -/
theorem State.finishSlot_mid {s : State} {l : Line} {c : Census} (hc : (s.line l).census = some c)
    (hi : c.slotIndex + 1 < 2 ^ c.exponent) (hh : c.halt = none) (ho : (s.line l).offOpen = false) :
    s.finishSlot l none = s.setLine l { s.line l with
      op := none
      census := some { c with
        slotIndex := c.slotIndex + 1, totals := { c.totals with slots := c.totals.slots + 1 } } } := by
  have hn : ¬ 2 ^ c.exponent ≤ c.slotIndex + 1 := by omega
  simp only [State.finishSlot, State.slotEnd, hc, hh, hn, if_false]
  rw [State.endOp_of_no_off (by simpa [LineState.offOpen] using ho)]
  simp [State.modLine_eq_setLine]

/-! ## The end of a claim (R98, R124) -/

/-- Counts of contenders that all wait or stand at 0 are settled already. -/
theorem State.settleCounts_of_zero {s : State} {l : Line}
    (h : ∀ c, s.waits l c = false → (s.line l).passed c = 0) : s.settleCounts l = s := by
  have hT : (if s.waitsT l = true then (s.line l).passedT else 0) = (s.line l).passedT := by
    split
    · rfl
    · exact (h .executor (Bool.eq_false_iff.mpr ‹_›)).symm
  have hP : (if s.waitsP l = true then (s.line l).passedP else 0) = (s.line l).passedP := by
    split
    · rfl
    · exact (h .scheduler (Bool.eq_false_iff.mpr ‹_›)).symm
  have hC : (if s.waitsC l = true then (s.line l).passedC else 0) = (s.line l).passedC := by
    split
    · rfl
    · exact (h .sequencer (Bool.eq_false_iff.mpr ‹_›)).symm
  simp only [State.settleCounts, State.modLine_eq_setLine, hT, hP, hC]
  exact s.setLine_line l

/-- A line whose cycle has something left to do and whose counts stand is settled already. -/
theorem State.settleLine_of_settled {s : State} {l : Line} (hd : s.cycleDone l = false)
    (h : ∀ c, s.waits l c = false → (s.line l).passed c = 0) : s.settleLine l = s := by
  simp only [State.settleLine, hd]
  exact State.settleCounts_of_zero h

/-- A state with both lines settled is not changed by settling. -/
theorem State.settle_of_settled {s : State}
    (hd : ∀ l, s.cycleDone l = false)
    (h : ∀ l c, s.waits l c = false → (s.line l).passed c = 0) : s.settle = s := by
  simp only [State.settle, State.settleLine_of_settled (hd .A) (h .A),
    State.settleLine_of_settled (hd .B) (h .B)]

end Sys2Proof.Machine
end

