-- ==== Sys2Proof/Tests/Slice0.lean ====
section
/-! SUPPORT. Tests: well-formedness, the byte layouts and check words, one small step for each command, and for each
statement a concrete state and operands that meet its hypotheses. -/

set_option maxRecDepth 4000

namespace Sys2Proof.Tests

open Sys2Proof Sys2Proof.Machine Sys2Proof.Statements

/-! ## Small states -/

/-- The identities of the four nodes of the tests. -/
abbrev id1 : Ident := 0x0000000000010001
abbrev id2 : Ident := 0x0000000000020002
abbrev id3 : Ident := 0x0000000000030003
abbrev id4 : Ident := 0x0000000000040004

/-- An entry of the tests. -/
def entry (serial : Nat) (i : Ident) (l : Line) (st : Standing) : Entry :=
  { serial := serial, identity := i, line := l, standing := st, misses := 0, attention := false,
    memorySize := 16, returns := 0, lastSeen := 500, forgetting := none, pendingTx := 0 }

def e1 : Entry := entry 0 id1 .A (.bound 1 5000)
def e2 : Entry := entry 1 id2 .A (.bound 2 5000)
def e3 : Entry := entry 2 id3 .A (.lost (some 3))
def e4 : Entry := entry 3 id4 .B .unbound

/-- Line A of the tests: UP, two entries BOUND, one address in quarantine, a cycle with e2 still to poll. -/
def lineA : LineState :=
  { LineState.reset with
    power := .up, speed := some 2, pool := [5, 6], nextSeq := 1
    quarantine := [{ address := 3, hold := 6000, expiry := 7000, origin := some id3, seq := 0 }]
    poll := some { running := true, start := 900, period := 500, nextDue := 1400, members := [0, 1],
                   remaining := [1], late := false } }

/-- A part with line A up, line B off, four entries and an empty report queue. -/
def base : State :=
  { State.reset with
    clock := 1000, reports := [], roster := [e1, e2, e3, e4], nextSerial := 4, lineA := lineA }

/-- The state with an open window on line A. -/
def listening (s : State) (w : OpWork) (c : Call) : State :=
  s.setLine .A { s.lineA with op := some { work := w, call := c, listening := true } }

/-- An open request of line A. -/
def req (tag : Tag) (k : LongKind) (i : Option Ident) : Req :=
  { tag := tag, kind := k, line := .A, state := .running, target := i }

/-- A record of line A's queue. -/
def txn (tag : Tag) (w : TxnWork) (i : Ident) (attempts : Nat) (inFlight : Bool) : Txn :=
  { tag := tag, work := w, target := i, attempts := attempts, unheard := 0, halt := none,
    inFlight := inFlight }

/-- A census in the middle of a round of four slots. -/
def census : Census :=
  { Census.fresh 9 .adaptive 2 32 0 0 with
    roundNumber := 1, slotIndex := 1, emptySlots := 1,
    totals := { (Census.fresh 9 .adaptive 2 32 0 0).totals with rounds := 1, slots := 1 } }

/-- The part with that census open on line A. -/
def inCensus : State :=
  { base.setLine .A { lineA with census := some census } with table := [req 9 .census none] }

/-- The part with one record at the head of line A's queue and another behind it. -/
def inQueue (r : Txn) : State :=
  { base.setLine .A { lineA with queue := [r, txn 12 (.read 0 1) id2 0 false] } with
    table := [req r.tag .readNode (some r.target), req 12 .readNode (some id2)] }

/-- A late cycle with e1 alone still to poll. -/
def lastMember : PollCycle :=
  { running := true, start := 900, period := 500, nextDue := 1400, members := [0], remaining := [0],
    late := true }

/-- The next state, if there is one. -/
def nextOf : Out → Option State
  | .next t => some t
  | _ => none

/-! ## Well-formedness: one ill-formed command for each check -/

theorem test_illFormed_bodies :
    ((Instr.getRoster 1 [0]).wellFormed || (Instr.getRoster 1 [0, 0]).wellFormed ||
      (Instr.getRoster 1 [0, 9]).wellFormed || (Instr.getEntry 1 [1, 2, 3, 4, 5, 6, 7]).wellFormed ||
      (Instr.getLine 1 []).wellFormed || (Instr.getLine 1 [2]).wellFormed ||
      (Instr.getHeld 1 [0]).wellFormed || (Instr.getLink 1 [0]).wellFormed ||
      (Instr.getParam 1 []).wellFormed || (Instr.setParam 1 [1, 2]).wellFormed ||
      (Instr.cancel 1 []).wellFormed || (Instr.reset 1 [0]).wellFormed) = false := by decide

theorem test_illFormed_long_bodies :
    ((Instr.census 1 [0, 0, 0, 0, 0]).wellFormed ||
      (Instr.census 1 [2, 0, 0, 0, 0, 0, 0, 0, 0, 0, 0, 0, 0]).wellFormed ||
      (Instr.census 1 [0, 2, 0, 0, 0, 0, 0, 0, 0, 0, 0, 0, 0]).wellFormed ||
      (Instr.readNode 1 [0, 0, 0, 0, 0, 0, 0, 1, 0, 0]).wellFormed ||
      (Instr.readNode 1 [0, 0, 0, 0, 0, 0, 0, 1, 0x10, 0, 1]).wellFormed ||
      (Instr.readNode 1 [0, 0, 0, 0, 0, 0, 0, 1, 0, 0, 0]).wellFormed ||
      (Instr.readNode 1 [0, 0, 0, 0, 0, 0, 0, 1, 0, 0, 33]).wellFormed ||
      (Instr.writeNode 1 [0, 0, 0, 0, 0, 0, 0, 1, 0, 0]).wellFormed ||
      (Instr.writeNode 1 (List.replicate 43 0)).wellFormed ||
      (Instr.writeNode 1 [0, 0, 0, 0, 0, 0, 0, 1, 0x10, 0, 1]).wellFormed ||
      (Instr.forget 1 []).wellFormed || (Instr.linePower 1 [0]).wellFormed ||
      (Instr.linePower 1 [2, 0]).wellFormed || (Instr.linePower 1 [0, 2]).wellFormed ||
      (Instr.stop 1 [0]).wellFormed || (Instr.unknownKind 0x15 1 []).wellFormed ||
      (Instr.unknownKind 0x81 1 (List.replicate 251 0)).wellFormed) = false := by decide

theorem test_wellFormed :
    ((Instr.getRoster 1 [0, 8]).wellFormed && (Instr.setParam 1 [2, 0, 3]).wellFormed &&
      (Instr.readNode 1 [0, 0, 0, 0, 0, 0, 0, 1, 0x0F, 0xFF, 32]).wellFormed &&
      (Instr.writeNode 1 (List.replicate 42 0)).wellFormed &&
      (Instr.unknownKind 0x81 1 (List.replicate 250 0)).wellFormed) = true := by decide

/-! ## Check words and layouts -/

/-- The CRC of the nine digits 1 to 9: the published check value of the polynomial and initial value that the manual
names (00, Checks), which itself gives no worked value. -/
theorem test_crc16 :
    crc16 [0x31, 0x32, 0x33, 0x34, 0x35, 0x36, 0x37, 0x38, 0x39] = 0x29B1 := by decide

/-- The same value bit by bit, as the statement about the frames of reports computes it. -/
theorem test_crcBitByBit :
    crcBitByBit [0x31, 0x32, 0x33, 0x34, 0x35, 0x36, 0x37, 0x38, 0x39] = 0x29B1 := by decide

/-- A 64-bit number stands most significant byte first (00, Byte order). -/
theorem test_bytesOf : bytesOf 4 0x01020304 = [1, 2, 3, 4] := by decide

/-- READ_NODE's body: identity (8), offset (2), length (1) (R146). -/
theorem test_readNode_body :
    readRequest 0x11 [0, 0, 0, 0, 0, 1, 0, 1, 0x0F, 0xFE, 32] =
      .request (.readNode id1 4094 32) := by decide

/-- CENSUS's body: line, policy, exponent, budget, scope length, scope prefix (8) (R146). -/
theorem test_census_body :
    readRequest 0x10 [1, 1, 10, 0, 4, 0xF0, 0, 0, 0, 0, 0, 0, 1] =
      .request (.census .B .adaptive 10 0 4 0xF000000000000001) := by decide

/-- READY's frame: length 4, kind C0, tag 0, cause POWER_ON, host_rate 2 (R138, R146, R168). -/
theorem test_ready_frame :
    (State.reset.reports.map fun r => r.frame.take 6) = [[0x5A, 4, 0xC0, 0, 0, 2]] := by decide

/-- Sizes of full bodies as the manual gives them: HELD_LIST of 16 records 229 bytes (section 10.7), a ROSTER_PAGE of 8
entries 156 bytes, 19 for each (R160). -/
theorem test_body_sizes :
    (ReportBody.heldList 0 (List.replicate 16 ⟨id1, .A, .clash, 0⟩)).bytes.length = 229 ∧
      (ReportBody.rosterPage 8 0 (List.replicate 8 e1)).bytes.length = 4 + 8 * 19 := by decide

/-- The reason, outcome and report kind codes that open and close a refused and a closed request (R146, R160, R166). -/
theorem test_codes :
    (ReportBody.refused 0x07 .paramLocked).bytes = [0x07, 0x11] ∧
      (ReportBody.closed .targetGone (.write 0 .no none)).bytes = [0x12, 0x0A, 0, 0, 0] ∧
      (ReportBody.closed .done (.linePower .B .off 3)).bytes = [0x14, 0, 1, 0, 3] ∧
      (ReportBody.closed .done (.stop 2)).kind = 0x92 := by decide

/-! ## One small step for each command -/

theorem test_getRoster :
    (nextOf (exec (.getRoster 5 [2, 8]) base)).map (·.reports) =
      some [report 5 (.rosterPage 4 2 [e3, e4])] := by decide

theorem test_getEntry :
    (nextOf (exec (.getEntry 5 [0, 0, 0, 0, 0, 3, 0, 3]) base)).map (·.reports) =
      some [report 5 (.entryInfo id3 (some (2, e3)))] := by decide

theorem test_getLine :
    (nextOf (exec (.getLine 5 [0]) base)).map (fun t => t.reports.map (fun r => r.body.bytes.take 14)) =
      some [[0, 0, 0, 3, 0xE8, 2, 0, 0, 0xFF, 2, 2, 2, 1, 1]] := by decide

theorem test_getHeld :
    (nextOf (exec (.getHeld 0 []) { base with hush := [⟨id4, .A, .noAddress, 61000⟩] })).map
        (fun t => t.reports.map (·.body.bytes)) =
      some [[0, 0, 3, 0xE8, 1, 0, 0, 0, 0, 0, 4, 0, 4, 0, 2, 0, 0, 0xEE, 0x48]] := by decide

theorem test_getLink :
    (nextOf (exec (.getLink 5 []) inCensus)).map (fun t => t.reports.map (fun r => r.body.bytes.drop 15)) =
      some [[0, 0, 1, 0, 1, 9, 0x10, 1]] := by decide

theorem test_getParam :
    (nextOf (exec (.getParam 5 [3]) base)).map (fun t => t.reports.map (·.body.bytes)) =
      some [[3, 0x13, 0x88]] := by decide

theorem test_setParam_conflict :
    (nextOf (exec (.setParam 5 [1, 0x09, 0xC5]) base)).map (·.reports) =
      some [report 5 (.refused 0x07 .paramConflict)] := by decide

theorem test_setParam_hostRate :
    (nextOf (exec (.setParam 5 [11, 0, 4]) base)).map (fun t => (t.params.hostRate, t.linkRate,
      t.reports.map (·.rateAfter))) = some (4, 2, [some 4]) := by decide

theorem test_cancel :
    (nextOf (exec (.cancel 5 [9]) inCensus)).map (fun t => (t.reports.map (·.tag), t.table,
      t.lineA.census)) = some ([5, 9], [], none) := by decide

theorem test_reset :
    (nextOf (exec (.reset 7 []) { base with params := { base.params with hostRate := 3 } })).map
        (fun t => (t.linkRate, t.lineA.power, t.roster, t.reports)) =
      some (3, .off, [], [report 7 (.ready true 3)]) := by decide

/-- At the clock value at which a report left, the report behind it is not in transmission: READY is the first report sent
(R171, log entry 15). -/
theorem test_reset_with_departure :
    (nextOf (exec (.reset 7 []) { base with
        reports := [report 2 (.taken .census)], departed := some 1000 })).map (·.reports) =
      some [report 7 (.ready true 2)] := by decide

theorem test_census :
    (nextOf (exec (.census 9 [0, 1, 10, 0, 4, 0xF8, 0, 0, 0, 0, 0, 0, 0]) base)).map
        (fun t => t.lineA.census.map fun c => (c.budget, c.scopeBits)) =
      some (some (32, 0xF000000000000000)) := by decide

theorem test_readNode :
    (nextOf (exec (.readNode 9 [0, 0, 0, 0, 0, 1, 0, 1, 0, 8, 8]) base)).map
        (fun t => (t.lineA.queue, t.roster.map (·.pendingTx))) =
      some ([txn 9 (.read 8 8) id1 0 false], [1, 0, 0, 0]) := by decide

theorem test_readNode_badRange :
    (nextOf (exec (.readNode 9 [0, 0, 0, 0, 0, 1, 0, 1, 0, 9, 8]) base)).map (·.reports) =
      some [report 9 (.refused 0x11 .badRange)] := by decide

theorem test_writeNode :
    (nextOf (exec (.writeNode 9 [0, 0, 0, 0, 0, 2, 0, 2, 0, 4, 0xAA, 0xBB]) base)).map (·.lineA.queue) =
      some [txn 9 (.write 4 [0xAA, 0xBB]) id2 0 false] := by decide

theorem test_forget_lost :
    (nextOf (exec (.forget 9 [0, 0, 0, 0, 0, 3, 0, 3]) base)).map
        (fun t => (t.roster.map (·.serial), t.lineA.quarantine.map (·.origin), t.reports.map (·.tag))) =
      some ([0, 1, 3], [none], [9, 9]) := by decide

theorem test_linePower_on :
    (nextOf (exec (.linePower 9 [1, 1]) base)).map
        (fun t => (t.lineB.power, t.lineB.settleAt, t.lineB.speed, t.reports.length)) =
      some (.settling, some 1100, some 2, 1) := by decide

theorem test_linePower_off :
    (nextOf (exec (.linePower 9 [0, 0]) base)).map
        (fun t => (t.lineA.power, t.lineA.pool, t.roster.map (·.standing))) =
      some (.off, [5, 6, 1, 2, 3], [.lost none, .lost none, .lost none, .unbound]) := by decide

theorem test_stop :
    (nextOf (exec (.stop 7 []) inCensus)).map (fun t => (t.reports.map (·.tag), t.stop)) =
      some ([7, 9, 7], none) := by decide

theorem test_unknownKind :
    (nextOf (exec (.unknownKind 0x81 0 [1]) base)).map (·.reports) =
      some [report 0 (.refused 0x81 .unknownKind)] := by decide

theorem test_powerOnReset : nextOf (exec .powerOnReset inCensus) = some State.reset := by decide

/-- The bytes of GET_HELD with tag 3, and its answer. -/
theorem test_rxByte :
    (match receive (Frame.bytes ⟨4, 3, []⟩) base with
      | .next t => t.reports
      | _ => []) = [report 3 (.heldList 1000 [])] := by decide

theorem test_rxGapTimeout :
    (nextOf (exec .rxGapTimeout { base with rx := .collecting [4] 1015 })).map
        (fun t => (t.rx, t.rxTimeouts, t.clock)) = some (.hunting, 1, 1015) := by decide

theorem test_reportSent :
    (nextOf (exec .reportSent { base with reports := [⟨1, .paramValue 11 4, some 4⟩] })).map
        (fun t => (t.reports, t.linkRate)) = some ([], 4) := by decide

/-- A RESET that waits is taken as the head leaves: no report is in transmission, and READY is sent first (R144, R171). -/
theorem test_reportSent_reset :
    (nextOf (exec .reportSent { base with
        reports := List.replicate 47 (report 1 (.ready false 2)), inbound := [⟨0x09, 7, []⟩] })).map
        (fun t => (t.reports, t.departed)) = some ([report 7 (.ready true 2)], none) := by decide

theorem test_settlingExpiry :
    (nextOf (exec (.settlingExpiry .B) { base with
        table := [req 9 .linePower none]
        lineB := { LineState.reset with
          power := .settling, settleAt := some 1100, speed := some 2, openPower := some (9, .on) } })).map
        (fun t => (t.lineB.power, t.clock, t.lineB.poll.map (·.nextDue), t.reports)) =
      some (.up, 1100, some 1600, [report 9 (.closed .done (.linePower .B .up 0))]) := by decide

theorem test_overcurrentTrip :
    (nextOf (exec (.overcurrentTrip .A) inCensus)).map (fun t => (t.lineA.power, t.table,
        t.reports.map (·.tag), t.lineA.pool)) =
      some (.fault, [], [9, 0], [5, 6, 1, 2, 3]) := by decide

theorem test_lineGrant_priority :
    (nextOf (exec (.lineGrant .A) (inQueue (txn 11 (.read 2 4) id1 0 false)))).map
        (fun t => (t.lineA.op.map (·.call), t.lineA.passedP)) =
      some (some (.read 1 2 4), 1) := by decide

theorem test_lineGrant_passed_over :
    (nextOf (exec (.lineGrant .A) (let s := inQueue (txn 11 (.read 2 4) id1 0 false)
        s.setLine .A { s.lineA with passedP := 4 }))).map
        (fun t => (t.lineA.op.map (·.call), t.lineA.passedT, t.lineA.passedP)) =
      some (some (.poll 2), 1, 0) := by decide

theorem test_callSent_roll :
    (nextOf (exec (.callSent .A) (base.setLine .A { lineA with
        op := some { work := .slotOpening, call := .roll 2 0 0, listening := false } }))).map
        (fun t => (t.lineA.counters.rounds, t.lineA.quarantine.map (·.expiry))) =
      some (1, [7000]) := by decide

theorem test_slotWindow :
    (nextOf (exec (.slotWindow .A (.alone (.stub 7))) (listening inCensus .slotOpening .step))).map
        (fun t => t.lineA.op.map (·.call)) = some (some (.claim 7)) := by decide

theorem test_claimWindow_return :
    (nextOf (exec (.claimWindow .A (.alone (.identity id3 32))) (listening inCensus .slotClaim (.claim 7)))).map
        (fun t => (t.lineA.op.map (·.call), t.lineA.pool, t.lineA.quarantine,
          t.roster.map (·.standing))) =
      some (some (.bind 7 5 5000), [6, 3], [],
        [.bound 1 5000, .bound 2 5000, .bound 5 5000, .unbound]) := by decide

theorem test_bindOutcome_unconfirmed :
    (nextOf (exec (.bindOutcome .A .silence)
        (listening inCensus (.slotBind 0 id1 16 (.nodeReturned id1 .A 1 1)) (.bind 7 1 5000)))).map
        (fun t => (t.roster.map (·.standing), t.reports)) =
      some ([.lost (some 1), .bound 2 5000, .lost (some 3), .unbound],
        [report 9 (.event 0 (.nodeFound id1 .A 1 16 1 1 true))]) := by decide

theorem test_hushWindow_repeat :
    (nextOf (exec (.hushWindow .A .silence)
        (listening inCensus (.slotHush id4 .clash (some (.rosterFull id4 .A)) true) (.hush 7 60)))).map
        (fun t => (t.reports, t.lineA.census.map (·.totals.clashes))) = some ([], some 1) := by decide

theorem test_pollWindow_attention :
    (nextOf (exec (.pollWindow .A (.alone (.status 1 true))) (listening base (.poll 0 id1) (.poll 1)))).map
        (fun t => (t.reports, t.roster.map (·.attention))) =
      some ([report 0 (.event 0 (.attention id1 .A 1 1000))], [true, false, false, false]) := by decide

theorem test_pollWindow_mismatch :
    (nextOf (exec (.pollWindow .A (.alone (.status 2 true))) (listening base (.poll 0 id1) (.poll 1)))).map
        (fun t => (t.lineA.counters.mismatches, t.roster.map (·.misses))) =
      some (1, [1, 0, 0, 0]) := by decide

theorem test_pollDue_late :
    (nextOf (exec (.pollDue .A) base)).map (fun t => (t.clock, t.lineA.poll.map (·.late))) =
      some (1400, some true) := by decide

theorem test_attemptWindow_busy :
    (nextOf (exec (.attemptWindow .A (.alone (.refusal 1 .busy)))
        (listening (inQueue (txn 11 (.read 2 4) id1 3 true)) .attempt (.read 1 2 4)))).map
        (fun t => (t.reports, t.lineA.queue.map (·.tag))) =
      some ([report 11 (.closed .nodeBusy (.read 3 none none))], [12]) := by decide

/-- A late cycle whose last BOUND member the attempt's roster claim counts out finishes at that claim and counts its
overrun, and then the waiting off takes the line down (R98, R130). -/
theorem test_attemptWindow_late_cycle :
    (nextOf (exec (.attemptWindow .A .silence) (let s := inQueue (txn 11 (.read 2 4) id1 3 true)
        let cycle : PollCycle := { running := true, start := 900, period := 500, nextDue := 1400,
                                   members := [0], remaining := [0], late := true }
        let o : LineOp := { work := .attempt, call := .read 1 2 4, listening := true }
        { s.setLine .A { s.lineA with op := some o, openPower := some (8, .off), poll := some cycle } with
          roster := [{ e1 with misses := 2 }, e2], table := req 8 .linePower none :: s.table }))).map
        (fun t => (t.lineA.power, t.lineA.counters.overruns, t.reports.map (·.tag))) =
      some (.off, 1, [11, 0, 12, 8]) := by decide

theorem test_releaseWindow :
    (nextOf (exec (.releaseWindow .A (.alone (.ack 1)))
        (listening (inQueue (txn 11 .release id1 1 true)) .attempt (.release 1 60)))).map
        (fun t => (t.reports, t.lineA.pool, t.roster.map (·.serial))) =
      some ([report 11 (.closed .done (.forget id1 .released))], [5, 6, 1], [1, 2, 3]) := by decide

theorem test_quarantineExpiry :
    (nextOf (exec (.quarantineExpiry .A) base)).map
        (fun t => (t.clock, t.lineA.pool, t.roster.map (·.standing))) =
      some (7000, [5, 6, 3], [.bound 1 5000, .bound 2 5000, .lost none, .unbound]) := by decide

theorem test_hushExpiry :
    (nextOf (exec .hushExpiry { base with
        hush := [⟨id1, .A, .clash, 2000⟩, ⟨id2, .A, .clash, 1500⟩, ⟨id3, .B, .forgotten, 1500⟩] })).map
        (fun t => (t.clock, t.hush.map (·.identity))) = some (1500, [id1]) := by decide

/-- A call with a field out of range is ignored as if it had not been sent: the node keeps no speed from it (R5). -/
theorem test_hearAt_outOfRange :
    let n : Node := { identity := id1, memory := [], attention := false, powered := true, held := none,
                      hushLeft := none, position := .notInRound, handle := none }
    n.hearAt 2 (.roll 13 0 0) true 0 7 false = (n, none) ∧
      (n.hearAt 2 .step true 0 7 false).1.speed = some 2 := by decide

/-! ## Witnesses: for each statement with hypotheses, states and operands that meet them, clause by clause -/

theorem witness_StepRunsFrontCommand :
    ({ base with pending := [.reportSent, .hushExpiry] } : State).pending = .reportSent :: [.hushExpiry] :=
  rfl

theorem witness_EmptyQueueLetsOneMillisecondPass : base.pending = [] := rfl

/-- The dispatcher takes a frame with an empty queue and with exactly two slots left: the hypothesis of
GetLineAndGetLinkAnswerTheirInfo and GetHeldListsHushRecords, and one of those of every request. -/
theorem witness_TakesNow :
    TakesNow base ∧ TakesNow { base with reports := List.replicate 46 (report 1 (.ready false 2)) } ∧
      ¬TakesNow { base with reports := List.replicate 47 (report 1 (.ready false 2)) } := by decide

theorem witness_ResetSetsEveryBlockButHostRate :
    let s := { base with reports := [⟨1, .paramValue 11 2, some 2⟩, report 2 (.ready true 2)] }
    let t := { s with reports := [⟨1, .paramValue 11 3, some 3⟩], departed := some 1000 }
    let kept (s : State) := if s.departed = some s.clock then [] else s.reports.take 1
    ∀ x ∈ [base, s, t], TakesNow x ∧
      ∀ r ∈ kept x, r.rateAfter = none ∨ r.rateAfter = some x.params.hostRate := by
  decide

theorem witness_GetRosterAndGetEntryShowEntries :
    TakesNow base ∧ (1 ≤ (1 : Byte).toNat ∧ (1 : Byte).toNat ≤ 8) ∧ (1 ≤ (8 : Byte).toNat ∧ (8 : Byte).toNat ≤ 8) ∧
      (0 : Byte).toNat = 0 ∧ 8 < (9 : Byte).toNat ∧ base.roster = [e1] ++ e2 :: [e3, e4] ∧ e2.identity = id2 ∧
      (∀ x ∈ [e1], x.identity ≠ id2) ∧ (∀ x ∈ base.roster, x.identity ≠ 99) := by decide

theorem witness_GetParamAnswersTableValue :
    let values := [500, 3, 5000, 1000, 60, 2, 2, 2, 0, 10, 2, 1]
    TakesNow base ∧ values[(1 : Byte).toNat - 1]? = some 500 ∧ values[(12 : Byte).toNat - 1]? = some 1 ∧
      (0 : Byte).toNat = 0 ∧ 12 < (13 : Byte).toNat := by decide

theorem witness_SetParamChecksInOrder :
    TakesNow base ∧ paramRanges[1 - 1]? = some (50, 10000) ∧ paramRanges[12 - 1]? = some (0, 1) ∧ 12 < 13 ∧ 49 < 50 ∧
      10000 < 10001 ∧ paramRanges[7 - 1]? = some (1, 3) ∧ (base.line .A).power = .up ∧
      base.params.nodeLease < 2 * 2501 ∧ 999 < 2 * base.params.pollPeriod ∧ base.params.expMax < 11 ∧
      CrossChecked base.params := by decide

theorem witness_SetParamChecksInOrder_expMax :
    let s := { base with params := { base.params with expMin := 4 } }
    TakesNow s ∧ paramRanges[10 - 1]? = some (0, 12) ∧ 3 < s.params.expMin ∧ CrossChecked s.params := by decide

theorem witness_SetParamStoresAndAnswers :
    let p := base.params
    TakesNow base ∧ paramRanges[11 - 1]? = some (1, 4) ∧
      (storedParams p 4)[11 - 1]? = some { p with hostRate := 4 } ∧ CrossChecked { p with hostRate := 4 } ∧
      ¬(11 = 2 ∧ 4 < base.params.missLimit) ∧ paramRanges[2 - 1]? = some (1, 8) ∧
      (storedParams p 8)[2 - 1]? = some { p with missLimit := 8 } ∧ ¬(2 = 2 ∧ 8 < base.params.missLimit) := by decide

theorem witness_SetParamStoresAndAnswers_speed :
    paramRanges[8 - 1]? = some (1, 3) ∧
      ∀ l ∈ [Line.A, .B], (8 = 7 ∧ l = .A) ∨ (8 = 8 ∧ l = .B) →
        (base.line l).power = .off ∨ (base.line l).power = .fault := by decide

/-- Two entries are counted out, one of them forgetting, with a record of each; a STOP is open; there is room for the event,
exactly enough room, and room for none; the two are the last members of a late cycle, with one of them being polled and
not. -/
theorem witness_LoweredMissLimitCountsOut :
    let s := { base.setLine .A { lineA with
        queue := [txn 12 (.write 0 [1]) id1 0 false, txn 13 .release id2 0 false] } with
      roster := [{ e1 with misses := 1 }, { e2 with misses := 2, forgetting := some 13 }, e3]
      table := [req 12 .writeNode (some id1), req 13 .forget (some id2)], stop := some ⟨7, 2⟩ }
    let out := s.roster.filter fun e => e.standing.isBound && decide (1 ≤ e.misses)
    let rs := out.flatMap fun e => outReports (s.line e.line).queue e
    (∀ x ∈ [s, { s with reports := List.replicate 41 (report 1 (.ready false 2)) },
        { s with reports := List.replicate 42 (report 1 (.ready false 2)) }],
      TakesNow x ∧ RosterLaw x ∧ 1 ≤ 1 ∧ 1 < x.params.missLimit ∧ 1 ≤ 8 ∧ CrossChecked x.params ∧
        Settled x ∧ AllOpen x rs ∧ (x.table.map (·.tag)).Nodup) ∧
      (∀ o ∈ [none, some ⟨.poll 0 id1, .poll 1, true⟩],
        Settled (s.setLine .A { s.lineA with op := o, poll := some lastMember })) ∧
      rs.map (·.tag) = [12, 13] ∧ Emptied s rs ∧ 1 + 3 ≤ s.room ∧
      1 + 3 ≤ ({ s with reports := List.replicate 41 (report 1 (.ready false 2)) } : State).room ∧
      ({ s with reports := List.replicate 42 (report 1 (.ready false 2)) } : State).room < 4 ∧
      1 < s.params.missLimit ∧ 2 < s.params.missLimit := by decide

theorem witness_UnknownKindAndMalformedAreRefused :
    TakesNow base ∧ (0x00 : Byte) ∉ requestKinds ∧ (0x81 : Byte) ∉ requestKinds ∧
      (Instr.getHeld 0 [1]).wellFormed = false ∧ (Instr.stop 9 [1]).wellFormed = false ∧
      (Instr.getRoster 0 [0, 9]).wellFormed = false := by decide

theorem witness_FrameWaitsOrIsDiscarded :
    let s := { base with
      reports := List.replicate 47 (report 1 (.ready false 2)), inbound := List.replicate 3 ⟨4, 1, []⟩ }
    s.room < 2 ∧ s.inbound.length < 4 ∧
      4 ≤ ({ s with inbound := List.replicate 4 ⟨4, 1, []⟩ } : State).inbound.length := by decide

theorem witness_LongRequestChecksInOrder :
    let stopping := { inCensus with stop := some ⟨7, 1⟩ }
    let full := { base with
      table := (List.range 24).map fun n => req (BitVec.ofNat 8 (n + 100)) .census none }
    TakesNow inCensus ∧ (∃ r ∈ inCensus.table, r.tag = 9) ∧ TakesNow stopping ∧
      (∀ r ∈ stopping.table, r.tag ≠ 8) ∧ stopping.stop = some ⟨7, 1⟩ ∧ (7 : Tag) ≠ 8 ∧ TakesNow full ∧
      (∀ r ∈ full.table, r.tag ≠ 9) ∧ full.stop = none ∧ 24 ≤ full.table.length ∧
      (0x13 : Byte) ≠ 0x15 := by decide

theorem witness_CancelOfNothingCancellableOnlyReplies :
    let s := { base with table := [req 8 .linePower none, req 9 .forget (some id1)], stop := some ⟨7, 2⟩ }
    let t := s.setLine .A { lineA with queue := [txn 9 .release id1 1 false] }
    TakesNow s ∧ (∀ r ∈ s.table, r.tag ≠ 7) ∧ s.stop = some ⟨7, 2⟩ ∧ (∀ r ∈ s.table, r.tag ≠ 0) ∧
      s.table = [] ++ req 8 .linePower none :: [req 9 .forget (some id1)] ∧ TakesNow t ∧
      t.table = [req 8 .linePower none] ++ req 9 .forget (some id1) :: [] ∧
      (∀ r ∈ [req 8 .linePower none], r.tag ≠ 9) ∧
      (∀ r ∈ (t.line .A).queue, r.tag = 9 → r.attempts ≠ 0) := by decide

/-- In flight; between attempts with a record behind; a WRITE behind the head; the only record, with a STOP open. -/
theorem witness_CancelHaltsTransaction :
    let other := txn 12 (.read 0 1) id2 0 false
    let r := { txn 11 (.write 2 [4]) id1 1 false with unheard := 1 }
    let flight := listening (inQueue (txn 11 (.read 2 4) id1 1 true)) .attempt (.read 1 2 4)
    let between := inQueue (txn 11 (.read 2 4) id1 1 false)
    let behind := { base.setLine .A { lineA with queue := [other, r] } with
      table := [req 12 .readNode (some id2), req 11 .writeNode (some id1)] }
    let only := { base.setLine .A { lineA with queue := [r] } with
      table := [req 11 .writeNode (some id1)], stop := some ⟨7, 1⟩ }
    (∀ s ∈ [flight, between, behind, only], TakesNow s ∧ Settled s ∧ (s.table.map (·.tag)).Nodup) ∧
      flight.table = [] ++ req 11 .readNode (some id1) :: [req 12 .readNode (some id2)] ∧
      (flight.line .A).queue = [] ++ txn 11 (.read 2 4) id1 1 true :: [other] ∧
      (between.line .A).queue = [] ++ txn 11 (.read 2 4) id1 1 false :: [other] ∧
      behind.table = [req 12 .readNode (some id2)] ++ req 11 .writeNode (some id1) :: [] ∧
      (behind.line .A).queue = [other] ++ r :: [] ∧ (∀ x ∈ [other], x.tag ≠ 11) ∧
      only.table = [] ++ req 11 .writeNode (some id1) :: [] ∧ (only.line .A).queue = [] ++ r :: [] := by
  decide

theorem witness_CancelHaltsCensus :
    let slot := listening inCensus .slotOpening .step
    let marked := slot.setLine .A { slot.lineA with census := some { census with halt := some .stop } }
    (∀ s ∈ [inCensus, slot, { inCensus with stop := some ⟨7, 1⟩ }, marked], TakesNow s ∧ Settled s ∧
      (s.table.map (·.tag)).Nodup ∧ s.table = [] ++ req 9 .census none :: []) ∧
      (∀ s ∈ [inCensus, slot], (s.line .A).census = some census) ∧ census.halt = none ∧
      (marked.line .A).census = some { census with halt := some .stop } ∧
      inCensus.lineA.slotInProgress = false ∧ slot.lineA.slotInProgress = true := by decide

/-- The RELEASE behind another record, and as the only record of its queue with a STOP open. -/
theorem witness_CancelRestoresForgottenEntry :
    let release := txn 13 .release id1 0 false
    let s := { base.setLine .A { lineA with queue := [txn 12 (.read 0 1) id2 0 false] ++ [release] } with
      table := [req 12 .readNode (some id2), req 13 .forget (some id1)] }
    let only := { base.setLine .A { lineA with queue := [release] } with
      table := [req 13 .forget (some id1)], stop := some ⟨7, 1⟩ }
    (∀ x ∈ [s, only], TakesNow x ∧ Settled x ∧ (x.table.map (·.tag)).Nodup) ∧
      s.table = [req 12 .readNode (some id2)] ++ req 13 .forget (some id1) :: [] ∧ release.attempts = 0 ∧
      (s.line .A).queue = [txn 12 (.read 0 1) id2 0 false] ++ release :: [] ∧
      (∀ x ∈ [txn 12 (.read 0 1) id2 0 false], x.tag ≠ release.tag) ∧
      only.table = [] ++ req 13 .forget (some id1) :: [] ∧ (only.line .A).queue = [] ++ release :: [] := by
  decide

theorem witness_StopHaltsAndCloses :
    let waiting := { base with table := [req 8 .linePower none] }
    TakesNow base ∧ Settled base ∧ base.stop = none ∧ base.table = [] ∧ TakesNow waiting ∧ Settled waiting ∧
      waiting.table ≠ [] ∧ (∀ r ∈ waiting.table, r.kind = .linePower ∧ r.tag ≠ 7) ∧ TakesNow inCensus ∧
      Settled inCensus ∧ inCensus.table = [req 9 .census none] ∧ inCensus.lineA.census = some census ∧
      census.halt = none ∧ inCensus.lineA.slotInProgress = false := by decide

/-- A table with one request of each sort: a census in a slot operation, a READ between attempts, a WRITE and a FORGET
queued, a LINE_POWER of the other line; and one that the halt claims empty. -/
theorem witness_StopHaltsAndCloses_mixed :
    let queue := [txn 11 (.read 2 4) id1 1 false, txn 12 (.write 0 [1]) id1 0 false, txn 13 .release id2 0 false]
    let s := { (listening inCensus .slotOpening .step) with
      table := [req 12 .writeNode (some id1), req 9 .census none, req 11 .readNode (some id1),
        { req 8 .linePower none with line := .B }, req 13 .forget (some id2)] }
    let s := (s.setLine .A { s.lineA with queue := queue }).setLine .B { LineState.reset with
      power := .settling, settleAt := some 1100, speed := some 2, openPower := some (8, .on) }
    let t := { base.setLine .A { lineA with queue := queue } with
      table := [req 12 .writeNode (some id1), req 11 .readNode (some id1), req 13 .forget (some id2)] }
    ∀ x ∈ [s, t], TakesNow x ∧ Settled x ∧ (∀ r ∈ x.table, r.tag ≠ 7) ∧ x.stop = none ∧
      (x.table.map (·.tag)).Nodup ∧ RequestLaw x ∧ WorkLaw x .A ∧ WorkLaw x .B := by decide

/-- What STOP does to the first of them: the WRITE, the READ and the FORGET close in table order; the census and the
LINE_POWER stay (R154). -/
theorem test_stop_mixed :
    let s := { (listening inCensus .slotOpening .step) with
      table := [req 12 .writeNode (some id1), req 9 .census none, req 11 .readNode (some id1),
        { req 8 .linePower none with line := .B }, req 13 .forget (some id2)] }
    (nextOf (exec (.stop 7 []) ((s.setLine .A { s.lineA with
        queue := [txn 11 (.read 2 4) id1 1 false, txn 12 (.write 0 [1]) id1 0 false, txn 13 .release id2 0 false]
        }).setLine .B { LineState.reset with openPower := some (8, .on) }))).map
        (fun t => (t.reports.map (·.tag), t.table.map (fun q => (q.tag, q.state)), t.lineA.queue)) =
      some ([7, 12, 11, 13], [(9, .halting), (8, .running)], []) := by decide

theorem witness_CloseTakesItsReservation :
    inCensus.table = [] ++ req 9 .census none :: [] ∧ inCensus.stop = none ∧
      ({ inCensus with stop := some ⟨7, 1⟩ } : State).stop = some ⟨7, 1⟩ ∧
      (∀ r ∈ inCensus.table, r.tag ≠ 10) := by decide

theorem witness_EventIsQueuedOrCounted :
    3 ≤ ({ base with reports := List.replicate 45 (report 1 (.ready false 2)) } : State).room ∧
      ({ base with reports := List.replicate 46 (report 1 (.ready false 2)) } : State).room < 3 := by decide

theorem witness_CensusMakesContext :
    Admissible base 9 ∧ (base.line .A).power = .up ∧ (base.line .A).census = none ∧
      base.params.expMin ≤ 0 ∧ 10 ≤ base.params.expMax ∧ 0 ≤ 255 ∧ 255 ≤ 255 ∧ 64 ≤ 64 := by decide

theorem witness_TransactionJoinsQueue :
    let s := base.setLine .A { lineA with queue := List.replicate 15 (txn 12 (.read 0 1) id2 0 false) }
    Admissible s 9 ∧ s.lookup e1.identity = some e1 ∧ e1.standing.isBound = true ∧ e1.forgetting = none ∧
      (s.line e1.line).queue.length < 16 ∧ 8 + 8 ≤ e1.memorySize ∧ 15 + 1 ≤ e1.memorySize := by decide

theorem witness_OwnChecksOfLongRequestsInOrder :
    let full := base.setLine .A { lineA with queue := List.replicate 16 (txn 12 (.read 0 1) id2 0 false) }
    let forgetting := { base with roster := [{ e1 with forgetting := some 5 }] }
    Admissible base 9 ∧ (base.line .B).power ≠ .up ∧ Admissible inCensus 10 ∧
      (inCensus.line .A).census.isSome = true ∧ base.params.expMax < 11 ∧ 64 < 65 ∧
      (∀ e ∈ base.roster, e.identity ≠ 99) ∧ base.lookup id3 = some e3 ∧ e3.standing.isBound = false ∧
      Admissible forgetting 9 ∧ forgetting.lookup id1 = some { e1 with forgetting := some 5 } ∧
      base.lookup id1 = some e1 ∧ e1.memorySize < 15 + 2 ∧ [1, 2].length = 2 ∧ Admissible full 9 ∧
      full.lookup id1 = some e1 ∧
      16 ≤ (full.line e1.line).queue.length ∧
      16 ≤ (full.line e1.line).queue.length -
        ((full.line e1.line).queue.countP fun r => r.target == id1 && r.attempts == 0) := by decide

theorem witness_ForgetActsByEntryState_bound :
    let s := { base.setLine .A { lineA with
        queue := [txn 12 (.read 0 1) id1 1 false, txn 13 (.write 0 [1]) id1 0 false] } with
      table := [req 12 .readNode (some id1), req 13 .writeNode (some id1)] }
    let gone := (s.line .A).queue.filter fun r => r.target == id1 && r.attempts == 0
    Admissible s 9 ∧ s.lookup e1.identity = some e1 ∧ e1.standing.isBound = true ∧ e1.forgetting = none ∧
      gone = [txn 13 (.write 0 [1]) id1 0 false] ∧
      (∀ r ∈ gone, r.unheard = 0 ∧ r.inFlight = false ∧ r.work ≠ .release ∧ r.tag ≠ 9 ∧
        ∃ q ∈ s.table, q.tag = r.tag) ∧ (gone.map (·.tag)).Nodup := by decide

theorem witness_ForgetActsByEntryState_unbound :
    Admissible base 9 ∧ RosterLaw base ∧ base.lookup e3.identity = some e3 ∧ base.lookup e4.identity = some e4 ∧
      e3.standing.isBound = false ∧ e4.standing.isBound = false ∧ e3.forgetting = none ∧
      e4.forgetting = none := by decide

theorem witness_LinePowerActsByState :
    let fault := base.setLine .B { LineState.reset with power := .fault }
    let settling := { base.setLine .B { LineState.reset with
      power := .settling, settleAt := some 1050, speed := some 2, openPower := some (8, .on) } with
      table := [req 8 .linePower none] }
    let offOpen := { (listening base (.poll 0 id1) (.poll 1)) with table := [req 8 .linePower none] }
    Admissible base 9 ∧ (base.line .B).openPower = none ∧ (base.line .B).power = .off ∧
      (base.line .A).power = .up ∧ Admissible fault 9 ∧ (fault.line .B).power = .fault ∧
      Admissible settling 9 ∧ (settling.line .B).openPower = some (8, .on) ∧
      (settling.line .B).power = .settling ∧ settling.table = [] ++ req 8 .linePower none :: [] ∧
      Admissible offOpen 9 ∧ (offOpen.line .A).op.isSome = true ∧
      ((offOpen.setLine .A { offOpen.lineA with openPower := some (8, .off) }).line .A).offOpen = true := by
  decide

theorem witness_ReceiverHuntsCollectsAndTimesOut :
    base.rx = .hunting ∧ ((1020 : Clock) - base.clock).toNat ≤ 20 ∧ ((1000 : Clock) - base.clock).toNat ≤ 20 ∧
      (1 : Byte).toNat < 2 ∧ 252 < (253 : Byte).toNat ∧ 2 ≤ (2 : Byte).toNat ∧ (252 : Byte).toNat ≤ 252 ∧
      [4, 1, 0].length + 1 < (3 : Byte).toNat + 2 ∧ 600000 < ((999 : Clock) - base.clock).toNat := by decide

theorem witness_FrameBytesBringTheFrame :
    base.rx = .hunting ∧ (Frame.mk 4 3 []).body.length ≤ 250 ∧
      (Frame.mk 4 3 (List.replicate 250 0x5A)).body.length ≤ 250 ∧ [0, 0].length = 2 ∧
      (Frame.bytes ⟨4, 3, []⟩).drop 4 ≠ [0, 0] ∧
      (∀ p ∈ requestCommands, (Frame.mk p.1 3 []).kind = p.1) := by
  refine ⟨rfl, by decide, by decide, rfl, by decide, ?_⟩
  simp

theorem witness_RequestBytesReadBack :
    (Request.getRoster 255 8).inRange = true ∧ (Request.readNode id1 4095 32).inRange = true ∧
      (Request.writeNode id1 0 [1]).inRange = true ∧ (Request.setParam 255 65535).inRange = true ∧
      (Request.census .B .fixed 255 255 255 1).inRange = true := by decide

theorem witness_SentReportLeavesQueue :
    let s := { base with reports := [report 1 (.ready false 2)] }
    let t := { s with inbound := [⟨4, 3, []⟩, ⟨5, 4, []⟩, ⟨0x77, 5, []⟩] }
    let full := { t with reports := List.replicate 47 (report 1 (.ready false 2)) }
    base.reports = [] ∧ s.reports = report 1 (.ready false 2) :: [] ∧ s.inbound = [] ∧
      t.inbound = ⟨4, 3, []⟩ :: [⟨5, 4, []⟩, ⟨0x77, 5, []⟩] ∧ 2 ≤ t.room ∧ full.room < 2 ∧
      full.reports = report 1 (.ready false 2) :: List.replicate 46 (report 1 (.ready false 2)) ∧
      TakesNow s := by decide

theorem witness_SettlingEndsAndLineGoesUp :
    let s := { base.setLine .B { LineState.reset with
      power := .settling, settleAt := some 1100, speed := some 2, openPower := some (8, .on) } with
      table := [req 8 .linePower none] }
    (base.line .A).power ≠ .settling ∧ (s.line .B).power = .settling ∧ (s.line .B).settleAt = some 1100 ∧
      ((1100 : Clock) - s.clock).toNat ≤ 100 ∧ (s.line .B).openPower = some (8, .on) ∧ DownLaw s .B ∧
      OpenAt s 8 [] (req 8 .linePower none) [] ∧
      OpenAt { s with stop := some ⟨7, 1⟩ } 8 [] (req 8 .linePower none) [] := by decide

theorem witness_TripTakesLineToFault :
    let s := { (inQueue (txn 11 (.write 0 [1]) id1 1 false)) with
      roster := [e1, { e2 with forgetting := some 12 }, e3, e4]
      table := [req 11 .writeNode (some id1), req 12 .forget (some id2)] }
    let s := s.setLine .A { s.lineA with
      queue := [txn 11 (.write 0 [1]) id1 1 false, txn 12 .release id2 0 false] }
    let t := { s.setLine .A { s.lineA with openPower := some (8, .off) } with
      table := s.table ++ [req 8 .linePower none] }
    (base.line .B).power = .off ∧ (s.line .A).power = .up ∧ RosterLaw s ∧ TargetLaw s .A ∧ 3 ≤ s.room ∧
      (s.line .A).openPower = none ∧ AllOpen s (sweepReports s .A) ∧ (sweepReports s .A).length = 2 ∧
      (t.line .A).openPower = some (8, .off) ∧ RosterLaw t ∧ TargetLaw t .A ∧ 3 ≤ t.room ∧
      AllOpen t (sweepReports t .A ++ [report 8 (.closed .faulted (.linePower .A .fault 2))]) ∧
      AllOpen { s with stop := some ⟨7, 2⟩ } (sweepReports s .A) ∧
      Emptied { s with stop := some ⟨7, 2⟩ } (sweepReports s .A) := by decide

theorem witness_TripTakesLineToFault_settling :
    let s := { base.setLine .B { LineState.reset with
      power := .settling, settleAt := some 1100, speed := some 2, openPower := some (8, .on) } with
      table := [req 8 .linePower none] }
    (s.line .B).power = .settling ∧ (s.line .B).openPower = some (8, .on) ∧
      OpenAt s 8 [] (req 8 .linePower none) [] := by decide

theorem witness_OffTakesIdleLineDown :
    Admissible inCensus 10 ∧ (inCensus.line .A).power = .up ∧ (inCensus.line .A).openPower = none ∧
      (inCensus.line .A).op = none ∧ RosterLaw inCensus ∧ TargetLaw inCensus .A ∧
      AllOpen inCensus (sweepReports inCensus .A) ∧ (sweepReports inCensus .A).length = 1 := by decide

/-- An off that waits for a READ attempt whose answer closes the READ: the state after the window without the off meets the
premises, with the closings of another record and of the off. -/
theorem witness_OffTakesLineDownAfterOperation :
    let s := let s := listening (inQueue (txn 11 (.read 2 1) id1 1 true)) .attempt (.read 1 2 1)
      { s.setLine .A { s.lineA with openPower := some (8, .off) } with table := req 8 .linePower none :: s.table }
    let c := Instr.attemptWindow .A (.alone (.data 1 [7]))
    Settled s ∧ (s.line .A).openPower = some (8, .off) ∧ (s.line .A).op ≠ none ∧
      ∀ t ∈ nextOf (exec c (s.setLine .A { s.line .A with openPower := none })),
        (t.line .A).op = none ∧ RosterLaw t ∧ TargetLaw t .A ∧
          (sweepReports t .A).map (·.tag) = [12] ∧
          AllOpen t (sweepReports t .A ++
            [report 8 (.closed .done (.linePower .A .off (t.boundEntries .A).length))]) := by decide

/-- The same for a poll whose cycle is not late. -/
theorem witness_OffTakesLineDownAfterOperation_poll :
    let s := let s := listening base (.poll 0 id1) (.poll 1)
      { s.setLine .A { s.lineA with openPower := some (8, .off) } with table := [req 8 .linePower none] }
    Settled s ∧ (s.line .A).openPower = some (8, .off) ∧ (s.line .A).op ≠ none ∧
      ∀ t ∈ nextOf (exec (.pollWindow .A .silence) (s.setLine .A { s.line .A with openPower := none })),
        (t.line .A).op = none ∧ RosterLaw t ∧ TargetLaw t .A ∧
          (t.line .A).counters.overruns = (s.line .A).counters.overruns ∧
          AllOpen t (sweepReports t .A ++
            [report 8 (.closed .done (.linePower .A .off (t.boundEntries .A).length))]) := by decide

theorem witness_GrantBeginsOneOperation_executor :
    let s := inQueue (txn 11 (.read 2 4) id1 0 false)
    Granted s .A .executor ∧ (s.line .A).queue =
        txn 11 (.read 2 4) id1 0 false :: [txn 12 (.read 0 1) id2 0 false] ∧
      s.lookup id1 = some e1 ∧ e1.standing = .bound 1 5000 := by
  refine ⟨⟨rfl, rfl, rfl, rfl, fun d hd _ => ?_⟩, rfl, rfl, rfl⟩
  cases d
  · exact absurd rfl hd
  · exact .inr ⟨by decide, by decide⟩
  · exact .inr ⟨by decide, by decide⟩

theorem witness_GrantBeginsOneOperation_scheduler :
    let s := let s := inQueue (txn 11 (.read 2 4) id1 0 false)
      s.setLine .A { s.lineA with passedP := 4 }
    Granted s .A .scheduler ∧ (s.line .A).poll.map (·.remaining) = some ([] ++ 1 :: []) ∧
      s.entryOf 1 = some e2 ∧ e2.line = .A ∧ e2.standing = .bound 2 5000 := by
  refine ⟨⟨rfl, rfl, rfl, rfl, fun d hd _ => ?_⟩, rfl, rfl, rfl, rfl⟩
  cases d
  · exact .inl ⟨by decide, by decide⟩
  · exact absurd rfl hd
  · exact .inl ⟨by decide, by decide⟩

theorem witness_GrantBeginsOneOperation_sequencer :
    let s := inCensus.setLine .A { inCensus.lineA with passedC := 4, passedP := 3 }
    let t := s.setLine .A { s.lineA with census := some { census with slotIndex := 0 } }
    Granted s .A .sequencer ∧ (s.line .A).census = some census ∧ census.slotIndex ≠ 0 ∧
      Granted t .A .sequencer ∧ (t.line .A).census = some { census with slotIndex := 0 } := by
  refine ⟨⟨rfl, rfl, rfl, rfl, fun d hd _ => ?_⟩, rfl, by decide,
    ⟨rfl, rfl, rfl, rfl, fun d hd _ => ?_⟩, rfl⟩ <;>
  · cases d
    · exact .inl ⟨by decide, by decide⟩
    · exact .inl ⟨by decide, by decide⟩
    · exact absurd rfl hd

theorem witness_GrantBeginsOneOperation_none :
    (base.line .B).power ≠ .up ∧ (inCensus.line .A).op = none ∧
      (listening base (.poll 0 id1) (.poll 1)).lineA.op ≠ none ∧
      (∀ c ∈ [Contender.executor, .scheduler, .sequencer], State.reset.waits .A c = false) := by decide

theorem witness_SentCallOpensWindow :
    let sending (w : OpWork) (c : Call) : Option LineOp := some { work := w, call := c, listening := false }
    (base.line .B).op = none ∧
      (base.setLine .A { lineA with op := sending .attempt (.read 1 0 1) }).lineA.op =
        sending .attempt (.read 1 0 1) ∧
      (inCensus.setLine .A { inCensus.lineA with op := sending .slotOpening (.roll 2 0 0) }).lineA.op =
        sending .slotOpening (.roll 2 0 0) ∧
      (inCensus.setLine .A { inCensus.lineA with
        op := sending (.slotHush id4 .noAddress none false) (.hush 7 60) }).lineA.op =
        sending (.slotHush id4 .noAddress none false) (.hush 7 60) := by decide

theorem witness_OpeningWindowClassesTheSlot :
    let s := listening inCensus .slotOpening .step
    WindowOpen s .A .slotOpening .step ∧ SlotGoesOn s .A census ∧
      Call.step.classify .silence = .silence ∧ Call.step.classify .noise = .garbled ∧
      Call.step.classify (.alone (.stub 7)) = .valid (.stub 7) := by decide

theorem witness_ClaimSpoilsOrHushes :
    let s := listening inCensus .slotClaim (.claim 7)
    let empty := s.setLine .A { s.lineA with pool := [] }
    let other := { s with roster := [{ e1 with line := .B }, e2, e3, e4] }
    Settled s ∧ WindowOpen s .A .slotClaim (.claim 7) ∧ SlotGoesOn s .A census ∧
      (Call.claim 7).classify (.alone (.identity 0 3)) = .valid (.identity 0 3) ∧
      (Call.claim 7).classify (.alone (.identity id1 3)) = .valid (.identity id1 3) ∧
      (Call.claim 7).classify .silence = .silence ∧ Settled other ∧
      other.lookup id1 = some { e1 with line := .B } ∧ Settled empty ∧ empty.lookup 99 = none ∧
      empty.roster.length < 256 ∧ (empty.line .A).pool = [] ∧ RosterLaw empty ∧
      empty.lookup id4 = some e4 ∧ e4.standing = .unbound := by decide

theorem witness_ClaimSpoilsOrHushes_full :
    let s := { listening inCensus .slotClaim (.claim 7) with roster := e2 :: List.replicate 255 e4 }
    Settled s ∧ WindowOpen s .A .slotClaim (.claim 7) ∧ s.lookup 99 = none ∧ 256 ≤ s.roster.length := by
  decide

/-- A LOST entry of line B with a held address, found on line A whose pool is empty. -/
theorem witness_ClaimSpoilsOrHushes_lost :
    let e := { e3 with line := .B }
    let s := let s := listening inCensus .slotClaim (.claim 7)
      { s.setLine .A { s.lineA with pool := [] } with roster := [e1, e2, e, e4] }
    Settled s ∧ RosterLaw s ∧ WindowOpen s .A .slotClaim (.claim 7) ∧ (s.line .A).census = some census ∧
      s.lookup id3 = some e ∧ e.standing = .lost (some 3) ∧ e.line ≠ .A ∧ (s.line .A).pool = [] := by decide

theorem witness_ClaimBindsOrCompletesForget :
    let s := listening inCensus .slotClaim (.claim 7)
    Settled s ∧ RosterLaw s ∧ WindowOpen s .A .slotClaim (.claim 7) ∧ (s.line .A).census = some census ∧
      (Call.claim 7).classify (.alone (.identity id1 16)) = .valid (.identity id1 16) ∧
      (Call.claim 7).classify (.alone (.identity id3 16)) = .valid (.identity id3 16) ∧
      (Call.claim 7).classify (.alone (.identity 99 16)) = .valid (.identity 99 16) ∧
      s.lookup 99 = none ∧ s.roster.length < 256 ∧ (s.line .A).pool = 5 :: [6] ∧ s.lookup id1 = some e1 ∧
      s.lookup id3 = some e3 := by
  refine ⟨?_, ?_, ?_, ?_, ?_, ?_, ?_, ?_, ?_, ?_, ?_, ?_⟩ <;> decide

/-- The move of a node of line B, and the completion of a FORGET by the find of its node, on line A, with a running WRITE
that names it and with the FORGET's RELEASE alone, a STOP open in both. -/
theorem witness_ClaimBindsOrCompletesForget_forget :
    let s := listening inCensus .slotClaim (.claim 7)
    let t := { s.setLine .A { s.lineA with
        queue := [txn 12 (.write 0 [1]) id1 1 false, txn 13 .release id1 0 false] } with
      roster := [{ e1 with forgetting := some 13 }, e2, { e3 with line := .B }]
      table := [req 9 .census none, req 12 .writeNode (some id1), req 13 .forget (some id1)]
      stop := some ⟨7, 3⟩ }
    let u := { t.setLine .A { t.lineA with queue := [txn 13 .release id1 1 false] } with
      table := [req 13 .forget (some id1)] }
    let rs (x : State) := lostReports (x.line .A).queue id1 ++ [report 13 (.closed .done (.forget id1 .found))]
    (∀ x ∈ [t, u], Settled x ∧ RosterLaw x ∧ WindowOpen x .A .slotClaim (.claim 7) ∧
      x.lookup id3 = some { e3 with line := .B } ∧
      x.lookup id1 = some { e1 with forgetting := some 13 } ∧ AllOpen x (rs x)) ∧
      (rs t).map (·.tag) = [12, 13] ∧ Emptied u (rs u) := by
  refine ⟨fun x hx => ⟨?_, ?_, ?_, ?_, ?_, ?_⟩, by decide, by decide⟩ <;> revert x <;> decide

theorem witness_BindIsConfirmedOrEntryLost :
    let s := listening inCensus (.slotBind 0 id1 16 (.nodeReturned id1 .A 1 1)) (.bind 7 1 5000)
    Settled s ∧ RosterLaw s ∧ 3 ≤ s.room ∧
      WindowOpen s .A (.slotBind 0 id1 16 (.nodeReturned id1 .A 1 1)) (.bind 7 1 5000) ∧
      SlotGoesOn s .A census ∧ s.entryOf 0 = some e1 ∧ e1.identity = id1 ∧ e1.line = .A ∧
      e1.standing = .bound 1 5000 ∧
      (Call.bind 7 1 5000).classify (.alone (.ack 1)) = .valid (.ack (id1.setWidth 16)) ∧
      (Call.bind 7 1 5000).classify (.alone (.ack 2)) ≠ .valid (.ack (id1.setWidth 16)) ∧
      e1.forgetting = none ∧
      (∀ r ∈ (s.line .A).queue, r.target ≠ id1) := by decide

/-- The same with a queued READ of the entry, and with the entry forgetting and the last member of a late cycle. -/
theorem witness_BindIsConfirmedOrEntryLost_records :
    let s := listening inCensus (.slotBind 0 id1 16 (.nodeReturned id1 .A 1 1)) (.bind 7 1 5000)
    let t := { s.setLine .A { s.lineA with queue := [txn 12 (.read 0 1) id1 0 false] } with
      table := req 12 .readNode (some id1) :: s.table }
    let f := { e1 with forgetting := some 13 }
    let u := { s.setLine .A { s.lineA with
        queue := [txn 13 .release id1 0 false], poll := some lastMember } with
      roster := [f, e2], table := req 13 .forget (some id1) :: s.table }
    (∀ x ∈ [t, u], Settled x ∧ RosterLaw x ∧ 3 ≤ x.room ∧ SlotGoesOn x .A census ∧
      WindowOpen x .A (.slotBind 0 id1 16 (.nodeReturned id1 .A 1 1)) (.bind 7 1 5000)) ∧
      t.entryOf 0 = some e1 ∧ AllOpen t (outReports (t.line .A).queue e1) ∧ u.entryOf 0 = some f ∧
      AllOpen u (outReports (u.line .A).queue f) ∧
      (outReports (t.line .A).queue e1 ++ outReports (u.line .A).queue f).map (·.tag) = [12, 13] := by decide

theorem witness_HushEndsSlotWithOneEvent :
    let v := FindEvent.noAddress id4 .A
    let s := listening inCensus (.slotHush id4 .noAddress (some v) false) (.hush 7 60)
    3 ≤ s.room ∧ WindowOpen s .A (.slotHush id4 .noAddress (some v) false) (.hush 7 60) ∧
      SlotGoesOn s .A census ∧
      WindowOpen (listening inCensus (.slotHush id1 .forgotten none false) (.hush 7 60)) .A
        (.slotHush id1 .forgotten none false) (.hush 7 60) := by decide

theorem witness_SlotEndGoesOnHaltsOrEndsRound :
    let last (e k b : Nat) (h : Option Halt) : Census :=
      { census with exponent := e, slotIndex := 2 ^ e - 1, emptySlots := k, singleSlots := 2 ^ e - 1 - k,
                    budget := b, halt := h }
    let s (c : Census) := let s := listening inCensus .slotOpening .step
      s.setLine .A { s.lineA with census := some c }
    (∀ c ∈ [last 2 3 32 none, last 0 0 32 none, last 2 1 32 none, last 2 1 1 none, last 2 3 32 (some .cancel),
        last 2 3 32 (some .stop)],
      WindowOpen (s c) .A .slotOpening .step ∧ 3 ≤ (s c).room ∧ ((s c).line .A).census = some c ∧
        ((s c).line .A).offOpen = false ∧ c.slotIndex + 1 = 2 ^ c.exponent ∧
        OpenAt (s c) c.tag [] (req 9 .census none) [] ∧
        OpenAt { s c with stop := some ⟨7, 1⟩ } c.tag [] (req 9 .census none) []) ∧
      Call.step.classify .silence = .silence ∧
      ((last 2 3 32 none).singleSlots = 0 ∧ (last 2 3 32 none).collidedSlots = 0 ∧
        (last 2 3 32 none).spoiledSlots = 0) ∧ (last 2 1 1 none).budget ≤ (last 2 1 1 none).totals.rounds ∧
      (last 2 1 32 none).totals.rounds < (last 2 1 32 none).budget := by decide

/-- A last slot that is spoiled, hushed with and without an event, bound, and bound without confirmation with a READ of the
entry queued and the entry the last member of a late cycle. -/
theorem witness_SlotEndGoesOnHaltsOrEndsRound_slots :
    let last := { census with slotIndex := 3, emptySlots := 2, singleSlots := 2, spoiledSlots := 1 }
    let v := FindEvent.nodeReturned id1 .A 1 1
    let at_ (w : OpWork) (c : Call) := let s := listening inCensus w c
      s.setLine .A { s.lineA with census := some last }
    let claim := at_ .slotClaim (.claim 7)
    let hush := at_ (.slotHush id4 .noAddress (some (.noAddress id4 .A)) false) (.hush 7 60)
    let repeated := at_ (.slotHush id4 .noAddress (some (.noAddress id4 .A)) true) (.hush 7 60)
    let bind := at_ (.slotBind 0 id1 16 v) (.bind 7 1 5000)
    let lost := { bind.setLine .A { bind.lineA with
        queue := [txn 12 (.read 0 1) id1 0 false], poll := some lastMember } with
      table := bind.table ++ [req 12 .readNode (some id1)] }
    let rs := outReports (lost.line .A).queue e1
    (∀ s ∈ [claim, hush, repeated, bind, lost], Settled s ∧ (s.line .A).census = some last ∧
      (s.line .A).offOpen = false ∧ last.slotIndex + 1 = 2 ^ last.exponent ∧ RosterLaw s ∧ 4 ≤ s.room) ∧
      OpenAt claim 9 [] (req 9 .census none) [] ∧
      OpenAt lost 9 [] (req 9 .census none) [req 12 .readNode (some id1)] ∧
      (Call.claim 7).classify .silence = .silence ∧
      (∀ s ∈ [bind, lost], s.entryOf 0 = some e1 ∧
        WindowOpen s .A (.slotBind 0 id1 16 v) (.bind 7 1 5000)) ∧ e1.standing = .bound 1 5000 ∧
      (Call.bind 7 1 5000).classify .silence ≠ .valid (.ack (id1.setWidth 16)) ∧
      AllOpen lost rs ∧ rs.map (·.tag) = [12] ∧ (∀ r ∈ rs, r.tag ≠ 9) := by
  decide

/-- The part in a slot operation of a census that carries the mark STOP, in the middle of its round. -/
def marked (w : OpWork) (c : Call) : State :=
  let s := listening inCensus w c
  { s.setLine .A { s.lineA with census := some { census with halt := some .stop } } with stop := some ⟨7, 1⟩ }

/-- A slot in the middle of a round whose census is marked, in each sort of window. -/
theorem witness_SlotEndGoesOnHaltsOrEndsRound_halted :
    let c := { census with halt := some .stop }
    let v := FindEvent.nodeReturned id1 .A 1 1
    (∀ x ∈ [(OpWork.slotOpening, Call.step), (.slotClaim, .claim 7), (.slotBind 0 id1 16 v, .bind 7 1 5000),
        (.slotHush id4 .noAddress (some (.noAddress id4 .A)) false, .hush 7 60)],
      let s := marked x.1 x.2
      WindowOpen s .A x.1 x.2 ∧ Settled s ∧ RosterLaw s ∧ (s.line .A).census = some c ∧
        (s.line .A).offOpen = false ∧ OpenAt s c.tag [] (req 9 .census none) [] ∧ s.entryOf 0 = some e1 ∧
        AllOpen s (outReports (s.line .A).queue e1)) ∧
      c.slotIndex + 1 < 2 ^ c.exponent := by decide

/-- The census closes STOPPED at the end of that slot, without a summary, and the STOP behind it (R72, R75, R155). -/
theorem test_slotWindow_halted :
    (nextOf (exec (.slotWindow .A .silence) (marked .slotOpening .step))).map
        (fun t => (t.reports, t.table, t.stop, t.lineA.census)) =
      some ([report 9 (.closed .stopped (.census { census.totals with slots := 2 })),
        report 7 (.closed .done (.stop 1))], [], none, none) := by decide

/-- A last slot that is hushed: its event, the summary and, the budget being spent, the census's CLOSED (R66, R67). -/
theorem test_hushWindow_round_end :
    (nextOf (exec (.hushWindow .A .silence)
        (let s := listening inCensus (.slotHush id4 .clash (some (.rosterFull id4 .A)) false) (.hush 7 60)
         s.setLine .A { s.lineA with
            census := some { census with slotIndex := 3, singleSlots := 3, budget := 1 } }))).map
        (fun t => (t.reports.map (·.body), t.table)) =
      some ([.event 0 (.rosterFull id4 .A 1 3), .event 0 (.roundSummary 1 2 1 3 0 0 0 2),
        .closed .budget (.census { census.totals with slots := 2, clashes := 1 })], []) := by decide

theorem witness_PollIsAnsweredMissedOrLost :
    let s := listening base (.poll 0 id1) (.poll 1)
    Settled s ∧ RosterLaw s ∧ 3 ≤ s.room ∧ WindowOpen s .A (.poll 0 id1) (.poll 1) ∧
      (s.line .A).offOpen = false ∧ s.entryOf 0 = some e1 ∧ e1.identity = id1 ∧ e1.line = .A ∧
      e1.standing = .bound 1 5000 ∧
      (Call.poll 1).classify (.alone (.status 1 true)) = .valid (.status (id1.setWidth 16) true) ∧
      (Call.poll 1).classify .silence = .silence ∧ e1.attention = false ∧ s.params.attentionReports = 1 ∧
      e1.misses + 1 < s.params.missLimit := by decide

/-- An entry at its last miss: without records, with a WRITE of its own, and forgetting. -/
theorem witness_PollIsAnsweredMissedOrLost_out :
    let worn := { e1 with misses := 2 }
    let forgotten := { worn with forgetting := some 13 }
    let s := { listening base (.poll 0 id1) (.poll 1) with roster := [worn, e2] }
    let t := { s.setLine .A { s.lineA with queue := [txn 12 (.write 0 [1]) id1 0 false] } with
      table := [req 12 .writeNode (some id1)], stop := some ⟨7, 1⟩ }
    let u := { s.setLine .A { s.lineA with queue := [txn 13 .release id1 0 false] } with
      roster := [forgotten, e2], table := [req 13 .forget (some id1)] }
    (∀ p ∈ [(s, worn), (t, worn), (u, forgotten)], Settled p.1 ∧ RosterLaw p.1 ∧ 3 ≤ p.1.room ∧
      WindowOpen p.1 .A (.poll 0 id1) (.poll 1) ∧ (p.1.line .A).offOpen = false ∧
      p.1.entryOf 0 = some p.2 ∧ p.2.standing = .bound 1 5000 ∧ p.1.params.missLimit ≤ p.2.misses + 1 ∧
      AllOpen p.1 (outReports (p.1.line .A).queue p.2)) ∧
      Emptied t (outReports (t.line .A).queue worn) := by decide

/-- The polled entry LOST while its window was open, gone from the roster, and BOUND again on the other line. -/
theorem witness_PollIsAnsweredMissedOrLost_left :
    let s := listening base (.poll 0 id1) (.poll 1)
    let lost := { s with roster := [{ e1 with standing := .lost (some 1) }, e2] }
    let gone := { s with roster := [e2] }
    let moved := { e1 with line := .B, standing := .bound 4 5000, misses := 2 }
    let other := { s with roster := [moved, e2] }
    (∀ x ∈ [lost, gone], Settled x ∧ WindowOpen x .A (.poll 0 id1) (.poll 1) ∧ (x.line .A).offOpen = false ∧
      ∀ e ∈ x.entryOf 0, e.standing.isBound = false) ∧
      Settled other ∧ RosterLaw other ∧ WindowOpen other .A (.poll 0 id1) (.poll 1) ∧ other.entryOf 0 = some moved ∧
      moved.standing = .bound 4 5000 ∧ other.params.missLimit ≤ moved.misses + 1 ∧
      AllOpen other (outReports (other.line .B).queue moved) := by decide

/-- A STATUS with attention from an entry that has gone LOST: the claim is ignored and no ATTENTION made (R28, R95). -/
theorem test_pollWindow_lost :
    let s := { listening base (.poll 0 id1) (.poll 1) with roster := [{ e1 with standing := .lost (some 1) }, e2] }
    (nextOf (exec (.pollWindow .A (.alone (.status 1 true))) s)).map (fun t => (t.roster, t.reports, t.lineA.op)) =
      some (s.roster, [], none) := by decide

/-- A NODE_LOST without room for it is dropped and counted (R164). -/
theorem test_pollWindow_dropped :
    (nextOf (exec (.pollWindow .A .silence) { listening base (.poll 0 id1) (.poll 1) with
        roster := [{ e1 with misses := 2 }, e2], reports := List.replicate 46 (report 1 (.ready false 2)),
        dropped := 65534 })).map (fun t => (t.reports.length, t.dropped, t.roster.map (·.standing))) =
      some (46, 65535, [.lost (some 1), .bound 2 5000]) := by decide

/-- A RUNNING and a WAITING scheduler at their due times; the last poll of a cycle, late and not, of an entry whose attention
can rise, whose miss only counts and whose miss counts it out. -/
theorem witness_CyclesStartAtDueTimeAndFinish :
    let cycle (late : Bool) : PollCycle := { lastMember with remaining := [], late := late }
    let s (late : Bool) (n : Nat) :=
      let s := { listening base (.poll 0 id1) (.poll 1) with roster := [{ e1 with misses := n }, e2] }
      s.setLine .A { s.lineA with poll := some (cycle late) }
    let waiting := base.setLine .A { lineA with poll := some { cycle false with running := false } }
    (base.line .B).poll = none ∧ (waiting.line .A).poll = some { cycle false with running := false } ∧
      ((cycle false).nextDue - waiting.clock).toNat ≤ 10000 ∧ ((11000 : Clock) - base.clock).toNat ≤ 10000 ∧
      e1.standing = .bound 1 5000 ∧ e1.line = .A ∧
      (∀ late ∈ [true, false], ∀ n ∈ [0, 2], Settled (s late n) ∧ RosterLaw (s late n) ∧
        ((s late n).line .A).poll = some (cycle late) ∧ (cycle late).running = true ∧
        (∀ k ∈ (cycle late).remaining, (s late n).memberBound .A k = false) ∧
        WindowOpen (s late n) .A (.poll 0 e1.identity) (.poll 1) ∧ ((s late n).line .A).offOpen = false ∧
        (s late n).entryOf 0 = some { e1 with misses := n }) := by decide

/-- The last poll of a cycle, late and not, of an entry that has gone LOST. -/
theorem witness_CyclesStartAtDueTimeAndFinish_left :
    ∀ late ∈ [true, false],
      let s := { listening base (.poll 0 id1) (.poll 1) with roster := [{ e1 with standing := .lost (some 1) }, e2] }
      let s := s.setLine .A { s.lineA with poll := some { lastMember with remaining := [], late := late } }
      Settled s ∧ RosterLaw s ∧ WindowOpen s .A (.poll 0 id1) (.poll 1) ∧ (s.line .A).offOpen = false := by decide

/-- The last member of a late cycle counted out: the overrun counts, and the next cycle starts without it (R98). -/
theorem test_pollWindow_late_cycle :
    (nextOf (exec (.pollWindow .A .silence)
        (let s := { listening base (.poll 0 id1) (.poll 1) with roster := [{ e1 with misses := 2 }, e2] }
         s.setLine .A { s.lineA with poll := some { lastMember with remaining := [] } }))).map
        (fun t => (t.lineA.poll.map (·.members), t.lineA.counters.overruns, t.reports.length)) =
      some (some [1], 1, 1) := by decide

theorem witness_AttemptClosesOrStaysAtHead :
    let s (w : TxnWork) (n : Nat) (c : Call) := listening (inQueue (txn 11 w id1 n true)) .attempt c
    (∀ x ∈ [s (.read 2 4) 1 (.read 1 2 4), s (.read 2 4) 2 (.read 1 2 4), s (.read 2 4) 3 (.read 1 2 4),
        s (.write 2 [9]) 3 (.write 1 2 [9])],
      Settled x ∧ RosterLaw x ∧ (x.line .A).queue.length = 2 ∧ (x.line .A).offOpen = false ∧
        x.lookup id1 = some e1 ∧
        OpenAt x 11 [] (req 11 .readNode (some id1)) [req 12 .readNode (some id2)]) ∧
      e1.line = .A ∧ e1.standing = .bound 1 5000 ∧ 2 ≤ base.params.retryLimit ∧ base.params.retryLimit < 3 ∧
      (Call.read 1 2 4).classify (.alone (.data 1 [1, 2, 3, 4])) = .valid (.data (id1.setWidth 16) [1, 2, 3, 4]) ∧
      (Call.read 1 2 4).classify (.alone (.refusal 1 .busy)) = .valid (.refusal (id1.setWidth 16) .busy) ∧
      (Call.read 1 2 4).classify (.alone (.refusal 1 .range)) = .valid (.refusal (id1.setWidth 16) .range) ∧
      (Call.write 1 2 [9]).classify (.alone (.ack 1)) = .valid (.ack (id1.setWidth 16)) ∧
      (Call.write 1 2 [9]).classify (.alone (.refusal 1 .writeProtected)) =
        .valid (.refusal (id1.setWidth 16) .writeProtected) ∧
      NotItsAnswer ((Call.read 1 2 4).classify .silence) id1 ∧
      NotItsAnswer ((Call.write 1 2 [9]).classify (.alone (.ack 2))) id1 ∧
      e1.misses + 1 < base.params.missLimit := by decide

/-- The window of an attempt whose record was purged, with nothing behind it and with another record. -/
theorem witness_AttemptClosesOrStaysAtHead_purged :
    let s (c : Call) := listening base .attempt c
    ∀ c ∈ [Call.read 1 2 4, .write 1 2 [9], .release 1 60],
      ∀ x ∈ [s c, (s c).setLine .A { (s c).lineA with queue := [txn 12 (.read 0 1) id2 0 false] }],
        Settled x ∧ WindowOpen x .A .attempt c ∧ (x.line .A).offOpen = false ∧
          ∀ r ∈ (x.line .A).queue.head?, r.inFlight = false := by decide

/-- Such a window holds an answer: it is no check mismatch, whatever the check word (R115, R135). -/
theorem test_attemptWindow_purged :
    (nextOf (exec (.attemptWindow .A (.alone (.data 9 [1]))) (listening base .attempt (.read 1 2 1)))).map
        (fun t => (t.lineA.op, t.lineA.counters.mismatches, t.reports, t.roster)) =
      some (none, 0, [], base.roster) := by decide

theorem witness_AttemptClosesOrStaysAtHead_marked :
    let r := { txn 11 (.read 2 4) id1 1 true with halt := some .cancel }
    let s := listening (inQueue r) .attempt (.read 1 2 4)
    Settled s ∧ RosterLaw s ∧ (s.line .A).queue = r :: [txn 12 (.read 0 1) id2 0 false] ∧ r.inFlight = true ∧
      WindowOpen s .A .attempt (.read 1 2 4) ∧ r.halt = some .cancel := by decide

/-- A WRITE marked by the STOP that is open, the only request; and a READ and a forgotten node's READ whose last attempt
goes unheard at the last miss, each with a record behind it. -/
theorem witness_AttemptClosesOrStaysAtHead_out :
    let w := { txn 11 (.write 2 [4]) id1 1 true with halt := some .stop }
    let s := { listening (inQueue w) .attempt (.write 1 2 [4]) with
      table := [req 11 .writeNode (some id1)], stop := some ⟨7, 2⟩ }
    let r := txn 11 (.read 2 4) id1 3 true
    let worn := { e1 with misses := 2 }
    let forgotten := { worn with forgetting := some 13 }
    let t := let t := listening (inQueue r) .attempt (.read 1 2 4)
      { t.setLine .A { t.lineA with queue := [r, txn 12 (.write 0 [1]) id1 0 false] } with
        roster := [worn, e2], table := [req 11 .readNode (some id1), req 12 .writeNode (some id1)] }
    let u := { t.setLine .A { t.lineA with queue := [r, txn 13 .release id1 0 false] } with
      roster := [forgotten, e2], table := [req 11 .readNode (some id1), req 13 .forget (some id1)] }
    let rs (x : State) (e : Entry) := report 11 (.closed .noAnswer (.read 3 none none)) ::
      outReports (x.line .A).queue.tail e
    (Settled s ∧ RosterLaw s ∧ (s.line .A).queue.head? = some w ∧ s.lookup id1 = some e1 ∧
      WindowOpen s .A .attempt (.write 1 2 [4]) ∧ OpenAt s 11 [] (req 11 .writeNode (some id1)) []) ∧
      (∀ p ∈ [(t, worn), (u, forgotten)], Settled p.1 ∧ RosterLaw p.1 ∧ (p.1.line .A).queue.head? = some r ∧
        (p.1.line .A).offOpen = false ∧ p.1.lookup id1 = some p.2 ∧ WindowOpen p.1 .A .attempt (.read 1 2 4) ∧
        p.1.params.retryLimit < r.attempts ∧ p.1.params.missLimit ≤ p.2.misses + 1 ∧ 3 ≤ p.1.room ∧
        AllOpen p.1 (rs p.1 p.2)) ∧
      OpenAt t 11 [] (req 11 .readNode (some id1)) [req 12 .writeNode (some id1)] ∧
      OpenAt u 11 [] (req 11 .readNode (some id1)) [req 13 .forget (some id1)] := by decide

theorem witness_ReleaseEndsTheForget :
    let s (n : Nat) := listening (inQueue (txn 11 .release id1 n true)) .attempt (.release 1 60)
    (∀ x ∈ [s 2, s 3], Settled x ∧ RosterLaw x ∧ WindowOpen x .A .attempt (.release 1 60) ∧
        (x.line .A).queue.length = 2 ∧ (x.line .A).offOpen = false ∧ x.lookup id1 = some e1 ∧
        OpenAt x 11 [] (req 11 .readNode (some id1)) [req 12 .readNode (some id2)]) ∧
      (Call.release 1 60).classify (.alone (.ack 1)) = .valid (.ack (id1.setWidth 16)) ∧
      (Call.release 1 60).classify .silence ≠ .valid (.ack (id1.setWidth 16)) ∧
      2 ≤ base.params.retryLimit ∧ base.params.retryLimit < 3 := by decide

theorem witness_DueRecordsLeaveAtTheirExpiry :
    let r := fun a t n => QuarantineRec.mk a 6000 t (some id3) n
    let s := base.setLine .A { lineA with quarantine := [r 3 7000 0, r 4 7000 1] ++ [r 7 7001 2] }
    (base.line .B).quarantine = [] ∧ (s.line .A).quarantine = [r 3 7000 0, r 4 7000 1] ++ [r 7 7001 2] ∧
      (∀ x ∈ [r 3 7000 0, r 4 7000 1], x.expiry = 7000) ∧ ((7000 : Clock) - s.clock).toNat ≤ 70000 ∧
      (∀ x ∈ [r 7 7001 2], ((7000 : Clock) - s.clock).toNat < (x.expiry - s.clock).toNat ∧
        (x.expiry - s.clock).toNat ≤ 70000) := by decide

theorem witness_DueRecordsLeaveAtTheirExpiry_hush :
    let s := { base with hush := [⟨id1, .A, .clash, 601000⟩, ⟨id2, .A, .clash, 1000⟩] }
    base.hush = [] ∧ (∃ h ∈ s.hush, h.expiry = 1000) ∧
      (∀ h ∈ s.hush, ((1000 : Clock) - s.clock).toNat ≤ (h.expiry - s.clock).toNat ∧
        (h.expiry - s.clock).toNat ≤ 600000) := by decide

/-- For EveryStepKeepsTablesWithinLimits, EveryStepKeepsParametersLegal and EveryStepKeepsEntriesLegal: a state that is
not the reset state and meets their laws. -/
theorem witness_EveryStepKeeps_tables :
    let s := { inCensus with hush := [⟨id4, .A, .clash, 60000⟩], rx := .collecting [4, 3] 1010 }
    (RoomLaw s ∧ TableLaw s ∧ InboundLaw s ∧ HushLaw s ∧ ReceiverLaw s) ∧ (ParamLaw s ∧ LinkLaw s) ∧
      EntryLaw s ∧ RosterLaw s := by decide

/-- For EveryStepKeepsLinesLegal. -/
theorem witness_EveryStepKeeps_lines :
    let s := inCensus
    RosterLaw s ∧ OnBothLines DownLaw s ∧ (PowerLaw s .A ∧ PowerLaw s .B) ∧ OnBothLines WaitLaw s ∧
      (ArbiterLaw s .A ∧ ArbiterLaw s .B) := by
  refine ⟨by decide, ⟨?_, ?_⟩, ⟨by decide, by decide⟩, ⟨by decide, by decide⟩, by decide, by decide⟩
  · exact fun h => absurd rfl h
  · exact fun _ => by decide

/-- For EveryStepKeepsQueuesLegal and EveryStepKeepsCensusCounters. -/
theorem witness_EveryStepKeeps_queues_census :
    let s := let s := inQueue (txn 11 (.read 2 4) id1 8 true)
      listening (s.setLine .A { s.lineA with census := some census }) .attempt (.read 1 2 4)
    ParamLaw s ∧ (QueueLaw s .A ∧ QueueLaw s .B) ∧ (CensusLaw s .A ∧ CensusLaw s .B) := by decide

/-- The reset state meets the address law, and so does a line with an address of each sort. -/
theorem witness_EveryStepKeepsAddressLaw :
    let s := base.setLine .A { lineA with pool := List.range' 4 237 }
    RosterLaw s ∧ HeldLaw s ∧ OnBothLines AddressLaw s := by decide

/-- A line in the middle of a READ attempt, with a census open, a forgotten node and a STOP. -/
def busy : State :=
  let f := { e2 with forgetting := some 13, pendingTx := 1 }
  { (listening inCensus .attempt (.read 1 2 4)) with
    roster := [{ e1 with pendingTx := 1 }, f, e3, e4]
    table := [req 9 .census none, req 11 .readNode (some id1), req 13 .forget (some id2)]
    stop := some ⟨7, 3⟩
    reports := [report 9 (.taken .census), report 12 (.closed .done (.read 1 (some [7]) none)),
      report 0 (.event 0 (.attention id1 .A 1 900))]
    lineA := { inCensus.lineA with
      op := some { work := .attempt, call := .read 1 2 4, listening := true }
      queue := [txn 11 (.read 2 4) id1 1 true, txn 13 .release id2 0 false] } }

/-- For EveryStepKeepsRecordsAndRequests, with the laws that the witness after this one shows. -/
theorem witness_EveryStepKeepsRecordsAndRequests_records :
    RosterLaw busy ∧ ParamLaw busy ∧ EntryLaw busy ∧ PendingLaw busy ∧ OnBothLines DownLaw busy ∧
      (QueueLaw busy .A ∧ QueueLaw busy .B) ∧ (FlightLaw busy .A ∧ FlightLaw busy .B) ∧
      (TargetLaw busy .A ∧ TargetLaw busy .B) ∧ (ForgetLaw busy .A ∧ ForgetLaw busy .B) := by
  refine ⟨by decide, by decide, by decide, by decide, ⟨fun h => absurd rfl h, fun _ => by decide⟩, by decide,
    by decide, by decide, by decide⟩

/-- For EveryStepKeepsRecordsAndRequests, beside the laws that the witness before this one shows. -/
theorem witness_EveryStepKeepsRecordsAndRequests_requests :
    TableLaw busy ∧ RequestLaw busy ∧ StopLaw busy ∧ (PowerLaw busy .A ∧ PowerLaw busy .B) ∧
      (WorkLaw busy .A ∧ WorkLaw busy .B) := by
  refine ⟨by decide, by decide, by decide, by decide, by decide⟩

/-- For EveryStepKeepsReportsLegal. -/
theorem witness_EveryStepKeepsReportsLegal : TableLaw busy ∧ ReportLaw busy := by decide

theorem witness_NodeServesReadAndWrite :
    let n : Node := { identity := id1, memory := [(1, false), (2, false), (3, true)], attention := false,
                      powered := true, held := some ⟨5, 5000, 40⟩, hushLeft := none,
                      position := .notInRound, handle := none }
    n.powered = true ∧ n.held = some ⟨5, 5000, 40⟩ ∧ n.memory.length < 2 + 2 ∧ 1 + 2 ≤ n.memory.length ∧
      (n.memory[0 + 2]?).map (·.2) = some true ∧ (n.memory[0 + 1]?).map (·.2) = some false := by decide

/-- A hushed and addressed node after a loss of power (R16): nothing of the line is left, flag and memory as it says. -/
theorem test_powerLoss :
    let n : Machine.Node := ⟨id1, [(1, false)], true, true, some ⟨1, 5000, 100⟩, some 10, .claimed, some 7, some 2⟩
    n.powerLoss false [(9, true)] = ⟨id1, [(9, true)], false, false, none, none, .notInRound, none, none⟩ ∧
      (n.powerLoss true [(1, false)]).memory = n.memory := by decide

end Sys2Proof.Tests
end

section
/-! Proofs about held nodes (chapter 05): what the host reads of the hush list. -/

namespace Sys2Proof.Machine

/-- A frame that the dispatcher takes at its arrival and whose body is well formed for its kind is served whole, in the
command that brings it (R144, R145). -/
theorem State.arrive_eq_serve {s : State} (hi : s.inbound = []) (hr : 2 ≤ s.room) {k : Byte} {b : List Byte}
    {r : Request} (h : readRequest k b = .request r) (t : Tag) :
    s.arrive k t b = s.serve { kind := k, tag := t, body := b } r :=
  (State.arrive_of_takes hi hr k t b).trans (State.handle_of_request s h)

/-- GET_HELD has an empty body (R89, R146). -/
theorem readRequest_getHeld : readRequest 0x04 [] = .request .getHeld := by decide

theorem exec_getHeld (s : State) (tag : Tag) (body : List Byte) :
    exec (.getHeld tag body) s = .next (s.arrive 0x04 tag body) := rfl

/-- GET_HELD served queues the answer and leaves the rest of the state as it is. -/
theorem State.serve_getHeld (s : State) (f : Frame) :
    s.serve f .getHeld = s.push f.tag (.heldList s.clock s.hush) := rfl

end Sys2Proof.Machine

open Sys2Proof.Machine

/-- Settles O9: the frame is taken at its arrival, read as GET_HELD and served by one report at the tail. -/
theorem getHeldListsHushRecords : Obligations.GetHeldListsHushRecords := by
  intro s tag ⟨hinbound, hroom⟩
  rw [exec_getHeld, State.arrive_eq_serve hinbound hroom readRequest_getHeld, State.serve_getHeld]
  rfl

end

section
/-! Proofs about the host link and requests (chapter 09): frames refused before every other check. -/

namespace Sys2Proof.Machine

open Sys2Proof.Statements

/-! ## How a frame's kind and body are read (R145) -/

theorem readRequest_of_unknownKind {k : Byte} (hk : k ∉ requestKinds) (b : List Byte) :
    readRequest k b = .unknownKind := by
  rw [readRequest, if_neg (by rwa [List.contains_iff_mem])]

theorem readRequest_of_malformed {k : Byte} {b : List Byte} (hk : k ∈ requestKinds)
    (hb : bodyWellFormed k b = false) : readRequest k b = .malformed := by
  rw [readRequest, if_pos (List.contains_iff_mem.mpr hk), if_neg (Bool.eq_false_iff.mp hb)]

/-! ## What the dispatcher does with a frame that is no request (R145) -/

theorem State.handle_of_unknownKind (s : State) {f : Frame} (h : readRequest f.kind f.body = .unknownKind) :
    s.handle f = s.refuse f .unknownKind := by simp only [State.handle, h]

theorem State.handle_of_malformed (s : State) {f : Frame} (h : readRequest f.kind f.body = .malformed) :
    s.handle f = s.refuse f .malformed := by simp only [State.handle, h]

/-- A frame of an unknown kind that the dispatcher takes at its arrival is refused in the command that brings it. -/
theorem State.arrive_eq_refuse_unknownKind {s : State} (hs : TakesNow s) {k : Byte} (hk : k ∉ requestKinds)
    (t : Tag) (b : List Byte) :
    s.arrive k t b = s.refuse { kind := k, tag := t, body := b } .unknownKind :=
  (State.arrive_of_takes hs.1 hs.2 k t b).trans (s.handle_of_unknownKind (readRequest_of_unknownKind hk b))

/-- The same for a request kind whose body is not well formed for it. -/
theorem State.arrive_eq_refuse_malformed {s : State} (hs : TakesNow s) {k : Byte} (hk : k ∈ requestKinds)
    {b : List Byte} (hb : bodyWellFormed k b = false) (t : Tag) :
    s.arrive k t b = s.refuse { kind := k, tag := t, body := b } .malformed :=
  (State.arrive_of_takes hs.1 hs.2 k t b).trans (s.handle_of_malformed (readRequest_of_malformed hk hb))

/-! ## The commands that bring frames (R146) -/

theorem exec_unknownKind (s : State) (kind : Byte) (tag : Tag) (body : List Byte) :
    exec (.unknownKind kind tag body) s = .next (s.arrive kind tag body) := rfl

/-- The kinds of the fifteen request commands are the request kinds of the kind table. -/
theorem kind_mem_of_mem_requestCommands {p : Byte × (Tag → List Byte → Instr)} (hp : p ∈ requestCommands) :
    p.1 ∈ requestKinds :=
  have kinds : requestCommands.map Prod.fst = requestKinds := rfl
  kinds ▸ List.mem_map_of_mem hp

/-- Every request command hands its frame to the dispatcher under its own kind. -/
theorem exec_of_mem_requestCommands {p : Byte × (Tag → List Byte → Instr)} (hp : p ∈ requestCommands)
    (s : State) (tag : Tag) (body : List Byte) :
    exec (p.2 tag body) s = .next (s.arrive p.1 tag body) := by
  fin_cases hp <;> rfl

theorem wellFormed_of_mem_requestCommands {p : Byte × (Tag → List Byte → Instr)} (hp : p ∈ requestCommands)
    (tag : Tag) (body : List Byte) : (p.2 tag body).wellFormed = bodyWellFormed p.1 body := by
  fin_cases hp <;> rfl

end Sys2Proof.Machine

open Sys2Proof.Machine

/-- Settles O14: either frame is taken at its arrival, and the reading of its kind and body alone decides the refusal. -/
theorem unknownKindAndMalformedAreRefused : Obligations.UnknownKindAndMalformedAreRefused := by
  intro s tag body hs
  constructor
  · intro kind hkind
    rw [exec_unknownKind, State.arrive_eq_refuse_unknownKind hs hkind]
    rfl
  · intro p hp hbody
    rw [wellFormed_of_mem_requestCommands hp] at hbody
    rw [exec_of_mem_requestCommands hp,
      State.arrive_eq_refuse_malformed hs (kind_mem_of_mem_requestCommands hp) hbody]
    rfl

end

section
/-! Proofs about the worked sequences (chapter 12): the millisecond that passes when no command waits. -/

namespace Sys2Proof.Machine

/-- The branch of `step` for an empty queue: the clock ticks and no command runs. -/
theorem step_of_pending_nil {s : State} (hq : s.pending = []) : step s = .next s.tick := by
  simp only [step, hq]

/-- A tick moves the clock and nothing else; the clock is a word, so its last value wraps to 0 (R180). -/
theorem State.tick_eq (s : State) : s.tick = { s with clock := s.clock + 1 } := rfl

end Sys2Proof.Machine

open Sys2Proof.Machine

/-- Settles O2: an empty queue leaves `step` only its tick, which is one more on the clock. -/
theorem emptyQueueLetsOneMillisecondPass : Obligations.EmptyQueueLetsOneMillisecondPass := by
  intro s hq
  rw [step_of_pending_nil hq, State.tick_eq]

end

section
/-! What every claim inside the part keeps of the host's side: parameters, link rate, receiver and inbound buffer stand,
reports are only added, and table, room and hush list keep their laws. -/

namespace Sys2Proof.Machine

open Sys2Proof.Statements

/-- Occupied and reserved slots of the report queue together (R162). -/
def State.used (s : State) : Nat := s.reports.length + s.reserved

theorem State.roomLaw_iff (s : State) : RoomLaw s ↔ s.used ≤ 48 := Iff.rfl

theorem State.room_eq (s : State) : s.room = 48 - s.used := by
  simp only [State.room, State.used, Config.reportSlots]
  omega

/-- A report that carries no rate and has the outcome and the tag that the manual allows it. -/
def Report.Plain (r : Report) : Prop :=
  r.rateAfter = none ∧ r.outcomeLegal = true ∧ r.tagLegal = true

/-- What a claim inside the part does on the host's side. Reports with their rates, outcomes and tags are added; that
table, room and reports stay lawful rests on the table law. -/
structure Quiet (s t : State) : Prop where
  params : t.params = s.params
  linkRate : t.linkRate = s.linkRate
  rx : t.rx = s.rx
  inbound : t.inbound = s.inbound
  reports : ∃ rs, t.reports = s.reports ++ rs ∧ (∀ r ∈ rs, r.rateAfter = none) ∧
    (TableLaw s → ∀ r ∈ rs, r.Plain)
  table : TableLaw s → TableLaw t
  used : TableLaw s → s.used ≤ t.used
  room : TableLaw s → RoomLaw s → RoomLaw t
  hush : HushLaw s → HushLaw t

namespace Quiet

/-- A claim that touches only lines, roster, serials and clock. -/
theorem inner {s t : State} (hp : t.params = s.params) (hl : t.linkRate = s.linkRate) (hx : t.rx = s.rx)
    (hi : t.inbound = s.inbound) (hr : t.reports = s.reports) (ht : t.table = s.table)
    (hs : t.stop = s.stop) (hh : t.hush = s.hush) : Quiet s t := by
  have hu : t.used = s.used := by simp only [State.used, State.reserved, hr, ht, hs]
  refine ⟨hp, hl, hx, hi, ⟨[], by simp [hr]⟩, ?_, fun _ => hu.ge, ?_, ?_⟩
  · simp only [TableLaw, ht, hs, imp_self]
  · rw [State.roomLaw_iff, State.roomLaw_iff, hu]
    exact fun _ h => h
  · simp only [HushLaw, hh, imp_self]

theorem refl (s : State) : Quiet s s := inner rfl rfl rfl rfl rfl rfl rfl rfl

theorem trans {s t u : State} (h : Quiet s t) (k : Quiet t u) : Quiet s u := by
  obtain ⟨rs, hrs, hrate, hlegal⟩ := h.reports
  obtain ⟨ps, hps, krate, klegal⟩ := k.reports
  refine ⟨k.params.trans h.params, k.linkRate.trans h.linkRate, k.rx.trans h.rx, k.inbound.trans h.inbound,
    ⟨rs ++ ps, by rw [hps, hrs, List.append_assoc], ?_, ?_⟩, fun ht => k.table (h.table ht),
    fun ht => (h.used ht).trans (k.used (h.table ht)), fun ht hr => k.room (h.table ht) (h.room ht hr),
    fun hh => k.hush (h.hush hh)⟩
  · exact fun r hr => (List.mem_append.mp hr).elim (hrate r) (krate r)
  · exact fun ht r hr => (List.mem_append.mp hr).elim (hlegal ht r) (klegal (h.table ht) r)

variable {s t : State}

/-! ## Lines, entries, the hush list -/

theorem modLine (h : Quiet s t) (l : Line) (f : LineState → LineState) : Quiet s (t.modLine l f) :=
  h.trans (inner (by simp) (by simp) (by simp) (by simp) (by simp) (by simp) (by simp) (by simp))

theorem roster (h : Quiet s t) (es : List Entry) (n : Nat) :
    Quiet s { t with roster := es, nextSerial := n } :=
  h.trans (inner rfl rfl rfl rfl rfl rfl rfl rfl)

theorem updEntry (h : Quiet s t) (n : Nat) (f : Entry → Entry) : Quiet s (t.updEntry n f) :=
  h.trans (inner rfl rfl rfl rfl rfl rfl rfl rfl)

theorem updNamed (h : Quiet s t) (i : Ident) (f : Entry → Entry) : Quiet s (t.updNamed i f) :=
  h.trans (inner rfl rfl rfl rfl rfl rfl rfl rfl)

theorem clock (h : Quiet s t) (c : Clock) : Quiet s { t with clock := c } :=
  h.trans (inner rfl rfl rfl rfl rfl rfl rfl rfl)

theorem hushList (h : Quiet s t) {hs : List HushRec}
    (hh : HushLaw t → hs.length ≤ Config.hushMax ∧ (hs.map (·.identity)).Nodup) :
    Quiet s { t with hush := hs } :=
  h.trans ⟨rfl, rfl, rfl, rfl, ⟨[], by simp⟩, id, fun _ => le_rfl, fun _ => id, hh⟩

/-- A hush list that lost records is lawful still. -/
theorem hushSublist (h : Quiet s t) {hs : List HushRec} (hsub : hs.Sublist t.hush) :
    Quiet s { t with hush := hs } :=
  h.hushList fun ⟨hlen, hnodup⟩ => ⟨hsub.length_le.trans hlen, (hsub.map _).nodup hnodup⟩

end Quiet

/-! ## Reports added -/

/-- The table law looks at the table and the stop record alone. -/
theorem TableLaw.congr {s t : State} (ht : t.table = s.table) (hs : t.stop = s.stop) (h : TableLaw s) :
    TableLaw t := by
  simpa only [TableLaw, ht, hs] using h

theorem State.used_push (s : State) (tag : Tag) (b : ReportBody) : (s.push tag b).used = s.used + 1 := by
  simp only [State.used, State.reserved_push, State.push_reports, List.length_append, List.length_singleton]
  omega

/-- A request that leaves the table frees exactly the slot reserved for it (R149, R150). -/
theorem length_filter_tag {ts : List Req} (hn : (ts.map (·.tag)).Nodup) {tag : Tag}
    (hm : ∃ q ∈ ts, q.tag = tag) : (ts.filter (·.tag != tag)).length + 1 = ts.length := by
  have hone : ts.countP (·.tag == tag) = 1 := by
    have := List.count_eq_one_of_mem hn (List.mem_map.mpr hm)
    rwa [List.count_eq_countP, List.countP_map] at this
  have hsplit := List.length_eq_countP_add_countP (fun q : Req => q.tag == tag) (l := ts)
  have hrest : ts.countP (fun q => decide ¬(q.tag == tag) = true) = (ts.filter (·.tag != tag)).length := by
    rw [List.countP_eq_length_filter]
    congr 2
    funext q
    simp [bne, Bool.beq_eq_decide_eq]
  omega

namespace Quiet

variable {s t : State}

/-- A report joins the tail while a slot is unreserved. -/
theorem push (h : Quiet s t) {tag : Tag} {b : ReportBody} (hr : 1 ≤ t.room)
    (hl : TableLaw t → Report.Plain ⟨tag, b, none⟩) : Quiet s (t.push tag b) := by
  refine h.trans ⟨rfl, rfl, rfl, rfl, ⟨[⟨tag, b, none⟩], rfl, by simp, fun ht => by simpa using hl ht⟩, id,
    fun _ => ?_, fun _ _ => ?_, id⟩
  · rw [State.used_push]; omega
  · rw [State.roomLaw_iff, State.used_push]
    rw [State.room_eq] at hr
    omega

/-- An event is brought with the tag that is its own (R164, R165). -/
theorem pushEvent (h : Quiet s t) {tag : Tag} {e : Event}
    (hl : ∀ d, Report.tagLegal ⟨tag, .event d e, none⟩ = true) : Quiet s (t.pushEvent tag e) := by
  unfold State.pushEvent
  split
  · rename_i hroom
    have hp : Quiet s (t.push tag (.event t.dropped e)) :=
      h.push (by simp only [Config.eventRoom] at hroom; omega) fun _ => ⟨rfl, rfl, hl _⟩
    exact hp.trans (inner rfl rfl rfl rfl rfl rfl rfl rfl)
  · exact h.trans (inner rfl rfl rfl rfl rfl rfl rfl rfl)

theorem pushLineEvents (h : Quiet s t) {es : List Event}
    (hl : ∀ e ∈ es, ∀ d, Report.tagLegal ⟨0, .event d e, none⟩ = true) :
    Quiet s (t.pushLineEvents es) := by
  unfold State.pushLineEvents
  induction es generalizing t with
  | nil => exact h
  | cons e es ih =>
    exact ih (h.pushEvent (hl e (by simp))) fun x hx => hl x (List.mem_cons_of_mem e hx)

/-- The CLOSED of a STOP takes the slot that the stop record held (R155). -/
theorem settleStop (h : Quiet s t) : Quiet s t.settleStop := by
  unfold State.settleStop
  split
  · rename_i r hstop
    split
    · refine h.trans ⟨rfl, rfl, rfl, rfl, ⟨[_], rfl, by simp, fun ht => ?_⟩, ?_, fun _ => ?_, fun _ hr => ?_, id⟩
      · have htag : r.tag ≠ 0 := (ht.2.2.2 r hstop).1
        simpa [Report.Plain, Report.outcomeLegal, Report.tagLegal, CloseResult.kind, LongKind.closesWith]
          using htag
      · exact fun ⟨hlen, hnodup, hzero, _⟩ => ⟨hlen, hnodup, hzero, fun _ hn => nomatch hn⟩
      · simp [State.used, State.reserved, hstop]
        omega
      · simp [RoomLaw, State.reserved, hstop] at hr ⊢
        omega
    · exact h
  · exact h

/-- A CLOSED takes the slot reserved for its request, and so does that of a STOP behind it (R149, R155). -/
theorem close (h : Quiet s t) (tag : Tag) {o : CloseOutcome} {r : CloseResult}
    (hl : r.kind.closesWith o = true) : Quiet s (t.close tag o r) := by
  unfold State.close
  split
  · rename_i hopen
    have hmem : ∃ q ∈ t.table, q.tag = tag := by simpa using hopen
    have hused : TableLaw t →
        (({ t with table := t.table.filter (·.tag != tag) } : State).push tag (.closed o r)).used = t.used := by
      intro ht
      have := length_filter_tag ht.2.1 hmem
      rw [State.used_push]
      change t.reports.length + ((t.table.filter (·.tag != tag)).length + if t.stop.isSome then 1 else 0) + 1 =
        t.reports.length + (t.table.length + if t.stop.isSome then 1 else 0)
      omega
    refine (h.trans ?_).settleStop
    refine ⟨rfl, rfl, rfl, rfl, ⟨[_], rfl, by simp, fun ht => ?_⟩, fun ht => ?_, fun ht => (hused ht).ge,
      fun ht hr => by rwa [State.roomLaw_iff, hused ht], id⟩
    · obtain ⟨q, hq, rfl⟩ := hmem
      simpa [Report.Plain, Report.outcomeLegal, Report.tagLegal, hl] using ht.2.2.1 q hq
    · obtain ⟨hlen, hnodup, hzero, hstop⟩ := ht
      have hsub : (t.table.filter (·.tag != tag)).Sublist t.table := List.filter_sublist
      exact ⟨hsub.length_le.trans hlen, (hsub.map _).nodup hnodup, fun q hq => hzero q (hsub.subset hq),
        fun r hr => ⟨(hstop r hr).1, fun q hq => (hstop r hr).2 q (hsub.subset hq)⟩⟩
  · exact h

theorem setReqState (h : Quiet s t) (tag : Tag) (f : ReqState → ReqState) :
    Quiet s (t.setReqState tag f) := by
  have htag : (t.setReqState tag f).table.map (·.tag) = t.table.map (·.tag) := by
    simp only [State.setReqState, List.map_map]
    refine List.map_congr_left fun q _ => ?_
    simp only [Function.comp]
    split <;> rfl
  have hlength : (t.setReqState tag f).table.length = t.table.length := by simp [State.setReqState]
  have hused : (t.setReqState tag f).used = t.used := by
    simp only [State.used, State.reserved, hlength]; rfl
  refine h.trans ⟨rfl, rfl, rfl, rfl, ⟨[], by simp [State.setReqState]⟩, fun ht => ?_, fun _ => hused.ge,
    fun _ hr => by rwa [State.roomLaw_iff, hused], id⟩
  obtain ⟨hlen, hnodup, hzero, hstop⟩ := ht
  have hmem : ∀ q ∈ (t.setReqState tag f).table, ∃ p ∈ t.table, p.tag = q.tag := fun q hq =>
    List.mem_map.mp (htag ▸ List.mem_map_of_mem hq)
  refine ⟨hlength ▸ hlen, htag ▸ hnodup, fun q hq => ?_, fun r hr => ⟨(hstop r hr).1, fun q hq => ?_⟩⟩
  · obtain ⟨p, hp, hpq⟩ := hmem q hq
    exact hpq ▸ hzero p hp
  · obtain ⟨p, hp, hpq⟩ := hmem q hq
    exact hpq ▸ (hstop r hr).2 p hp

end Quiet
end Sys2Proof.Machine
end

section
/-! The claims of roster, census, scheduler, executor and supervisor, one after another: each is quiet on the host's
side. -/

namespace Sys2Proof.Machine

open Sys2Proof.Statements

/-- An outcome that a READ and a WRITE can close with (R167). -/
abbrev CloseOutcome.ofTxn (o : CloseOutcome) : Prop := LongKind.readNode.closesWith o = true

/-! ## The end of a slot in parts -/

/-- The event of a slot is brought, if it has one (R66). -/
def State.tell (s : State) (c : Census) : Option (Nat → Nat → Event) → State
  | some v => s.pushEvent c.tag (v c.roundNumber c.slotIndex)
  | none => s

/-- A counted slot is entered: the round ends, the census halts or goes on (R66, R72). -/
def State.passSlot (s : State) (l : Line) (c : Census) : State :=
  let s := s.modLine l fun L => { L with census := some c }
  if 2 ^ c.exponent ≤ c.slotIndex then s.roundEnd l c
  else
    match c.halt with
    | some m => s.closeCensus l m.outcome
    | none => s

theorem State.slotEnd_of_none {s : State} {l : Line} (h : (s.line l).census = none)
    (event : Option (Nat → Nat → Event)) : s.slotEnd l event = s := by
  simp only [State.slotEnd, h]

theorem State.slotEnd_of_census {s : State} {l : Line} {c : Census} (h : (s.line l).census = some c)
    (event : Option (Nat → Nat → Event)) :
    s.slotEnd l event = (s.tell c event).passSlot l (slotCounted c) := by
  cases event <;> simp only [State.slotEnd, h] <;> rfl

namespace Quiet

variable {s t : State}

/-! ## Transactions -/

theorem closeTxn (h : Quiet s t) (r : Txn) {o : CloseOutcome} (ho : o.ofTxn) (bs : Option (List Byte))
    (c : Option RefusalCode) : Quiet s (t.closeTxn r o bs c) := by
  unfold State.closeTxn
  cases r.work with
  | read off len => exact (h.updNamed _ _).close _ ho
  | write off bytes => exact (h.updNamed _ _).close _ ho
  | release => exact h.updNamed _ _

theorem closeTxns (h : Quiet s t) (rs : List Txn) {o : CloseOutcome} (ho : o.ofTxn) :
    Quiet s (t.closeTxns rs o) := by
  unfold State.closeTxns
  induction rs generalizing t with
  | nil => exact h
  | cons r rs ih => exact ih (h.closeTxn r ho none none)

theorem setQueue (h : Quiet s t) (l : Line) (q : List Txn) : Quiet s (t.setQueue l q) := h.modLine l _

theorem purge (h : Quiet s t) (l : Line) (i : Ident) : Quiet s (t.purge l i) :=
  (h.setQueue l _).closeTxns _ rfl

theorem haltOutcome_ofTxn (m : Halt) : m.outcome.ofTxn := by cases m <;> rfl

theorem haltTxn (h : Quiet s t) (l : Line) (tag : Tag) (m : Halt) : Quiet s (t.haltTxn l tag m) := by
  unfold State.haltTxn
  split
  · exact h
  · split
    · exact (h.setQueue l _).setReqState _ _
    · exact (h.setQueue l _).closeTxn _ (haltOutcome_ofTxn m) none none

theorem haltForget (h : Quiet s t) (l : Line) (tag : Tag) (i : Ident) (m : Halt) :
    Quiet s (t.haltForget l tag i m) := by
  unfold State.haltForget
  split
  · exact ((h.setQueue l _).updNamed i _).close _ (by cases m <;> rfl)
  · exact h

/-! ## The roster -/

theorem closeForget (h : Quiet s t) (tag : Tag) (i : Ident) (d : ForgetDetail) :
    Quiet s (t.closeForget tag i d) := h.close tag rfl

theorem removeEntry (h : Quiet s t) (e : Entry) : Quiet s (t.removeEntry e) := by
  have hr := h.roster (t.roster.filter (·.serial != e.serial)) t.nextSerial
  unfold State.removeEntry
  dsimp only
  split
  · exact hr.modLine _ _
  · exact hr

theorem quarantineAddress (h : Quiet s t) (l : Line) (a lease : Nat) (o : Option Ident) :
    Quiet s (t.quarantineAddress l a lease o) := by
  unfold State.quarantineAddress
  exact h.modLine l _

theorem giveBack (h : Quiet s t) (l : Line) (addrs : List Address) : Quiet s (t.giveBack l addrs) :=
  h.modLine l _

theorem countOut (h : Quiet s t) (e : Entry) : Quiet s (t.countOut e) := by
  unfold State.countOut
  split
  · split
    · exact ((h.quarantineAddress _ _ _ _).purge _ _).updEntry _ _
    · exact (((h.quarantineAddress _ _ _ _).purge _ _).removeEntry e).closeForget _ _ _
  · exact h

/-- The NODE_LOST of a loss carries tag 0 (R165). -/
theorem lossEvents_tagLegal (e : Entry) (c : LossCause) :
    ∀ x ∈ e.lossEvents c, ∀ d, Report.tagLegal ⟨0, .event d x, none⟩ = true := by
  intro x hx d
  unfold Entry.lossEvents at hx
  split at hx
  · rw [List.mem_singleton.mp hx]; rfl
  · exact nomatch hx

theorem answered (h : Quiet s t) (n : Nat) (flag : Option Bool) : Quiet s (t.answered n flag) :=
  h.updEntry n _

theorem miss (h : Quiet s t) (n : Nat) (c : LossCause) : Quiet s (t.miss n c) := by
  unfold State.miss
  split
  · split
    · split
      · exact (h.countOut _).pushLineEvents (lossEvents_tagLegal _ c)
      · exact h.updEntry _ _
    · exact h
  · exact h

theorem limitSweep (h : Quiet s t) (limit : Nat) : Quiet s (t.limitSweep limit) := by
  have hout : ∀ (es : List Entry) {u : State}, Quiet s u → Quiet s (es.foldl State.countOut u) := by
    intro es
    induction es with
    | nil => exact fun hu => hu
    | cons e es ih => exact fun hu => ih (hu.countOut e)
  refine (hout _ h).pushLineEvents fun x hx => ?_
  obtain ⟨e, -, he⟩ := List.mem_flatMap.mp hx
  exact lossEvents_tagLegal e .limit x he

theorem hushRemove (h : Quiet s t) (i : Ident) : Quiet s (t.hushRemove i) :=
  h.hushSublist List.filter_sublist

theorem createEntry (h : Quiet s t) (l : Line) (i : Ident) (mem : Nat) :
    Quiet s (t.createEntry l i mem).1 := by
  unfold State.createEntry
  dsimp only
  split
  · exact ((h.modLine l _).roster _ _).hushRemove i
  · exact h.roster _ _

theorem bindEntry (h : Quiet s t) (e : Entry) (l : Line) (mem : Nat) (v : Address → Nat → FindEvent) :
    Quiet s (t.bindEntry e l mem v).1 := by
  unfold State.bindEntry
  split
  · exact ((h.modLine l _).updEntry _ _).hushRemove _
  · exact h.updEntry _ _

theorem forgottenFound (h : Quiet s t) (e : Entry) (a : Address) (tag : Tag) :
    Quiet s (t.forgottenFound e a tag) :=
  (((h.giveBack _ _).purge _ _).removeEntry e).closeForget _ _ _

theorem releaseEarly (h : Quiet s t) (l : Line) (a : Address) : Quiet s (t.releaseEarly l a) := by
  unfold State.releaseEarly
  exact h.modLine l _

theorem releaseHeld (h : Quiet s t) (l : Line) (x : Option Address) : Quiet s (t.releaseHeld l x) := by
  cases x with
  | none => exact h
  | some a => exact h.releaseEarly l a

theorem find (h : Quiet s t) (l : Line) (i : Ident) (mem : Nat) : Quiet s (t.find l i mem).1 := by
  unfold State.find
  split
  · split
    · exact h.createEntry l i mem
    · exact h
  · split
    · split
      · split
        · exact h.forgottenFound _ _ _
        · exact (h.giveBack _ _).bindEntry _ _ _ _
      · exact h
    · dsimp only
      split
      · exact (h.releaseHeld _ _).bindEntry _ _ _ _
      · exact (h.releaseHeld _ _).bindEntry _ _ _ _

theorem bindOutcome (h : Quiet s t) (n : Nat) (b : Bool) : Quiet s (t.bindOutcome n b) := by
  unfold State.bindOutcome
  split
  · split
    · split
      · exact h.updEntry _ _
      · exact h.countOut _
    · exact h
  · exact h

theorem removal (h : Quiet s t) (i : Ident) (tag : Tag) (b : Bool) : Quiet s (t.removal i tag b) := by
  unfold State.removal
  split
  · split
    · split
      · exact ((h.giveBack _ _).removeEntry _).closeForget _ _ _
      · exact ((h.quarantineAddress _ _ _ _).removeEntry _).closeForget _ _ _
    · exact h
  · exact h

theorem powerLost (h : Quiet s t) (e : Entry) : Quiet s (t.powerLost e) := by
  unfold State.powerLost
  split
  · split
    · exact (h.giveBack _ _).updEntry _ _
    · exact ((h.giveBack _ _).removeEntry _).closeForget _ _ _
  · exact h

theorem rosterDown (h : Quiet s t) (l : Line) : Quiet s (t.rosterDown l) := by
  have hlost : ∀ (es : List Entry) {u : State}, Quiet s u → Quiet s (es.foldl State.powerLost u) := by
    intro es
    induction es with
    | nil => exact fun hu => hu
    | cons e es ih => exact fun hu => ih (hu.powerLost e)
  unfold State.rosterDown State.clearHeld State.emptyQuarantine
  exact ((hlost (t.boundEntries l) h).roster _ (State.nextSerial _)).modLine l _

/-! ## The census -/

theorem modCensus (h : Quiet s t) (l : Line) (f : Census → Census) : Quiet s (t.modCensus l f) :=
  h.modLine l _

theorem closeCensus (h : Quiet s t) (l : Line) {o : CloseOutcome}
    (ho : LongKind.census.closesWith o = true) : Quiet s (t.closeCensus l o) := by
  unfold State.closeCensus
  split
  · exact (h.modLine l _).close _ ho
  · exact h

theorem haltOutcome_ofCensus (m : Halt) : LongKind.census.closesWith m.outcome = true := by
  cases m <;> rfl

theorem haltCensus (h : Quiet s t) (l : Line) (m : Halt) : Quiet s (t.haltCensus l m) := by
  unfold State.haltCensus
  split
  · split
    · exact h
    · split
      · exact (h.modCensus l _).setReqState _ _
      · exact h.closeCensus l (haltOutcome_ofCensus m)
  · exact h

theorem roundEnd (h : Quiet s t) (l : Line) (c : Census) : Quiet s (t.roundEnd l c) := by
  have hp : Quiet s (t.pushEvent c.tag (c.summary t.params)) := h.pushEvent fun _ => rfl
  unfold State.roundEnd
  dsimp only
  split
  · exact hp.closeCensus l (haltOutcome_ofCensus _)
  · split
    · exact hp.closeCensus l rfl
    · split
      · exact hp.closeCensus l rfl
      · exact hp.modCensus l _

/-- No event of a slot is a line event, so any tag is legal for it (R165). -/
abbrev SlotEvent (e : Event) : Prop := ∀ tag d, Report.tagLegal ⟨tag, .event d e, none⟩ = true

theorem slotEnd (h : Quiet s t) (l : Line) {event : Option (Nat → Nat → Event)}
    (hv : ∀ v ∈ event, ∀ r k, SlotEvent (v r k)) : Quiet s (t.slotEnd l event) := by
  cases hc : (t.line l).census with
  | none => rwa [State.slotEnd_of_none hc]
  | some c =>
    have hq : Quiet s (t.tell c event) := by
      cases event with
      | none => exact h
      | some v => exact h.pushEvent fun d => hv v rfl _ _ _ d
    rw [State.slotEnd_of_census hc, State.passSlot]
    split
    · exact (hq.modLine l _).roundEnd l _
    · split
      · exact (hq.modLine l _).closeCensus l (haltOutcome_ofCensus _)
      · exact hq.modLine l _

/-! ## Scheduler and arbiter -/

theorem startCycle (h : Quiet s t) (l : Line) : Quiet s (t.startCycle l) := by
  unfold State.startCycle
  exact h.modLine l _

theorem finishCycle (h : Quiet s t) (l : Line) : Quiet s (t.finishCycle l) := by
  unfold State.finishCycle
  split
  · split
    · exact (h.modLine l _).startCycle l
    · exact h.modLine l _
  · exact h

theorem settleLine (h : Quiet s t) (l : Line) : Quiet s (t.settleLine l) := by
  unfold State.settleLine State.settleCounts
  split
  · exact (h.finishCycle l).modLine l _
  · exact h.modLine l _

theorem settle (h : Quiet s t) : Quiet s t.settle := (h.settleLine .A).settleLine .B

/-! ## The supervisor -/

theorem closePower (h : Quiet s t) (l : Line) {o : CloseOutcome} (p : LinePower) (n : Nat)
    (ho : LongKind.linePower.closesWith o = true) : Quiet s (t.closePower l o p n) := by
  unfold State.closePower
  split
  · exact (h.modLine l _).close _ ho
  · exact h

theorem queueDown (h : Quiet s t) (l : Line) : Quiet s (t.queueDown l) := (h.setQueue l []).closeTxns _ rfl

theorem lineDown (h : Quiet s t) (l : Line) : Quiet s (t.lineDown l) := by
  unfold State.lineDown State.engineDown
  exact (((h.rosterDown l).closeCensus l (o := .lineDown) rfl).queueDown l).modLine l _

theorem goOff (h : Quiet s t) (l : Line) : Quiet s (t.goOff l) :=
  ((h.modLine l _).lineDown l).closePower l _ _ rfl

theorem endOp (h : Quiet s t) (l : Line) : Quiet s (t.endOp l) := by
  have hop : Quiet s (t.modLine l fun L => { L with op := none }) := h.modLine l _
  unfold State.endOp
  dsimp only
  split
  · exact hop.goOff l
  · exact hop

theorem tripUp (h : Quiet s t) (l : Line) : Quiet s (t.tripUp l) := by
  have hdown : Quiet s ((t.unpower l .fault).lineDown l) := (h.modLine l _).lineDown l
  unfold State.tripUp
  dsimp only
  split
  · exact (hdown.pushEvent fun _ => rfl).closePower l _ _ rfl
  · exact hdown.pushEvent fun _ => rfl

theorem actPower (h : Quiet s t) (l : Line) (d : Direction) (tag : Tag) : Quiet s (t.actPower l d tag) := by
  unfold State.actPower
  split
  · exact h.modLine l _
  · exact h.modLine l _
  · exact h.close tag rfl
  · exact h.close tag rfl
  · exact h.close tag rfl
  · dsimp only
    split
    · exact h.modLine l _
    · exact (h.modLine l _).goOff l
  · exact ((h.modLine l _).closePower l _ _ rfl).close tag rfl
  · exact h.modLine l _

end Quiet
end Sys2Proof.Machine
end

section
/-! The commands of the lines: each is quiet on the host's side. And the inversion of a frame handled: it is quiet, or an
accepted SET_PARAM, or a RESET. -/

namespace Sys2Proof.Machine

open Sys2Proof.Statements

/-- A hush record entered keeps the hush law (R82, R84). -/
theorem hushEnter_lawful {hs : List HushRec} (h : HushRec) (hlen : hs.length ≤ 16)
    (hn : (hs.map (·.identity)).Nodup) :
    (hushEnter hs h).length ≤ 16 ∧ ((hushEnter hs h).map (·.identity)).Nodup := by
  have hadd : ∀ front : List HushRec, front.Sublist hs → (∀ x ∈ front, x.identity ≠ h.identity) →
      ((front ++ [h]).map (·.identity)).Nodup := by
    intro front hf hne
    rw [List.map_append, List.nodup_append]
    refine ⟨(hf.map _).nodup hn, by simp, ?_⟩
    simp only [List.mem_map, List.map_cons, List.map_nil, List.mem_singleton]
    rintro _ ⟨x, hx, rfl⟩ _ rfl
    exact hne x hx
  unfold hushEnter
  split
  · rename_i hany
    have hlt : (hushWithout hs h.identity).length < hs.length := by
      obtain ⟨x, hx, hxi⟩ := List.any_eq_true.mp hany
      exact List.length_filter_lt_length_iff_exists.mpr ⟨x, hx, by simpa using hxi⟩
    refine ⟨by rw [List.length_append, List.length_singleton]; omega, hadd _ List.filter_sublist ?_⟩
    intro x hx
    simpa using (List.mem_filter.mp hx).2
  · rename_i hnone
    have hne : ∀ x ∈ hs, x.identity ≠ h.identity := by simpa using hnone
    split
    · rename_i hlt
      exact ⟨by rw [List.length_append, List.length_singleton]; exact hlt, hadd hs (.refl hs) hne⟩
    · refine ⟨?_, hadd _ (List.tail_sublist hs) fun x hx => hne x (List.mem_of_mem_tail hx)⟩
      rw [List.length_append, List.length_tail, List.length_singleton]
      rename_i hfull
      simp only [Config.hushMax] at hfull
      omega

namespace Quiet

variable {s t u : State}

/-! ## Grants and calls -/

theorem beginOp (h : Quiet s t) (l : Line) (w : OpWork) (c : Call) : Quiet s (t.beginOp l w c) := by
  unfold State.beginOp
  exact h.modLine l _

theorem setRunning (h : Quiet s t) (tag : Tag) : Quiet s (t.setRunning tag) := h.setReqState tag _

theorem beginAttempt (h : Quiet s t) {l : Line} (hu : t.beginAttempt l = some u) : Quiet s u := by
  unfold State.beginAttempt at hu
  split at hu
  · split at hu
    · obtain rfl := Option.some.inj hu
      exact ((h.setQueue l _).beginOp l _ _).setRunning _
    · exact nomatch hu
  · exact nomatch hu

theorem beginPoll (h : Quiet s t) {l : Line} (hu : t.beginPoll l = some u) : Quiet s u := by
  unfold State.beginPoll at hu
  split at hu
  · split at hu
    · split at hu
      · split at hu
        · obtain rfl := Option.some.inj hu
          exact (h.modLine l _).beginOp l _ _
        · exact nomatch hu
      · exact nomatch hu
    · exact nomatch hu
  · exact nomatch hu

theorem beginSlot (h : Quiet s t) {l : Line} (hu : t.beginSlot l = some u) : Quiet s u := by
  unfold State.beginSlot at hu
  split at hu
  · split at hu
    · obtain rfl := Option.some.inj hu
      exact ((h.modCensus l _).beginOp l _ _).setRunning _
    · obtain rfl := Option.some.inj hu
      exact (h.beginOp l _ _).setRunning _
  · exact nomatch hu

theorem lineGrant (h : exec (.lineGrant l) s = .next t) : Quiet s t := by
  simp only [exec, execLineGrant] at h
  split at h
  · split at h
    · rename_i c _
      split at h
      · rename_i u hu
        obtain rfl := Host.Outcome.next.inj h
        have hq : Quiet s u := by
          cases c with
          | executor => exact (refl s).beginAttempt hu
          | scheduler => exact (refl s).beginPoll hu
          | sequencer => exact (refl s).beginSlot hu
        unfold State.countGrant
        exact hq.modLine l _
      · exact Host.Outcome.next.inj h ▸ refl s
    · exact Host.Outcome.next.inj h ▸ refl s
  · exact Host.Outcome.next.inj h ▸ refl s

theorem hushClaim (h : Quiet s t) (i : Ident) (l : Line) (r : HushReason) (n : Nat) :
    Quiet s (t.hushClaim i l r n) := by
  unfold State.hushClaim
  exact h.hushList fun ⟨hlen, hn⟩ => hushEnter_lawful _ hlen hn

theorem callEffect (h : Quiet s t) (l : Line) (o : LineOp) : Quiet s (t.callEffect l o) := by
  unfold State.callEffect
  split
  · unfold State.extendQuarantine
    exact (h.modLine l _).modLine l _
  · exact (h.hushClaim _ _ _ _).modLine l _
  · exact h

theorem callSent (h : exec (.callSent l) s = .next t) : Quiet s t := by
  simp only [exec, execCallSent] at h
  split at h
  · split at h
    · exact Host.Outcome.next.inj h ▸ refl s
    · exact Host.Outcome.next.inj h ▸ ((refl s).modLine l _).callEffect l _
  · exact Host.Outcome.next.inj h ▸ refl s

/-! ## Windows of a slot -/

theorem countWindow (h : Quiet s t) (l : Line) (w : WindowClass) : Quiet s (t.countWindow l w) :=
  h.modLine l _

theorem countMismatch (h : Quiet s t) (l : Line) (b : Bool) : Quiet s (t.countMismatch l b) := by
  unfold State.countMismatch
  split
  · exact h.modLine l _
  · exact h

theorem finishSlot (h : Quiet s t) (l : Line) {event : Option (Nat → Nat → Event)}
    (hv : ∀ v ∈ event, ∀ r k, SlotEvent (v r k)) : Quiet s (t.finishSlot l event) :=
  (h.slotEnd l hv).endOp l

theorem noSlotEvent : ∀ v ∈ (none : Option (Nat → Nat → Event)), ∀ r k, SlotEvent (v r k) :=
  fun _ h => nomatch h

theorem findEvent_slotEvent (v : FindEvent) (r k : Nat) : SlotEvent (v.report r k) := by
  intro tag d
  cases v <;> rfl

theorem slotWindow (h : exec (.slotWindow l x) s = .next t) : Quiet s t := by
  simp only [exec, execSlotWindow] at h
  split at h
  · rename_i o _
    have hc : Quiet s (s.countWindow l (o.call.classify x)) := (refl s).countWindow l _
    split at h
    · rw [← Host.Outcome.next.inj h]
      unfold State.openingWindow
      split
      · exact (hc.modCensus l _).finishSlot l noSlotEvent
      · exact (hc.modCensus l _).beginOp l _ _
      · exact (hc.modCensus l _).finishSlot l noSlotEvent
    · exact Host.Outcome.next.inj h ▸ refl s
  · exact Host.Outcome.next.inj h ▸ refl s

theorem claimHeard (h : Quiet s t) (l : Line) (k : Handle) (w : WindowClass) :
    Quiet s (t.claimHeard l k w) := by
  have hc : Quiet s (t.countWindow l w) := h.countWindow l w
  unfold State.claimHeard
  dsimp only
  split
  · rename_i i mem
    split
    · have hf : Quiet s ((t.countWindow l (.valid (.identity i mem))).find l i mem).1 := hc.find l i mem
      split
      · rename_i heq
        rw [heq] at hf
        exact hf.beginOp l _ _
      · rename_i heq
        rw [heq] at hf
        exact hf.beginOp l _ _
    · exact (hc.modCensus l _).finishSlot l noSlotEvent
  · exact (hc.modCensus l _).finishSlot l noSlotEvent

theorem claimWindow (h : exec (.claimWindow l x) s = .next t) : Quiet s t := by
  simp only [exec, execClaimWindow] at h
  split at h
  · split at h
    · exact Host.Outcome.next.inj h ▸ ((refl s).claimHeard l _ _).settle
    · exact Host.Outcome.next.inj h ▸ refl s
  · exact Host.Outcome.next.inj h ▸ refl s

theorem bindHeard (h : Quiet s t) (l : Line) (n : Nat) (i : Ident) (mem : Nat) (v : FindEvent)
    (a : Address) (w : WindowClass) : Quiet s (t.bindHeard l n i mem v a w) := by
  have hc := (h.countWindow l w).countMismatch l (mismatch w i)
  unfold State.bindHeard
  dsimp only
  split
  · refine ((hc.bindOutcome n true).settle.modCensus l _).finishSlot l fun x hx => ?_
    obtain rfl := Option.some.inj hx
    exact findEvent_slotEvent v
  · refine ((hc.bindOutcome n false).settle.modCensus l _).finishSlot l fun x hx => ?_
    obtain rfl := Option.some.inj hx
    exact fun _ _ _ _ => rfl

theorem bindOutcomeWindow (h : exec (.bindOutcome l x) s = .next t) : Quiet s t := by
  simp only [exec, execBindOutcome] at h
  split at h
  · split at h
    · exact Host.Outcome.next.inj h ▸ (refl s).bindHeard l _ _ _ _ _ _
    · exact Host.Outcome.next.inj h ▸ refl s
  · exact Host.Outcome.next.inj h ▸ refl s

theorem hushWindow (h : exec (.hushWindow l x) s = .next t) : Quiet s t := by
  simp only [exec, execHushWindow] at h
  split at h
  · split at h
    · rename_i v m _
      refine Host.Outcome.next.inj h ▸ (((refl s).countWindow l _).modCensus l _).finishSlot l fun y hy => ?_
      cases m
      · obtain ⟨f, -, rfl⟩ := Option.map_eq_some_iff.mp hy
        exact findEvent_slotEvent f
      · exact nomatch hy
    · exact Host.Outcome.next.inj h ▸ refl s
  · exact Host.Outcome.next.inj h ▸ refl s

/-! ## Windows of polls and attempts -/

theorem reportAttention (h : Quiet s t) (l : Line) (e : Entry) (a : Address) (b : Bool) :
    Quiet s (t.reportAttention l e a b) := by
  unfold State.reportAttention
  split
  · exact h.pushEvent fun _ => rfl
  · exact h

theorem pollHeard (h : Quiet s t) (l : Line) (n : Nat) (i : Ident) (a : Address) (w : WindowClass) :
    Quiet s (t.pollHeard l n i a w) := by
  have hc := (h.countWindow l w).countMismatch l (mismatch w i)
  unfold State.pollHeard
  dsimp only
  split
  · split
    · split
      · split
        · exact (hc.answered n _).reportAttention l _ a _
        · exact hc
      · exact hc
    · exact hc.miss n .poll
  · exact hc.miss n .poll

theorem pollWindow (h : exec (.pollWindow l x) s = .next t) : Quiet s t := by
  simp only [exec, execPollWindow] at h
  split at h
  · split at h
    · exact Host.Outcome.next.inj h ▸ (((refl s).pollHeard l _ _ _ _).endOp l).settle
    · exact Host.Outcome.next.inj h ▸ refl s
  · exact Host.Outcome.next.inj h ▸ refl s

theorem answeredNamed (h : Quiet s t) (i : Ident) : Quiet s (t.answeredNamed i) := by
  unfold State.answeredNamed
  split
  · exact h.answered _ _
  · exact h

theorem missNamed (h : Quiet s t) (i : Ident) (c : LossCause) : Quiet s (t.missNamed i c) := by
  unfold State.missNamed
  split
  · exact h.miss _ _
  · exact h

theorem retryOrClose (h : Quiet s t) (l : Line) (r : Txn) (rest : List Txn) {o : CloseOutcome}
    (ho : o.ofTxn) : Quiet s (t.retryOrClose l r rest o) := by
  unfold State.retryOrClose
  split
  · exact (h.setQueue l _).closeTxn r (haltOutcome_ofTxn _) none none
  · split
    · exact h.setQueue l _
    · have hc := (h.setQueue l rest).closeTxn r ho none none
      dsimp only
      split
      · exact hc.missNamed _ _
      · exact hc

theorem attemptJudged (h : Quiet s t) (l : Line) (r : Txn) (rest : List Txn) (w : WindowClass) :
    Quiet s (t.attemptJudged l r rest w) := by
  have hc := h.countMismatch l (mismatch w r.target)
  unfold State.attemptJudged
  dsimp only
  split
  · exact ((hc.answeredNamed _).setQueue l _).closeTxn _ rfl _ _
  · exact ((hc.answeredNamed _).setQueue l _).closeTxn _ rfl _ _
  · exact (hc.answeredNamed _).retryOrClose l _ _ rfl
  · exact hc.retryOrClose l _ _ rfl

theorem attemptWindow (h : exec (.attemptWindow l x) s = .next t) : Quiet s t := by
  simp only [exec, execAttemptWindow] at h
  split at h
  · rename_i o _
    split at h
    · have hc : Quiet s (s.countWindow l (o.call.classify x)) := (refl s).countWindow l _
      have ha : Quiet s (s.attemptHeard l (o.call.classify x)) := by
        unfold State.attemptHeard
        dsimp only
        split
        · split
          · exact hc.attemptJudged l _ _ _
          · exact hc
        · exact hc
      exact Host.Outcome.next.inj h ▸ ha.settle.endOp l
    · exact Host.Outcome.next.inj h ▸ refl s
  · exact Host.Outcome.next.inj h ▸ refl s

theorem releaseJudged (h : Quiet s t) (l : Line) (r : Txn) (rest : List Txn) (w : WindowClass) :
    Quiet s (t.releaseJudged l r rest w) := by
  have hc := h.countMismatch l (mismatch w r.target)
  unfold State.releaseJudged
  dsimp only
  split
  · exact (hc.setQueue l _).removal _ _ _
  · split
    · exact hc.setQueue l _
    · exact (hc.setQueue l _).removal _ _ _

theorem releaseWindow (h : exec (.releaseWindow l x) s = .next t) : Quiet s t := by
  simp only [exec, execReleaseWindow] at h
  split at h
  · rename_i o _
    split at h
    · have hc : Quiet s (s.countWindow l (o.call.classify x)) := (refl s).countWindow l _
      have ha : Quiet s (s.releaseHeard l (o.call.classify x)) := by
        unfold State.releaseHeard
        dsimp only
        split
        · split
          · exact hc.releaseJudged l _ _ _
          · exact hc
        · exact hc
      exact Host.Outcome.next.inj h ▸ ha.settle.endOp l
    · exact Host.Outcome.next.inj h ▸ refl s
  · exact Host.Outcome.next.inj h ▸ refl s

/-! ## Timers and power -/

theorem pollDue (h : exec (.pollDue l) s = .next t) : Quiet s t := by
  simp only [exec, execPollDue] at h
  split at h
  · rename_i c _
    have hc : Quiet s (s.passTo c.nextDue) := (refl s).clock _
    split at h
    · exact Host.Outcome.next.inj h ▸ hc.modLine l _
    · exact Host.Outcome.next.inj h ▸ hc.startCycle l
  · exact Host.Outcome.next.inj h ▸ refl s

theorem settlingExpiry (h : exec (.settlingExpiry l) s = .next t) : Quiet s t := by
  simp only [exec, execSettlingExpiry] at h
  split at h
  · have hc : ∀ c, Quiet s (s.passTo c) := fun c => (refl s).clock _
    exact Host.Outcome.next.inj h ▸ (((hc _).modLine l _).startCycle l).closePower l _ _ rfl
  · exact Host.Outcome.next.inj h ▸ refl s

theorem overcurrentTrip (h : exec (.overcurrentTrip l) s = .next t) : Quiet s t := by
  simp only [exec, execOvercurrentTrip] at h
  split at h
  · exact Host.Outcome.next.inj h ▸ (refl s).tripUp l
  · exact Host.Outcome.next.inj h ▸ ((refl s).modLine l _).closePower l _ _ rfl
  · exact Host.Outcome.next.inj h ▸ refl s
  · exact Host.Outcome.next.inj h ▸ refl s

theorem expiryClaims (h : Quiet s t) (l : Line) (rs : List QuarantineRec) :
    Quiet s (rs.foldl (fun s r => s.expiryClaim l r) t) := by
  induction rs generalizing t with
  | nil => exact h
  | cons r rs ih =>
    refine ih ?_
    dsimp only
    unfold State.expiryClaim
    split
    · exact h.updNamed _ _
    · exact h

theorem quarantineExpiry (h : exec (.quarantineExpiry l) s = .next t) : Quiet s t := by
  simp only [exec, execQuarantineExpiry] at h
  split at h
  · rw [← Host.Outcome.next.inj h]
    refine expiryClaims ?_ l _
    exact Quiet.modLine ((refl s).clock _) l _
  · exact Host.Outcome.next.inj h ▸ refl s

theorem hushExpiry (h : exec .hushExpiry s = .next t) : Quiet s t := by
  simp only [exec, execHushExpiry] at h
  split at h
  · rw [← Host.Outcome.next.inj h]
    exact Quiet.hushSublist ((refl s).clock _) List.filter_sublist
  · exact Host.Outcome.next.inj h ▸ refl s

end Quiet
end Sys2Proof.Machine
end

section
/-! A frame handled, seen from the host's side: it is quiet, or an accepted SET_PARAM, or a RESET. -/

namespace Sys2Proof.Machine

open Sys2Proof.Statements

/-! ## What the general checks leave (R148) -/

/-- A long request that passes the general checks: its tag is free and not 0, no STOP is open, and the table has room for
one that joins it. -/
theorem State.admissionRefusal_eq_none {s : State} {tag : Tag} {k : LongKind}
    (h : s.admissionRefusal tag k = none) :
    tag ≠ 0 ∧ (∀ q ∈ s.table, q.tag ≠ tag) ∧ s.stop = none ∧ (k ≠ .stop → s.table.length < 24) := by
  unfold State.admissionRefusal at h
  split at h
  · exact nomatch h
  rename_i htag
  split at h
  · exact nomatch h
  rename_i hfree
  split at h
  · exact nomatch h
  rename_i hstop
  split at h
  · exact nomatch h
  rename_i hfull
  rw [Bool.not_eq_true, Bool.or_eq_false_iff] at hfree
  refine ⟨htag, fun q hq => ?_, by simpa using hstop, fun hk => ?_⟩
  · have hnone : s.request tag = none := by simpa using hfree.1
    simpa using List.find?_eq_none.mp hnone q hq
  · by_contra hlen
    exact hfull ⟨hk, by simpa using hlen⟩

/-- A long request passes all its checks when neither the general ones nor its own refuse it. -/
theorem or_eq_none {a b : Option Reason} (h : a.or b = none) : a = none ∧ b = none :=
  Option.or_eq_none_iff.mp h

namespace Quiet

variable {s t : State}

/-! ## Requests answered -/

/-- An answer that is no TAKEN, CLOSED or event joins the tail. -/
theorem reply (h : 2 ≤ s.room) (tag : Tag) {b : ReportBody} (hb : Report.Plain ⟨tag, b, none⟩) :
    Quiet s (s.push tag b) := (refl s).push (by omega) fun _ => hb

theorem refuse (h : 2 ≤ s.room) (f : Frame) (r : Reason) : Quiet s (s.refuse f r) :=
  reply h f.tag ⟨rfl, rfl, rfl⟩

/-- TAKEN and the slot reserved for the CLOSED take the two slots of room that the dispatcher asks for (R144, R149). -/
theorem take (h : 2 ≤ s.room) {r : Req} (hzero : r.tag ≠ 0) (hfree : ∀ q ∈ s.table, q.tag ≠ r.tag)
    (hstop : s.stop = none) (hlen : s.table.length < 24) : Quiet s (s.take r) := by
  have hused : (s.take r).used = s.used + 2 := by
    simp [State.used, State.reserved, State.take, hstop]
    omega
  rw [State.room_eq] at h
  refine ⟨rfl, rfl, rfl, rfl, ⟨[_], rfl, by simp, fun _ => ?_⟩, fun ht => ?_, fun _ => by omega, fun _ _ => ?_, id⟩
  · simpa [Report.Plain, Report.outcomeLegal, Report.tagLegal] using hzero
  · obtain ⟨-, hnodup, hzeros, -⟩ := ht
    refine ⟨by simpa [State.take] using hlen, ?_, ?_, by simp [State.take, hstop]⟩
    · simp only [State.take, List.map_append, List.map_cons, List.map_nil, List.nodup_append]
      exact ⟨hnodup, by simp, by simpa using hfree⟩
    · simpa [State.take, or_imp, forall_and] using ⟨hzeros, hzero⟩
  · rw [State.roomLaw_iff]; omega

theorem haltRequest (h : Quiet s t) (m : Halt) (r : Req) : Quiet s (t.haltRequest m r) := by
  unfold State.haltRequest
  split
  · exact h.haltCensus _ m
  · exact h.haltTxn _ _ m
  · exact h.haltTxn _ _ m
  · exact h.haltForget _ _ _ m
  · exact h

theorem serveCancel (h : 2 ≤ s.room) (tag target : Tag) : Quiet s (s.serveCancel tag target) := by
  have hr : ∀ k r, Quiet s (s.push tag (.cancelReply target k r)) := fun k r => reply h tag ⟨rfl, rfl, rfl⟩
  unfold State.serveCancel
  split
  · split
    · exact ((hr _ _).haltRequest _ _).settle
    · exact hr _ _
  · split
    · exact hr _ _
    · exact hr _ _

theorem admitStop (h : 2 ≤ s.room) {tag : Tag} (hzero : tag ≠ 0) (hfree : ∀ q ∈ s.table, q.tag ≠ tag)
    (hstop : s.stop = none) : Quiet s (s.admitStop tag) := by
  have hopen : Quiet s { s.push tag (.taken .stop) with
      stop := some { tag := tag, openCount := s.table.length } } := by
    have hused : ({ s.push tag (.taken .stop) with
        stop := some { tag := tag, openCount := s.table.length } } : State).used = s.used + 2 := by
      simp [State.used, State.reserved, hstop]
      omega
    rw [State.room_eq] at h
    refine ⟨rfl, rfl, rfl, rfl, ⟨[_], rfl, by simp, fun _ => ?_⟩, fun ht => ?_, fun _ => by omega,
      fun _ _ => by rw [State.roomLaw_iff]; omega, id⟩
    · simpa [Report.Plain, Report.outcomeLegal, Report.tagLegal] using hzero
    · exact ⟨ht.1, ht.2.1, ht.2.2.1, fun r hr => by obtain rfl := Option.some.inj hr; exact ⟨hzero, hfree⟩⟩
  have hfold : ∀ (qs : List Req) {u : State}, Quiet s u →
      Quiet s (qs.foldl (fun t r => t.haltRequest .stop r) u) := by
    intro qs
    induction qs with
    | nil => exact fun hu => hu
    | cons q qs ih => exact fun hu => ih (hu.haltRequest .stop q)
  exact (hfold s.table hopen).settleStop.settle

theorem serveStop (h : 2 ≤ s.room) (f : Frame) : Quiet s (s.serveStop f) := by
  unfold State.serveStop
  split
  · exact refuse h f _
  · rename_i hadm
    obtain ⟨hzero, hfree, hstop, -⟩ := State.admissionRefusal_eq_none hadm
    exact admitStop h hzero hfree hstop

/-- A long request that joins the table is refused, or goes on from its TAKEN. -/
theorem take_of_admitted (h : 2 ≤ s.room) {k : LongKind} {r : Req} (hk : k ≠ .stop)
    (hadm : s.admissionRefusal r.tag k = none) : Quiet s (s.take r) := by
  obtain ⟨hzero, hfree, hstop, hlen⟩ := State.admissionRefusal_eq_none hadm
  exact take h hzero hfree hstop (hlen hk)

theorem serveCensus (h : 2 ≤ s.room) (f : Frame) (l : Line) (p : Policy) (e b n : Nat) (bits : BitVec 64) :
    Quiet s (s.serveCensus f l p e b n bits) := by
  unfold State.serveCensus
  split
  · exact refuse h f _
  · rename_i hadm
    exact (take_of_admitted h (k := .census) (by simp) (or_eq_none hadm).1).modLine l _

theorem admitTxn (h : 2 ≤ s.room) {tag : Tag} {k : LongKind} (hk : k ≠ .stop)
    (hadm : s.admissionRefusal tag k = none) (i : Ident) (w : TxnWork) :
    Quiet s (s.admitTxn tag k i w) := by
  unfold State.admitTxn
  split
  · exact ((take_of_admitted h hk hadm).setQueue _ _).updNamed _ _
  · exact refl s

theorem serveReadNode (h : 2 ≤ s.room) (f : Frame) (i : Ident) (off len : Nat) :
    Quiet s (s.serveReadNode f i off len) := by
  unfold State.serveReadNode
  split
  · exact refuse h f _
  · rename_i hadm
    exact admitTxn h (by simp) (or_eq_none hadm).1 _ _

theorem serveWriteNode (h : 2 ≤ s.room) (f : Frame) (i : Ident) (off : Nat) (bs : List Byte) :
    Quiet s (s.serveWriteNode f i off bs) := by
  unfold State.serveWriteNode
  split
  · exact refuse h f _
  · rename_i hadm
    exact admitTxn h (by simp) (or_eq_none hadm).1 _ _

theorem serveForget (h : 2 ≤ s.room) (f : Frame) (i : Ident) : Quiet s (s.serveForget f i) := by
  unfold State.serveForget
  split
  · rename_i e hadm _
    have ht : ∀ r : Req, r.tag = f.tag → Quiet s (s.take r) := fun r hr =>
      take_of_admitted h (k := .forget) (by simp) (hr ▸ (or_eq_none hadm).1)
    unfold State.admitForget
    dsimp only
    split
    · exact (((ht _ rfl).updNamed _ _).setQueue _ _).closeTxns _ rfl
    · exact ((ht _ rfl).removeEntry e).closeForget _ _ _
  · exact refuse h f _
  · exact refl s

theorem serveLinePower (h : 2 ≤ s.room) (f : Frame) (l : Line) (d : Direction) :
    Quiet s (s.serveLinePower f l d) := by
  unfold State.serveLinePower
  split
  · exact refuse h f _
  · rename_i hadm
    exact (take_of_admitted h (k := .linePower) (by simp) (or_eq_none hadm).1).actPower l d _

end Quiet

/-! ## A SET_PARAM accepted, and a frame handled -/

/-- The state in which a SET_PARAM has stored its value and answered it, before the sweep of a lowered miss_limit
(R175, R176). -/
def State.stored (s : State) (tag : Tag) (id v : Nat) : State :=
  { s.pushParam tag id v with params := s.params.store id v }

theorem State.setParam_eq (s : State) (tag : Tag) (id v : Nat) :
    s.setParam tag id v =
      if id = 2 ∧ v < s.params.missLimit then ((s.stored tag id v).limitSweep v).settle
      else s.stored tag id v := rfl

/-- A request served. -/
theorem State.serve_cases {s : State} (h : 2 ≤ s.room) (f : Frame) (r : Request) :
    Quiet s (s.serve f r) ∨
      (∃ id v, s.paramRefusal id v = none ∧ r = .setParam id v ∧ s.serve f r = s.setParam f.tag id v ∧
        Quiet (s.stored f.tag id v) (s.serve f r)) ∨
      s.serve f r = s.serveReset f.tag := by
  have hreply : ∀ {b : ReportBody}, Report.Plain ⟨f.tag, b, none⟩ → Quiet s (s.push f.tag b) :=
    fun hb => Quiet.reply h f.tag hb
  cases r with
  | getRoster start count => exact .inl (hreply ⟨rfl, rfl, rfl⟩)
  | getEntry i => exact .inl (hreply ⟨rfl, rfl, rfl⟩)
  | getLine l => exact .inl (hreply ⟨rfl, rfl, rfl⟩)
  | getHeld => exact .inl (hreply ⟨rfl, rfl, rfl⟩)
  | getLink => exact .inl (hreply ⟨rfl, rfl, rfl⟩)
  | getParam id =>
    left
    simp only [State.serve, State.serveGetParam]
    split
    · exact hreply ⟨rfl, rfl, rfl⟩
    · exact Quiet.refuse h f _
  | setParam id v =>
    simp only [State.serve, State.serveSetParam]
    split
    · exact .inl (Quiet.refuse h f _)
    · rename_i hnone
      refine .inr (.inl ⟨id, v, hnone, rfl, rfl, ?_⟩)
      rw [State.setParam_eq]
      split
      · exact ((Quiet.refl _).limitSweep v).settle
      · exact Quiet.refl _
  | cancel target => exact .inl (Quiet.serveCancel h f.tag target)
  | reset => exact .inr (.inr rfl)
  | census l p e b n bits => exact .inl (Quiet.serveCensus h f l p e b n bits)
  | readNode i off len => exact .inl (Quiet.serveReadNode h f i off len)
  | writeNode i off bs => exact .inl (Quiet.serveWriteNode h f i off bs)
  | forget i => exact .inl (Quiet.serveForget h f i)
  | linePower l d => exact .inl (Quiet.serveLinePower h f l d)
  | stop => exact .inl (Quiet.serveStop h f)

/-- A frame handled: refused by its kind or body, or its request served (R145). -/
theorem State.handle_cases (s : State) (f : Frame) :
    (∃ r, s.handle f = s.refuse f r) ∨ ∃ r, s.handle f = s.serve f r := by
  unfold State.handle
  split
  · exact .inl ⟨_, rfl⟩
  · exact .inl ⟨_, rfl⟩
  · exact .inr ⟨_, rfl⟩

/-- What the host's side of a frame handled can come to. -/
theorem State.handle_quiet {s : State} (h : 2 ≤ s.room) (f : Frame) :
    Quiet s (s.handle f) ∨
      (∃ id v, s.paramRefusal id v = none ∧ Quiet (s.stored f.tag id v) (s.handle f)) ∨
      s.handle f = s.serveReset f.tag := by
  rcases s.handle_cases f with ⟨r, hr⟩ | ⟨r, hr⟩
  · exact .inl (hr ▸ Quiet.refuse h f r)
  · rw [hr]
    rcases State.serve_cases h f r with hq | ⟨id, v, hnone, -, -, hq⟩ | hreset
    · exact .inl hq
    · exact .inr (.inl ⟨id, v, hnone, hq⟩)
    · exact .inr (.inr hreset)

/-! ## The dispatcher (R144) -/

/-- What every frame handled keeps, the dispatcher keeps. -/
theorem State.drain_keeps {P : State → Prop}
    (hP : ∀ s f rest, P s → s.inbound = f :: rest → 2 ≤ s.room → P (({ s with inbound := rest } : State).handle f))
    (n : Nat) {s : State} (h : P s) : P (State.drain n s) := by
  induction n generalizing s with
  | zero => exact h
  | succ n ih =>
    unfold State.drain
    split
    · exact h
    · rename_i f rest hin
      split
      · rename_i hroom
        exact ih (hP s f rest h hin hroom)
      · exact h

/-- The dispatcher stops only at an empty buffer or without room. -/
theorem State.drain_done (n : Nat) {s : State} (h : s.inbound.length ≤ n) :
    (State.drain n s).inbound = [] ∨ (State.drain n s).room < 2 := by
  induction n generalizing s with
  | zero => exact .inl (List.length_eq_zero_iff.mp (Nat.le_zero.mp h))
  | succ n ih =>
    unfold State.drain
    split
    · rename_i hin
      exact .inl hin
    · rename_i f rest hin
      split
      · rename_i hroom
        refine ih ?_
        rw [hin, List.length_cons] at h
        rcases State.handle_quiet (s := { s with inbound := rest }) hroom f with hq | ⟨_, _, -, hq⟩ | hreset
        · rw [hq.inbound]; exact Nat.le_of_succ_le_succ h
        · rw [hq.inbound]; exact Nat.le_of_succ_le_succ h
        · rw [hreset]; exact Nat.zero_le n
      · rename_i hroom
        exact .inr (by simpa [Config.takeRoom] using hroom)

/-! ## The receiver (R139 to R141) -/

/-- What a byte or a gap changes before any frame arrives: the receiver, its counters and the clock. -/
def Hears (s u : State) : Prop :=
  (ReceiverLaw s → ReceiverLaw u) ∧ ∃ clock rx timeouts bad errors,
    u = { s with clock := clock, rx := rx, rxTimeouts := timeouts, rxBadLength := bad, rxCrcErrors := errors }

/-- The next state of a command that brings bytes or a frame: nothing arrives, or a frame arrives whole. -/
def HeardOrArrived (s t : State) : Prop :=
  ∃ u, Hears s u ∧ (t = u ∨ ∃ k tag b, t = u.arrive k tag b)

theorem HeardOrArrived.of_hears {s u : State} (h : Hears s u) : HeardOrArrived s u := ⟨u, h, .inl rfl⟩

theorem Hears.refl (s : State) : Hears s s := ⟨id, _, _, _, _, _, rfl⟩

theorem Hears.hunting (s : State) (c : Clock) (x y z : BitVec 16) :
    Hears s { s with clock := c, rx := .hunting, rxTimeouts := x, rxBadLength := y, rxCrcErrors := z } :=
  ⟨fun _ => rfl, _, _, _, _, _, rfl⟩

theorem Hears.huntByte (s : State) (x : BitVec 16) (b : Byte) :
    Hears s (({ s with rxTimeouts := x } : State).huntByte b) := by
  unfold State.huntByte
  split
  · exact ⟨fun _ => rfl, _, _, _, _, _, rfl⟩
  · exact Hears.hunting s s.clock x _ _

/-- A byte collected goes to a lawful receiver, or ends a frame that then arrives or is discarded. -/
theorem HeardOrArrived.collectByte {s : State} {bytes : List Byte} {gapAt : Clock}
    (hrx : s.rx = .collecting bytes gapAt) (b : Byte) : HeardOrArrived s (s.collectByte bytes b) := by
  cases bytes with
  | nil =>
    simp only [State.collectByte, List.nil_append]
    split
    · exact of_hears (Hears.hunting s s.clock _ _ _)
    · rename_i hrange
      refine of_hears ⟨fun _ => ?_, s.clock, _, s.rxTimeouts, s.rxBadLength, s.rxCrcErrors, rfl⟩
      change Receiver.legal (.collecting [b] _) = true
      simp only [Receiver.legal, List.length_nil, Bool.and_eq_true, decide_eq_true_eq]
      omega
  | cons n rest =>
    simp only [State.collectByte, List.cons_append]
    split
    · exact of_hears (Hears.hunting s s.clock _ _ _)
    · rename_i hrange
      split
      · unfold State.frameDone
        dsimp only
        split
        · exact ⟨_, Hears.hunting s s.clock _ _ _, .inr ⟨_, _, _, rfl⟩⟩
        · exact of_hears (Hears.hunting s s.clock _ _ _)
      · rename_i hlength
        refine of_hears ⟨fun hlegal => ?_, s.clock, _, s.rxTimeouts, s.rxBadLength, s.rxCrcErrors, rfl⟩
        simp only [ReceiverLaw, hrx, Receiver.legal, Bool.and_eq_true, decide_eq_true_eq] at hlegal
        change Receiver.legal (.collecting (n :: (rest ++ [b])) _) = true
        simp only [Receiver.legal, List.length_append, List.length_singleton, Bool.and_eq_true,
          decide_eq_true_eq] at hlength ⊢
        omega

theorem HeardOrArrived.rxByte {s t : State} {b : Byte} (h : exec (.rxByte b) s = .next t) :
    HeardOrArrived s t := by
  simp only [exec, execRxByte] at h
  split at h
  · exact Host.Outcome.next.inj h ▸ of_hears (Hears.huntByte s s.rxTimeouts b)
  · rename_i hrx
    split at h
    · exact Host.Outcome.next.inj h ▸ of_hears (Hears.huntByte s (bump16 s.rxTimeouts) b)
    · exact Host.Outcome.next.inj h ▸ collectByte hrx b

theorem HeardOrArrived.rxGapTimeout {s t : State} (h : exec .rxGapTimeout s = .next t) :
    HeardOrArrived s t := by
  simp only [exec, execRxGapTimeout] at h
  split at h
  · exact Host.Outcome.next.inj h ▸ of_hears (Hears.refl s)
  · exact Host.Outcome.next.inj h ▸ of_hears (Hears.hunting s _ _ _ _)

theorem HeardOrArrived.arrive (s : State) (k : Byte) (tag : Tag) (b : List Byte) :
    HeardOrArrived s (s.arrive k tag b) := ⟨s, Hears.refl s, .inr ⟨k, tag, b, rfl⟩⟩

/-! ## A command, seen from the host's side -/

/-- The commands that the timers, the supervisor and the line engines bring. -/
def Instr.inner : Instr → Bool
  | .settlingExpiry _ | .overcurrentTrip _ | .lineGrant _ | .callSent _ | .slotWindow _ _ | .claimWindow _ _
  | .bindOutcome _ _ | .hushWindow _ _ | .pollWindow _ _ | .pollDue _ | .attemptWindow _ _ | .releaseWindow _ _
  | .quarantineExpiry _ | .hushExpiry => true
  | _ => false

/-- What a command can come to on the host's side. -/
theorem exec_cases {c : Instr} {s t : State} (h : exec c s = .next t) :
    (Instr.inner c = true ∧ Quiet s t) ∨ HeardOrArrived s t ∨ t = { State.reset with pending := s.pending } ∨
      (c = .reportSent ∧ (t = s ∨ ∃ r rest, s.reports = r :: rest ∧ t = (s.depart r rest).dispatch)) := by
  cases c with
  | powerOnReset => exact .inr (.inr (.inl (Host.Outcome.next.inj h).symm))
  | rxByte b => exact .inr (.inl (.rxByte h))
  | rxGapTimeout => exact .inr (.inl (.rxGapTimeout h))
  | reportSent =>
    simp only [exec, execReportSent] at h
    split at h
    · rename_i r rest hr
      exact .inr (.inr (.inr ⟨rfl, .inr ⟨r, rest, hr, (Host.Outcome.next.inj h).symm⟩⟩))
    · exact .inr (.inr (.inr ⟨rfl, .inl (Host.Outcome.next.inj h).symm⟩))
  | settlingExpiry l => exact .inl ⟨rfl, .settlingExpiry h⟩
  | overcurrentTrip l => exact .inl ⟨rfl, .overcurrentTrip h⟩
  | lineGrant l => exact .inl ⟨rfl, .lineGrant h⟩
  | callSent l => exact .inl ⟨rfl, .callSent h⟩
  | slotWindow l x => exact .inl ⟨rfl, .slotWindow h⟩
  | claimWindow l x => exact .inl ⟨rfl, .claimWindow h⟩
  | bindOutcome l x => exact .inl ⟨rfl, .bindOutcomeWindow h⟩
  | hushWindow l x => exact .inl ⟨rfl, .hushWindow h⟩
  | pollWindow l x => exact .inl ⟨rfl, .pollWindow h⟩
  | pollDue l => exact .inl ⟨rfl, .pollDue h⟩
  | attemptWindow l x => exact .inl ⟨rfl, .attemptWindow h⟩
  | releaseWindow l x => exact .inl ⟨rfl, .releaseWindow h⟩
  | quarantineExpiry l => exact .inl ⟨rfl, .quarantineExpiry h⟩
  | hushExpiry => exact .inl ⟨rfl, .hushExpiry h⟩
  | _ => exact .inr (.inl (Host.Outcome.next.inj h ▸ .arrive s _ _ _))

end Sys2Proof.Machine
end

section
/-! Three laws that every step keeps on the host's side: the limits of the tables (R142, R144, R150, R162), the parameters
and the link rate (R172), and the reports (R165, R167). -/

namespace Sys2Proof.Machine

open Sys2Proof.Statements

/-- A step is the command at the front of the queue on the state with the rest, or a tick. -/
theorem step_cases {s t : State} (h : step s = .next t) :
    t = s.tick ∨ ∃ c rest, exec c { s with pending := rest } = .next t := by
  unfold step at h
  split at h
  · exact .inl (Host.Outcome.next.inj h).symm
  · exact .inr ⟨_, _, h⟩

/-! ## The limits of the tables -/

/-- The limits, less what the inbound law says of the room, which holds only once the dispatcher has taken what it can. -/
def Limits (s : State) : Prop :=
  TableLaw s ∧ RoomLaw s ∧ HushLaw s ∧ ReceiverLaw s ∧ s.inbound.length ≤ 4

theorem Limits.quiet {s t : State} (h : Limits s) (q : Quiet s t) : Limits t := by
  obtain ⟨htable, hroom, hhush, hrx, hin⟩ := h
  exact ⟨q.table htable, q.room htable hroom, q.hush hhush, by rwa [ReceiverLaw, q.rx], by rwa [q.inbound]⟩

/-- The inbound law is kept by what leaves the buffer and does not widen the room. -/
theorem InboundLaw.of_used_le {s t : State} (h : InboundLaw s) (hin : t.inbound = s.inbound)
    (hused : s.used ≤ t.used) : InboundLaw t := by
  refine ⟨hin ▸ h.1, fun hne => ?_⟩
  have := h.2 (hin ▸ hne)
  rw [State.room_eq] at this ⊢
  exact lt_of_le_of_lt (Nat.sub_le_sub_left hused 48) this

/-- The limits of a state whose blocks are at their reset values and whose queue holds at most two reports. -/
theorem Limits.of_reset (p : Params) (n : Nat) {rs : List Report} (hrs : rs.length ≤ 2) (cs : List Instr) :
    Limits { State.reset with params := p, linkRate := n, reports := rs, pending := cs } := by
  refine ⟨by simp [TableLaw, State.reset], ?_, by simp [HushLaw, State.reset], rfl, by simp [State.reset]⟩
  change rs.length + 0 ≤ 48
  omega

theorem State.keptReport_length (s : State) : s.keptReport.length ≤ 1 := by
  unfold State.keptReport
  split <;> simp

theorem Limits.stored {s : State} (h : Limits s) (hr : 2 ≤ s.room) (tag : Tag) (id v : Nat) :
    Limits (s.stored tag id v) := by
  obtain ⟨htable, -, hhush, hrx, hin⟩ := h
  refine ⟨htable, ?_, hhush, hrx, hin⟩
  rw [State.room_eq] at hr
  have hused : (s.stored tag id v).used = s.used + 1 := by
    change (s.reports ++ [_]).length + s.reserved = s.reports.length + s.reserved + 1
    rw [List.length_append, List.length_singleton]
    omega
  rw [State.roomLaw_iff, hused]
  omega

theorem Limits.handle {s : State} (h : Limits s) (hr : 2 ≤ s.room) (f : Frame) : Limits (s.handle f) := by
  rcases State.handle_quiet hr f with hq | ⟨id, v, -, hq⟩ | hreset
  · exact h.quiet hq
  · exact (h.stored hr f.tag id v).quiet hq
  · rw [hreset]
    exact Limits.of_reset _ _ (by have := s.keptReport_length; simp; omega) _

theorem Limits.inbound {s : State} (h : Limits s) {fs : List Frame} (hfs : fs.length ≤ s.inbound.length) :
    Limits { s with inbound := fs } := by
  obtain ⟨htable, hroom, hhush, hrx, hin⟩ := h
  exact ⟨htable, hroom, hhush, hrx, hfs.trans hin⟩

theorem Limits.hears {s u : State} (h : Limits s) (hu : Hears s u) : Limits u := by
  obtain ⟨htable, hroom, hhush, hrx, hin⟩ := h
  obtain ⟨hlegal, _, _, _, _, _, rfl⟩ := hu
  exact ⟨htable, hroom, hhush, hlegal hrx, hin⟩

theorem Hears.inboundLaw {s u : State} (hu : Hears s u) (h : InboundLaw s) : InboundLaw u := by
  obtain ⟨-, _, _, _, _, _, rfl⟩ := hu
  exact h

/-- The dispatcher leaves every limit kept, the room's bound on the waiting frames among them (R144). -/
theorem Limits.dispatch {s : State} (h : Limits s) : Limits s.dispatch ∧ InboundLaw s.dispatch := by
  have hkept : Limits s.dispatch := State.drain_keeps (P := Limits)
    (fun u f rest hu hin hr => Limits.handle (s := { u with inbound := rest })
      (hu.inbound (by rw [hin, List.length_cons]; exact Nat.le_succ _)) hr f) _ h
  refine ⟨hkept, hkept.2.2.2.2, fun hne => ?_⟩
  exact (State.drain_done _ le_rfl).resolve_left hne

theorem Limits.join {s : State} (h : Limits s) (f : Frame) : Limits (s.join f) := by
  obtain ⟨htable, hroom, hhush, hrx, hin⟩ := h
  unfold State.join
  split
  · rename_i hlt
    refine ⟨htable, hroom, hhush, hrx, ?_⟩
    rw [List.length_append, List.length_singleton]
    exact hlt
  · exact ⟨htable, hroom, hhush, hrx, hin⟩

theorem Limits.depart {s : State} (h : Limits s) {r : Report} {rest : List Report} (hr : s.reports = r :: rest) :
    Limits (s.depart r rest) := by
  obtain ⟨htable, hroom, hhush, hrx, hin⟩ := h
  refine ⟨htable, ?_, hhush, hrx, hin⟩
  have hlen : (r :: rest).length + s.reserved ≤ 48 := hr ▸ hroom
  rw [List.length_cons] at hlen
  change rest.length + s.reserved ≤ 48
  omega

/-- The limits and the inbound law together, as every command keeps them. -/
theorem Limits.exec {c : Instr} {s t : State} (h : Limits s) (hi : InboundLaw s) (he : exec c s = .next t) :
    Limits t ∧ InboundLaw t := by
  rcases exec_cases he with ⟨-, hq⟩ | ⟨u, hears, hu⟩ | rfl | ⟨-, rfl | ⟨r, rest, hr, rfl⟩⟩
  · exact ⟨h.quiet hq, hi.of_used_le hq.inbound (hq.used h.1)⟩
  · rcases hu with rfl | ⟨k, tag, b, rfl⟩
    · exact ⟨h.hears hears, hears.inboundLaw hi⟩
    · exact ((h.hears hears).join _).dispatch
  · exact ⟨Limits.of_reset _ _ (by decide) _, Nat.zero_le _, fun hne => absurd rfl hne⟩
  · exact ⟨h, hi⟩
  · exact (h.depart hr).dispatch

end Sys2Proof.Machine

open Sys2Proof.Machine Sys2Proof.Statements

/-- Settles O51: a claim inside the part trades reserved slots for occupied ones, a frame handled finds the room it needs,
and the dispatcher stops only without room or at an empty buffer. -/
theorem everyStepKeepsTablesWithinLimits : Obligations.EveryStepKeepsTablesWithinLimits := by
  intro s t ⟨hroom, htable, hinbound, hhush, hrx⟩ hstep
  have hlimits : Limits s := ⟨htable, hroom, hhush, hrx, hinbound.1⟩
  have hkept : Limits t ∧ InboundLaw t := by
    rcases step_cases hstep with rfl | ⟨c, rest, he⟩
    · exact ⟨hlimits, hinbound⟩
    · exact Limits.exec (s := { s with pending := rest }) hlimits hinbound he
  obtain ⟨⟨htable', hroom', hhush', hrx', -⟩, hinbound'⟩ := hkept
  exact ⟨hroom', htable', hinbound', hhush', hrx'⟩

end

section
/-! Laws of the host's side that do not look at the receiver and the inbound buffer: one induction for all of them, and
with it the parameters (R172), the link rate (R178) and the reports (R165, R167). -/

namespace Sys2Proof.Machine

open Sys2Proof.Statements

/-- Two states with the same parameters, link rate, reports, table and stop record. -/
def HostSame (s u : State) : Prop :=
  u.params = s.params ∧ u.linkRate = s.linkRate ∧ u.reports = s.reports ∧ u.table = s.table ∧ u.stop = s.stop

/-- A law of the host's side that quiet claims, an accepted SET_PARAM, the resets and a departure keep. -/
structure HostLaw (P : State → Prop) : Prop where
  same : ∀ s u, HostSame s u → P s → P u
  quiet : ∀ s t, Quiet s t → P s → P t
  stored : ∀ s tag id v, s.paramRefusal id v = none → P s → P (s.stored tag id v)
  serveReset : ∀ s tag, P s → P (s.serveReset tag)
  powerOn : ∀ cs, P { State.reset with pending := cs }
  depart : ∀ s r rest, s.reports = r :: rest → P s → P (s.depart r rest)

namespace HostLaw

variable {P : State → Prop}

theorem handle (hP : HostLaw P) {s : State} (h : P s) (hr : 2 ≤ s.room) (f : Frame) : P (s.handle f) := by
  rcases State.handle_quiet hr f with hq | ⟨id, v, hnone, hq⟩ | hreset
  · exact hP.quiet _ _ hq h
  · exact hP.quiet _ _ hq (hP.stored s f.tag id v hnone h)
  · exact hreset ▸ hP.serveReset s f.tag h

theorem dispatch (hP : HostLaw P) {s : State} (h : P s) : P s.dispatch :=
  State.drain_keeps (fun u f rest hu _ hr =>
    hP.handle (hP.same u { u with inbound := rest } ⟨rfl, rfl, rfl, rfl, rfl⟩ hu) hr f) _ h

theorem arrive (hP : HostLaw P) {s : State} (h : P s) (k : Byte) (tag : Tag) (b : List Byte) :
    P (s.arrive k tag b) := by
  refine hP.dispatch (hP.same s _ ?_ h)
  unfold State.join
  split <;> exact ⟨rfl, rfl, rfl, rfl, rfl⟩

theorem hears (hP : HostLaw P) {s u : State} (h : P s) (hu : Hears s u) : P u := by
  obtain ⟨-, _, _, _, _, _, rfl⟩ := hu
  exact hP.same s _ ⟨rfl, rfl, rfl, rfl, rfl⟩ h

theorem exec (hP : HostLaw P) {c : Instr} {s t : State} (h : P s) (he : exec c s = .next t) : P t := by
  rcases exec_cases he with ⟨-, hq⟩ | ⟨u, hu, rfl | ⟨k, tag, b, rfl⟩⟩ | rfl | ⟨-, rfl | ⟨r, rest, hr, rfl⟩⟩
  · exact hP.quiet s t hq h
  · exact hP.hears h hu
  · exact hP.arrive (hP.hears h hu) k tag b
  · exact hP.powerOn _
  · exact h
  · exact hP.dispatch (hP.depart s r rest hr h)

theorem keptByEveryStep (hP : HostLaw P) : KeptByEveryStep P := by
  intro s t h hstep
  rcases step_cases hstep with rfl | ⟨c, rest, he⟩
  · exact hP.same s _ ⟨rfl, rfl, rfl, rfl, rfl⟩ h
  · exact hP.exec (hP.same s { s with pending := rest } ⟨rfl, rfl, rfl, rfl, rfl⟩ h) he

end HostLaw

/-! ## Parameters and link rate (R172, R175, R178) -/

/-- The value of a parameter after another or the same one is stored. -/
theorem Params.value_store (p : Params) {id j : Nat} (v : Nat) (hid : 1 ≤ id ∧ id ≤ 12) :
    (p.store id v).value j = if j = id then some v else p.value j := by
  obtain ⟨hlo, hhi⟩ := hid
  interval_cases id <;> unfold Params.store Params.value <;> split <;> simp_all

theorem paramRange_bounds {id : Nat} {r : Nat × Nat} (h : paramRange id = some r) : 1 ≤ id ∧ id ≤ 12 := by
  unfold paramRange at h
  split at h <;> first | omega | exact nomatch h

/-- A SET_PARAM that is not refused: the value is in its range, its speed is not locked and the cross-checks hold
afterwards (R175, R177). -/
theorem State.paramRefusal_eq_none {s : State} {id v : Nat} (h : s.paramRefusal id v = none) :
    ∃ r, paramRange id = some r ∧ r.1 ≤ v ∧ v ≤ r.2 ∧ (s.params.store id v).crossOk = true := by
  unfold State.paramRefusal at h
  split at h
  · exact nomatch h
  · rename_i lo hi hr
    split at h
    · exact nomatch h
    · rename_i hrange
      split at h
      · exact nomatch h
      · split at h
        · rename_i hcross
          exact ⟨(lo, hi), hr, by omega, by omega, hcross⟩
        · exact nomatch h

/-- The parameter and link laws see only parameters, link rate and the rates that reports carry. -/
theorem LinkLaw.reports_append {s t : State} (h : LinkLaw s) (hl : t.linkRate = s.linkRate) {rs : List Report}
    (ht : t.reports = s.reports ++ rs) (hrs : ∀ r ∈ rs, ∀ v ∈ r.rateAfter, 1 ≤ v ∧ v ≤ 4) : LinkLaw t := by
  refine ⟨hl ▸ h.1, fun r hr => ?_⟩
  rw [ht, List.mem_append] at hr
  exact hr.elim (h.2 r) (hrs r)

theorem ParamLaw.congr {s t : State} (hp : t.params = s.params) (h : ParamLaw s) : ParamLaw t := by
  simpa only [ParamLaw, hp] using h

theorem ParamLaw.hostRate {s : State} (h : ParamLaw s) : 1 ≤ s.params.hostRate ∧ s.params.hostRate ≤ 4 :=
  h.1 11 (by decide) _ rfl _ rfl

/-- The defaults with a legal host_rate are legal. -/
theorem ParamLaw.of_default {s : State} {n : Nat} (hp : s.params = { Params.default with hostRate := n })
    (hn : 1 ≤ n ∧ n ≤ 4) : ParamLaw s := by
  rw [ParamLaw, hp]
  refine ⟨?_, rfl⟩
  intro id hid v hv r hr
  obtain ⟨hlo, hhi⟩ := paramRange_bounds hr
  interval_cases id <;> cases hv <;> cases hr <;> simp [Params.default, hn.1, hn.2]

theorem ParamLaw.stored {s : State} (h : ParamLaw s) {tag : Tag} {id v : Nat} (hnone : s.paramRefusal id v = none) :
    ParamLaw (s.stored tag id v) := by
  obtain ⟨r, hr, hlo, hhi, hcross⟩ := State.paramRefusal_eq_none hnone
  refine ⟨fun j hj w hw x hx => ?_, hcross⟩
  change w ∈ (s.params.store id v).value j at hw
  rw [Params.value_store _ _ (paramRange_bounds hr)] at hw
  split at hw
  · rename_i hji
    subst hji
    obtain rfl := Option.some.inj hw
    obtain rfl := Option.some.inj (hr.symm.trans hx)
    exact ⟨hlo, hhi⟩
  · exact h.1 j hj w hw x hx

theorem LinkLaw.stored {s : State} (h : LinkLaw s) {tag : Tag} {id v : Nat} (hnone : s.paramRefusal id v = none) :
    LinkLaw (s.stored tag id v) := by
  obtain ⟨r, hr, hlo, hhi, -⟩ := State.paramRefusal_eq_none hnone
  refine h.reports_append rfl rfl fun x hx w hw => ?_
  obtain rfl := List.mem_singleton.mp hx
  dsimp only at hw
  split at hw
  · rename_i hid
    obtain rfl := Option.some.inj hw
    obtain ⟨rfl, -⟩ := hid
    cases hr
    exact ⟨hlo, hhi⟩
  · exact nomatch hw

/-- The report in transmission is a report of the queue. -/
theorem State.sending_mem {s : State} {r : Report} (h : s.sending = some r) : r ∈ s.reports := by
  unfold State.sending at h
  split at h
  · exact nomatch h
  · exact List.mem_of_head? h

/-- The report that a RESET keeps is one of the queue, its rate replaced by the table's. -/
theorem State.mem_keptReport {s : State} {r : Report} (h : r ∈ s.keptReport) :
    ∃ x ∈ s.reports, r = { x with rateAfter := x.rateAfter.map fun _ => s.params.hostRate } := by
  unfold State.keptReport at h
  split at h
  · rename_i x hx
    exact ⟨x, State.sending_mem hx, List.mem_singleton.mp h⟩
  · exact nomatch h

theorem State.rateAfterReset_legal {s : State} (hp : ParamLaw s) (hl : LinkLaw s) :
    1 ≤ s.rateAfterReset ∧ s.rateAfterReset ≤ 4 := by
  unfold State.rateAfterReset
  split
  · split
    · exact hl.1
    · exact hp.hostRate
  · exact hp.hostRate

theorem LinkLaw.serveReset {s : State} (hp : ParamLaw s) (hl : LinkLaw s) (tag : Tag) :
    LinkLaw (s.serveReset tag) := by
  refine ⟨State.rateAfterReset_legal hp hl, fun r hr v hv => ?_⟩
  rcases List.mem_append.mp hr with hk | hready
  · obtain ⟨x, -, rfl⟩ := State.mem_keptReport hk
    obtain ⟨-, -, rfl⟩ := Option.map_eq_some_iff.mp hv
    exact hp.hostRate
  · obtain rfl := List.mem_singleton.mp hready
    exact nomatch hv

theorem LinkLaw.depart {s : State} (h : LinkLaw s) {r : Report} {rest : List Report} (hr : s.reports = r :: rest) :
    LinkLaw (s.depart r rest) := by
  refine ⟨?_, fun x hx => h.2 x (hr ▸ List.mem_cons_of_mem r hx)⟩
  change 1 ≤ r.rateAfter.getD s.linkRate ∧ r.rateAfter.getD s.linkRate ≤ 4
  cases hrate : r.rateAfter with
  | none => exact h.1
  | some v => exact h.2 r (hr ▸ List.mem_cons_self) v hrate

/-- Parameters and link rate are a law of the host's side. -/
theorem paramsLegal_hostLaw : HostLaw fun s => ParamLaw s ∧ LinkLaw s where
  same := by
    rintro s u ⟨hp, hl, hr, -, -⟩ ⟨hparam, hlink⟩
    exact ⟨hparam.congr hp, hlink.reports_append hl (rs := []) (by simpa using hr) (by simp)⟩
  quiet := by
    rintro s t hq ⟨hparam, hlink⟩
    obtain ⟨rs, hrs, hrate, -⟩ := hq.reports
    exact ⟨hparam.congr hq.params,
      hlink.reports_append hq.linkRate hrs fun r hr v hv => by simp [hrate r hr] at hv⟩
  stored := fun s tag id v hnone ⟨hparam, hlink⟩ => ⟨hparam.stored hnone, hlink.stored hnone⟩
  serveReset := fun s tag ⟨hparam, hlink⟩ =>
    ⟨ParamLaw.of_default rfl hparam.hostRate, LinkLaw.serveReset hparam hlink tag⟩
  powerOn := fun cs => ⟨ParamLaw.of_default (n := 2) rfl (by decide), by simp [LinkLaw, State.reset, Params.default]⟩
  depart := fun s r rest hr ⟨hparam, hlink⟩ => ⟨hparam, hlink.depart hr⟩

/-! ## Reports (R165, R167) -/

theorem ReportLaw.reports_append {s t : State} (h : ReportLaw s) {rs : List Report}
    (ht : t.reports = s.reports ++ rs) (hrs : ∀ r ∈ rs, r.outcomeLegal = true ∧ r.tagLegal = true) :
    ReportLaw t := by
  intro r hr
  rw [ht, List.mem_append] at hr
  exact hr.elim (h r) (hrs r)

/-- Reports with legal outcomes and tags are, with the table law, a law of the host's side. -/
theorem reportsLegal_hostLaw : HostLaw fun s => TableLaw s ∧ ReportLaw s where
  same := by
    rintro s u ⟨-, -, hr, ht, hst⟩ ⟨htable, hreports⟩
    exact ⟨htable.congr ht hst, hreports.reports_append (rs := []) (by simpa using hr) (by simp)⟩
  quiet := by
    rintro s t hq ⟨htable, hreports⟩
    obtain ⟨rs, hrs, -, hplain⟩ := hq.reports
    exact ⟨hq.table htable, hreports.reports_append hrs fun r hr => (hplain htable r hr).2⟩
  stored := fun s tag id v _ ⟨htable, hreports⟩ =>
    ⟨htable, hreports.reports_append rfl fun r hr => by rw [List.mem_singleton.mp hr]; exact ⟨rfl, rfl⟩⟩
  serveReset := by
    rintro s tag ⟨-, hreports⟩
    refine ⟨by simp [TableLaw, State.serveReset, State.reset], fun r hr => ?_⟩
    rcases List.mem_append.mp hr with hk | hready
    · obtain ⟨x, hx, rfl⟩ := State.mem_keptReport hk
      exact hreports x hx
    · rw [List.mem_singleton.mp hready]; exact ⟨rfl, rfl⟩
  powerOn := fun cs => ⟨by simp [TableLaw, State.reset], by simp [ReportLaw, State.reset, Report.outcomeLegal, Report.tagLegal]⟩
  depart := fun s r rest hr ⟨htable, hreports⟩ =>
    ⟨htable, fun x hx => hreports x (hr ▸ List.mem_cons_of_mem r hx)⟩

end Sys2Proof.Machine

open Sys2Proof.Machine

/-- Settles O52: only an accepted SET_PARAM and the resets write parameters, and only marked answers, departures and
resets touch the rates. -/
theorem everyStepKeepsParametersLegal : Obligations.EveryStepKeepsParametersLegal :=
  paramsLegal_hostLaw.keptByEveryStep

/-- Settles O58: every CLOSED of a claim has an outcome of its kind and takes the tag of an open request, none of which
is 0. -/
theorem everyStepKeepsReportsLegal : Obligations.EveryStepKeepsReportsLegal :=
  reportsLegal_hostLaw.keptByEveryStep

end

section
/-! Requests in bytes (R145, R146, R159): every request is read back from its kind and body, and a request command that
the dispatcher takes at its arrival is the request served. -/

namespace Sys2Proof.Machine

open Sys2Proof.Statements

/-! ## Bytes at their places -/

theorem bodyByte_cons_zero (b : Byte) (bs : List Byte) : bodyByte (b :: bs) 0 = b.toNat := rfl

/-- A byte behind an identity. -/
theorem bodyByte_identity (n : Nat) (rest : List Byte) (k : Nat) :
    bodyByte (bytesOf 8 n ++ rest) (8 + k) = bodyByte rest k := by
  simp only [bodyByte, List.getD_eq_getElem?_getD]
  rw [List.getElem?_append_right (by simp), bytesOf_length, Nat.add_sub_cancel_left]

theorem toNat_byte {n : Nat} (h : n ≤ 255) : (BitVec.ofNat 8 n).toNat = n := by
  rw [BitVec.toNat_ofNat, Nat.mod_eq_of_lt (by omega)]

/-- The number in two bytes. -/
theorem toNat_bytes_two {n : Nat} (h : n ≤ 65535) :
    (BitVec.ofNat 8 (n / 256)).toNat * 256 + (BitVec.ofNat 8 n).toNat = n := by
  simp only [BitVec.toNat_ofNat]
  omega

theorem bodyByte_offset {n : Nat} (h : n ≤ 65535) (x : Nat) (rest : List Byte) :
    bodyByte (bytesOf 8 x ++ (bytesOf 2 n ++ rest)) 8 * 256 + bodyByte (bytesOf 8 x ++ (bytesOf 2 n ++ rest)) 9 =
      n := by
  rw [bodyByte_identity x _ 0, bodyByte_identity x _ 1, bytesOf_two]
  exact toNat_bytes_two h

/-- The identity behind some bytes. -/
theorem identAt_append (bs : List Byte) (i : Ident) (rest : List Byte) {k : Nat} (h : bs.length = k) :
    identAt (bs ++ (bytesOf 8 i.toNat ++ rest)) k = i := by
  have := identAt_bytesOf i rest
  simp only [identAt, List.drop_zero] at this ⊢
  rwa [← h, List.drop_left]

/-! ## Every request read back -/

theorem lineCode_le (l : Line) : lineCode l ≤ 1 := by cases l <;> decide

theorem policyCode_le (p : Policy) : policyCode p ≤ 1 := by cases p <;> decide

/-- A body that is well formed for its kind is read by its fields. -/
theorem readRequest_of_wellFormed {k : Byte} {b : List Byte} (hk : requestKinds.contains k = true)
    (hb : bodyWellFormed k b = true) : readRequest k b = .request (readBody k b) := by
  rw [readRequest, if_pos hk, if_pos hb]

theorem readRequest_body_transaction {k : Byte} (i : Ident) {off : Nat} (bs : List Byte) (hoff : off ≤ 4095)
    (hk : k = 0x11 ∧ bs.length = 1 ∧ 1 ≤ bodyByte bs 0 ∧ bodyByte bs 0 ≤ 32 ∨
      k = 0x12 ∧ 1 ≤ bs.length ∧ bs.length ≤ 32) :
    readRequest k (bytesOf 8 i.toNat ++ (bytesOf 2 off ++ bs)) =
      .request (if k = 0x11 then .readNode i off (bodyByte bs 0) else .writeNode i off bs) := by
  have hoffset := bodyByte_offset (n := off) (by omega) i.toNat bs
  have hlast : bodyByte (bytesOf 8 i.toNat ++ (bytesOf 2 off ++ bs)) 10 = bodyByte bs 0 := by
    rw [bodyByte_identity i.toNat _ 2, bytesOf_two]
    rfl
  have hdrop : (bytesOf 8 i.toNat ++ (bytesOf 2 off ++ bs)).drop 10 = bs := by
    rw [← List.append_assoc]
    exact List.drop_left' (by simp)
  rcases hk with ⟨rfl, hlen, hlo, hhi⟩ | ⟨rfl, hlo, hhi⟩
  · rw [readRequest_of_wellFormed (by decide) (by
      simp [bodyWellFormed, hoffset, hlast, hlen, hoff, hlo, hhi])]
    simp [readBody, identAt_bytesOf, hoffset, hlast]
  · rw [readRequest_of_wellFormed (by decide) (by
      simp [bodyWellFormed, hoffset, hoff]; omega)]
    simp [readBody, identAt_bytesOf, hoffset, hdrop]

theorem readRequest_census (l : Line) (p : Policy) {e b n : Nat} (bits : BitVec 64) (he : e ≤ 255) (hb : b ≤ 255)
    (hn : n ≤ 255) :
    readRequest 0x10 (Request.census l p e b n bits).body = .request (.census l p e b n bits) := by
  have hbody : (Request.census l p e b n bits).body =
      [BitVec.ofNat 8 (lineCode l), BitVec.ofNat 8 (policyCode p), BitVec.ofNat 8 e, BitVec.ofNat 8 b,
        BitVec.ofNat 8 n] ++ (bytesOf 8 bits.toNat ++ []) := by
    simp [Request.body, bytesOf_one]
  have hl := toNat_byte ((lineCode_le l).trans (by omega))
  have hp := toNat_byte ((policyCode_le p).trans (by omega))
  rw [hbody, readRequest_of_wellFormed (by decide)]
  · have hbits := identAt_append [BitVec.ofNat 8 (lineCode l), BitVec.ofNat 8 (policyCode p), BitVec.ofNat 8 e,
      BitVec.ofNat 8 b, BitVec.ofNat 8 n] bits [] (k := 5) rfl
    rw [readBody]
    simp only [hbits]
    simp only [bodyByte, List.cons_append, List.getD_cons_zero, List.getD_cons_succ, hl, hp, toNat_byte he, toNat_byte hb,
      toNat_byte hn, lineOfCode_lineCode, policyOfCode_policyCode]
    rfl
  · simp [bodyWellFormed, bodyByte, hl, hp, lineCode_le, policyCode_le]

/-- Kind by kind, each field of a request is read at the place where its bytes stand. -/
theorem readRequest_body (r : Request) (hr : r.inRange = true) : readRequest r.kind r.body = .request r := by
  cases r with
  | getRoster start count =>
    simp only [Request.inRange, Bool.and_eq_true, decide_eq_true_eq] at hr
    obtain ⟨⟨hs, hlo⟩, hhi⟩ := hr
    have hs := toNat_byte hs
    have hc := toNat_byte (n := count) (by omega)
    simp only [Request.kind, Request.body, bytesOf_one, List.singleton_append]
    rw [readRequest_of_wellFormed (by decide) (by simp [bodyWellFormed, bodyByte, hc, hlo, hhi])]
    simp [readBody, bodyByte, hs, hc]
  | getEntry i =>
    simp only [Request.kind, Request.body]
    rw [readRequest_of_wellFormed (by decide) (by simp [bodyWellFormed])]
    have := identAt_bytesOf i []
    rw [List.append_nil] at this
    simp [readBody, this]
  | getLine l => cases l <;> decide
  | getHeld => decide
  | getLink => decide
  | getParam id =>
    have hid := toNat_byte (n := id) (by simpa [Request.inRange] using hr)
    simp only [Request.kind, Request.body, bytesOf_one]
    rw [readRequest_of_wellFormed (by decide) (by simp [bodyWellFormed])]
    simp [readBody, bodyByte, hid]
  | setParam id value =>
    simp only [Request.inRange, Bool.and_eq_true, decide_eq_true_eq] at hr
    have hid := toNat_byte hr.1
    have hv := toNat_bytes_two hr.2
    simp only [Request.kind, Request.body, bytesOf_one, bytesOf_two, List.singleton_append]
    rw [readRequest_of_wellFormed (by decide) (by simp [bodyWellFormed])]
    simp [readBody, bodyByte, hid]
    exact hv
  | cancel target =>
    simp only [Request.kind, Request.body]
    rw [readRequest_of_wellFormed (by decide) (by simp [bodyWellFormed])]
    rfl
  | reset => decide
  | census l p e b n bits =>
    simp only [Request.inRange, Bool.and_eq_true, decide_eq_true_eq] at hr
    exact readRequest_census l p bits hr.1.1 hr.1.2 hr.2
  | readNode i off len =>
    simp only [Request.inRange, Bool.and_eq_true, decide_eq_true_eq] at hr
    obtain ⟨⟨hoff, hlo⟩, hhi⟩ := hr
    have hlen := toNat_byte (n := len) (by omega)
    simp only [Request.kind, Request.body, List.append_assoc, bytesOf_one]
    rw [readRequest_body_transaction i _ hoff (.inl ⟨rfl, rfl, by rwa [bodyByte_cons_zero, hlen],
      by rwa [bodyByte_cons_zero, hlen]⟩), if_pos rfl, bodyByte_cons_zero, hlen]
  | writeNode i off bs =>
    simp only [Request.inRange, Bool.and_eq_true, decide_eq_true_eq] at hr
    obtain ⟨⟨hoff, hlo⟩, hhi⟩ := hr
    simp only [Request.kind, Request.body, List.append_assoc]
    rw [readRequest_body_transaction i _ hoff (.inr ⟨rfl, hlo, hhi⟩), if_neg (by decide)]
  | forget i =>
    simp only [Request.kind, Request.body]
    rw [readRequest_of_wellFormed (by decide) (by simp [bodyWellFormed])]
    have := identAt_bytesOf i []
    rw [List.append_nil] at this
    simp [readBody, this]
  | linePower l d => cases l <;> cases d <;> decide
  | stop => decide

end Sys2Proof.Machine

open Sys2Proof.Machine

/-- Settles O31. -/
theorem requestBytesReadBack : Obligations.RequestBytesReadBack := readRequest_body

namespace Sys2Proof.Machine

open Sys2Proof.Statements

/-! ## Requests as commands -/

/-- The command that brings a request with a tag. -/
def Request.command (r : Request) (tag : Tag) : Instr :=
  match r with
  | .getRoster _ _ => .getRoster tag r.body
  | .getEntry _ => .getEntry tag r.body
  | .getLine _ => .getLine tag r.body
  | .getHeld => .getHeld tag r.body
  | .getLink => .getLink tag r.body
  | .getParam _ => .getParam tag r.body
  | .setParam _ _ => .setParam tag r.body
  | .cancel _ => .cancel tag r.body
  | .reset => .reset tag r.body
  | .census _ _ _ _ _ _ => .census tag r.body
  | .readNode _ _ _ => .readNode tag r.body
  | .writeNode _ _ _ => .writeNode tag r.body
  | .forget _ => .forget tag r.body
  | .linePower _ _ => .linePower tag r.body
  | .stop => .stop tag r.body

theorem Request.exec_command (r : Request) (tag : Tag) (s : State) :
    exec (r.command tag) s = .next (s.arrive r.kind tag r.body) := by
  cases r <;> rfl

/-- A request command that the dispatcher takes at its arrival is the request served, in one claim (R144, R145). -/
theorem Request.exec_takes {s : State} (hs : TakesNow s) {r : Request} (hr : r.inRange = true) (tag : Tag) :
    exec (r.command tag) s = .next (s.serve { kind := r.kind, tag := tag, body := r.body } r) := by
  rw [r.exec_command, State.arrive_eq_serve hs.1 hs.2 (readRequest_body r hr)]

end Sys2Proof.Machine
end

section
/-! Proofs about steps and resets (95; sections 9.8, 10.9, 11.4): the front command, completion, the two resets. -/

namespace Sys2Proof.Machine

open Sys2Proof.Statements

/-- The branch of `step` for a command that waits. -/
theorem step_of_pending_cons {s : State} {c : Instr} {rest : List Instr} (h : s.pending = c :: rest) :
    step s = exec c { s with pending := rest } := by
  simp only [step, h]

/-! ## Every command completes -/

/-- Every answer that is built of next states is one. -/
def Completes (o : Out) : Prop := ∃ t, o = .next t

theorem Completes.next (t : State) : Completes (.next t) := ⟨t, rfl⟩

theorem execRxByte_completes (b : Byte) (s : State) : Completes (execRxByte b s) := by
  unfold execRxByte
  split
  · exact .next _
  · split <;> exact .next _

theorem execLineGrant_completes (l : Line) (s : State) : Completes (execLineGrant l s) := by
  unfold execLineGrant
  split
  · split
    · split <;> exact .next _
    · exact .next s
  · exact .next s

theorem execCallSent_completes (l : Line) (s : State) : Completes (execCallSent l s) := by
  unfold execCallSent
  split
  · split <;> exact .next _
  · exact .next s

/-- A window command acts on the open window of its own kind and leaves any other state as it is. -/
theorem window_completes {w : Option LineOp} {s : State} {act : LineOp → Out} (h : ∀ o, Completes (act o)) :
    Completes (match w with | some o => act o | none => .next s) := by
  cases w with
  | none => exact .next s
  | some o => exact h o

theorem exec_completes (c : Instr) (s : State) : Completes (exec c s) := by
  cases c with
  | rxByte b => exact execRxByte_completes b s
  | rxGapTimeout => simp only [exec, execRxGapTimeout]; split <;> exact .next _
  | reportSent => simp only [exec, execReportSent]; split <;> exact .next _
  | settlingExpiry l => simp only [exec, execSettlingExpiry]; split <;> exact .next _
  | overcurrentTrip l => simp only [exec, execOvercurrentTrip]; split <;> exact .next _
  | lineGrant l => exact execLineGrant_completes l s
  | callSent l => exact execCallSent_completes l s
  | slotWindow l h => exact window_completes fun o => by split <;> exact .next _
  | claimWindow l h => exact window_completes fun o => by split <;> exact .next _
  | bindOutcome l h => exact window_completes fun o => by split <;> exact .next _
  | hushWindow l h => exact window_completes fun o => by split <;> exact .next _
  | pollWindow l h => exact window_completes fun o => by split <;> exact .next _
  | pollDue l =>
    simp only [exec, execPollDue]
    split
    · split <;> exact .next _
    · exact .next s
  | attemptWindow l h => exact window_completes fun o => by split <;> exact .next _
  | releaseWindow l h => exact window_completes fun o => by split <;> exact .next _
  | quarantineExpiry l => simp only [exec, execQuarantineExpiry]; split <;> exact .next _
  | hushExpiry => simp only [exec, execHushExpiry]; split <;> exact .next _
  | _ => exact .next _

end Sys2Proof.Machine

open Sys2Proof.Machine

/-- Settles O1. -/
theorem stepRunsFrontCommand : Obligations.StepRunsFrontCommand := fun _ _ _ h => step_of_pending_cons h

/-- Settles O3: each meaning answers a next state on each of its branches. -/
theorem everyCommandAnswersNext : Obligations.EveryCommandAnswersNext := exec_completes

/-- Settles O4: POWER_ON_RESET answers the reset state, whose fields stand here one by one. -/
theorem powerOnResetSetsEveryBlock : Obligations.PowerOnResetSetsEveryBlock := fun _ => rfl

/-- Settles O6: everything is empty at the reset, and the pools hold the addresses 1..240. -/
theorem resetStateObeysEveryLaw : Obligations.ResetStateObeysEveryLaw := by
  refine ⟨?_, by decide, by decide, by decide, by decide, by decide, by decide, by decide, by decide, ?_, by decide,
    by decide, by decide, by decide, by decide⟩
  · have hline : ∀ l, State.reset.line l = LineState.reset := fun l => by cases l <;> rfl
    intro l _
    have hpool : AddressLaw State.reset l := by
      have hnone : State.reset.boundAddresses l = [] := rfl
      rw [AddressLaw, hline, hnone, List.append_nil, LineState.quarantined, LineState.reset, List.map_nil,
        List.append_nil]
    refine ⟨hpool, ?_, ?_, ?_, ?_, ?_, ?_, ?_, ?_, ?_, ?_⟩ <;> cases l <;> decide
  · decide

namespace Sys2Proof.Machine

open Sys2Proof.Statements

/-! ## RESET (R156, R170, R171, R178) -/

/-- A kept report whose rate, if any, is the table's stays as it is. -/
theorem State.keptReport_eq {s : State} (h : ∀ r ∈ (if s.departed = some s.clock then [] else s.reports.take 1),
    r.rateAfter = none ∨ r.rateAfter = some s.params.hostRate) :
    s.keptReport = (if s.departed = some s.clock then [] else s.reports.take 1) ∧
      s.rateAfterReset =
        if (if s.departed = some s.clock then [] else s.reports.take 1).any (·.rateAfter.isSome) then s.linkRate
        else s.params.hostRate := by
  by_cases hd : s.departed = some s.clock
  · obtain ⟨hkept, hrate⟩ := State.serveReset_of_departed hd
    simp [hkept, hrate, hd]
  · rw [if_neg hd] at h ⊢
    simp only [State.keptReport, State.rateAfterReset, State.sending_of_not_departed hd]
    cases hr : s.reports with
    | nil => simp
    | cons r rest =>
      have hrate := h r (by simp [hr])
      obtain ⟨tag, body, rate⟩ := r
      rcases hrate with hrate | hrate <;> dsimp only at hrate <;> subst hrate <;> simp

end Sys2Proof.Machine

open Sys2Proof.Statements in
/-- Settles O5: the reset state, with host_rate, the link's rate and the report in transmission kept from before. -/
theorem resetSetsEveryBlockButHostRate : Obligations.ResetSetsEveryBlockButHostRate := by
  intro s tag line rate kept hs hkept
  obtain ⟨hreports, hlink⟩ := State.keptReport_eq hkept
  have hserve := Request.exec_takes hs (r := .reset) rfl tag
  refine hserve.trans ?_
  simp only [State.serve, State.serveReset, hreports, hlink]
  rfl

end

section
/-! Proofs about requests that read (R39, R40, R54, R136, R158, R174): each answers with one report and changes nothing
else. -/

namespace Sys2Proof.Machine

open Sys2Proof.Statements

/-! ## What the roster shows (R39, R40) -/

/-- The first entry bearing an identity, and where it stands. -/
theorem State.lookup_of_split {s : State} {front back : List Entry} {e : Entry} {i : Ident}
    (h : s.roster = front ++ e :: back) (he : e.identity = i) (hfront : ∀ x ∈ front, x.identity ≠ i) :
    s.lookup i = some e ∧ s.roster.findIdx (·.identity == i) = front.length := by
  have hnone : front.find? (·.identity == i) = none := by simpa using hfront
  have hlength : front.findIdx (·.identity == i) = front.length :=
    List.findIdx_eq_length_of_false (by simpa using hfront)
  have he' : (e.identity == i) = true := by simpa using he
  constructor
  · rw [State.lookup, h, List.find?_append, hnone, Option.none_or,
      List.find?_cons_of_pos (p := fun x : Entry => x.identity == i) he']
  · rw [h, List.findIdx_append, hlength, if_neg (Nat.lt_irrefl _), List.findIdx_cons, he', cond_true, Nat.zero_add]

theorem State.lookup_eq_none {s : State} {i : Ident} : s.lookup i = none ↔ ∀ x ∈ s.roster, x.identity ≠ i := by
  simp [State.lookup]

theorem Request.body_getRoster (start count : Byte) :
    (Request.getRoster start.toNat count.toNat).body = [start, count] := by
  simp [Request.body, bytesOf_one]

/-! ## What the lines show (R54, R136) -/

theorem State.boundEntries_length (s : State) (l : Line) :
    (s.boundEntries l).length = s.roster.countP fun e => e.line == l && e.standing.isBound :=
  List.countP_eq_length_filter.symm

/-! ## What the parameter table shows (R174) -/

/-- The value of each of the twelve ids, in the order of the table. -/
theorem Params.value_eq (p : Params) {id v : Nat} (hid : 1 ≤ id)
    (h : [p.pollPeriod, p.missLimit, p.nodeLease, p.quarantineMargin, p.hushTime, p.retryLimit, p.speedA, p.speedB,
      p.expMin, p.expMax, p.hostRate, p.attentionReports][id - 1]? = some v) : p.value id = some v := by
  have hlt : id - 1 < 12 := (List.getElem?_eq_some_iff.mp h).1
  have hle : id ≤ 12 := by omega
  interval_cases id <;> exact h

theorem Params.value_eq_none (p : Params) {id : Nat} (h : id = 0 ∨ 12 < id) : p.value id = none := by
  unfold Params.value
  split <;> first | omega | rfl

theorem Request.body_getParam (id : Byte) : (Request.getParam id.toNat).body = [id] := by
  simp [Request.body, bytesOf_one]

end Sys2Proof.Machine

open Sys2Proof.Machine Sys2Proof.Statements

/-- Settles O7: the page is cut out of the roster at its start, and an entry's place is the length of what stands before
it. -/
theorem getRosterAndGetEntryShowEntries : Obligations.GetRosterAndGetEntryShowEntries := by
  refine ⟨fun s tag start count hs => ⟨fun ⟨hlo, hhi⟩ => ?_, fun hcount => ?_⟩,
    fun s tag i hs => ⟨fun front back e hroster he hfront => ?_, fun hnone => ?_⟩⟩
  · have hrange : (Request.getRoster start.toNat count.toNat).inRange = true := by
      have := start.isLt
      simp only [Request.inRange, Bool.and_eq_true, decide_eq_true_eq]
      omega
    have hserve := Request.exec_takes hs hrange tag
    rw [Request.command, Request.body_getRoster] at hserve
    exact hserve
  · have hbad : Sys2Proof.bodyWellFormed 0x01 [start, count] = false := by
      simp [Sys2Proof.bodyWellFormed, Sys2Proof.bodyByte]
      omega
    refine (congrArg _ (State.arrive_eq_refuse_malformed hs (by decide) hbad tag)).trans ?_
    rfl
  · obtain ⟨hlookup, hplace⟩ := State.lookup_of_split hroster he hfront
    refine (Request.exec_takes hs (r := .getEntry i) rfl tag).trans ?_
    simp only [State.serve, State.serveGetEntry, hlookup, hplace]
    rfl
  · refine (Request.exec_takes hs (r := .getEntry i) rfl tag).trans ?_
    simp only [State.serve, State.serveGetEntry, State.lookup_eq_none.mpr hnone]
    rfl

/-- Settles O8: the fields of either report are those the state holds, none being cleared. -/
theorem getLineAndGetLinkAnswerTheirInfo : Obligations.GetLineAndGetLinkAnswerTheirInfo := by
  refine ⟨fun s tag l hs => ?_, fun s tag hs => ?_⟩
  · refine (Request.exec_takes hs (r := .getLine l) rfl tag).trans ?_
    simp only [State.serve, State.serveGetLine, State.lineInfo, State.boundEntries_length]
    rfl
  · have hwaiting : s.inbound.length = 0 := by rw [hs.1, List.length_nil]
    refine (Request.exec_takes hs (r := .getLink) rfl tag).trans ?_
    simp only [State.serve, State.serveGetLink, State.linkInfo, State.reserved, hwaiting]
    rfl

/-- Settles O10: the id picks the value out of the table or names none. -/
theorem getParamAnswersTableValue : Obligations.GetParamAnswersTableValue := by
  intro s tag id hs p values
  have hserve := Request.exec_takes hs (r := .getParam id.toNat)
    (by have := id.isLt; simp [Request.inRange]; omega) tag
  rw [Request.command, Request.body_getParam] at hserve
  refine ⟨fun v hid hv => hserve.trans ?_, fun hid => hserve.trans ?_⟩
  · simp only [State.serve, State.serveGetParam, Params.value_eq s.params hid hv]
    rfl
  · simp only [State.serve, State.serveGetParam, Params.value_eq_none s.params hid]
    rfl

end

section
/-! Proofs about frames turned away or kept waiting, and about claims on the report queue (R142, R144, R148, R149, R155,
R164). -/

namespace Sys2Proof.Machine

open Sys2Proof.Statements

/-! ## A frame without room (R142, R144) -/

/-- The saturating counters of the statements are the model's. -/
theorem bump16_eq_saturating (c : BitVec 16) : bump16 c = saturating c := by
  unfold bump16
  split
  · rename_i h
    simp [h]
  · rfl

/-- Without room a frame that arrives joins the buffer or is discarded, and the dispatcher takes none. -/
theorem State.arrive_of_no_room {s : State} (h : s.room < 2) (k : Byte) (tag : Tag) (b : List Byte) :
    s.arrive k tag b = s.join ⟨k, tag, b⟩ := by
  refine State.drain_of_no_room ?_ _
  have hroom : (s.join ⟨k, tag, b⟩).room = s.room := by
    unfold State.join
    split <;> rfl
  rwa [hroom]

/-- Every command that brings a frame hands it to the dispatcher. -/
theorem exec_of_frameCommand {p : Byte × (Tag → List Byte → Instr)} {kind : Byte}
    (hp : p ∈ (kind, Instr.unknownKind kind) :: requestCommands) (s : State) (tag : Tag) (body : List Byte) :
    exec (p.2 tag body) s = .next (s.arrive p.1 tag body) := by
  rcases List.mem_cons.mp hp with rfl | hp
  · exact exec_unknownKind s kind tag body
  · exact exec_of_mem_requestCommands hp s tag body

/-! ## A close claim (R149, R155) -/

/-- The table without the only request of a tag. -/
theorem OpenAt.filter {s : State} {tag : Tag} {front back : List Req} {q : Req} (h : OpenAt s tag front q back) :
    s.table.filter (·.tag != tag) = front ++ back := by
  obtain ⟨htable, hq, hrest⟩ := h
  have hkeep : ∀ rs : List Req, (∀ r ∈ rs, r ∈ front ++ back) → rs.filter (·.tag != tag) = rs := fun rs hrs =>
    List.filter_eq_self.mpr fun r hr => by simpa using hrest r (hrs r hr)
  rw [htable, List.filter_append, List.filter_cons_of_neg (by simpa using hq),
    hkeep front fun r hr => List.mem_append_left _ hr, hkeep back fun r hr => List.mem_append_right _ hr]

theorem OpenAt.mem {s : State} {tag : Tag} {front back : List Req} {q : Req} (h : OpenAt s tag front q back) :
    ∃ r ∈ s.table, r.tag = tag := ⟨q, by simp [h.1], h.2.1⟩

/-- The CLOSED of a STOP behind the CLOSED that empties the table (R155). -/
theorem State.settleStop_eq_stopClosed (s : State) :
    s.settleStop = { s with
      reports := s.reports ++ stopClosed s (s.table = []), stop := stopLeft s (s.table = []) } := by
  have hsame : ∀ {rs : List Report} {st : Option StopRec}, rs = [] → st = s.stop →
      s = { s with reports := s.reports ++ rs, stop := st } := by
    rintro _ _ rfl rfl
    rw [List.append_nil]
  unfold State.settleStop
  cases hs : s.stop with
  | none => exact hsame (by simp [stopClosed, hs]) (by simp [stopLeft, hs])
  | some r =>
    by_cases ht : s.table = []
    · simp [ht, hs, State.push, stopClosed, stopLeft]
    · simp [ht, stopClosed, stopLeft]

/-- A close claim for a tag that is open: its CLOSED, and a STOP's behind it when it was the last (R149, R155). -/
theorem State.close_of_mem {s : State} {tag : Tag} (h : ∃ r ∈ s.table, r.tag = tag) (o : CloseOutcome)
    (x : CloseResult) :
    s.close tag o x = { s with
      table := s.table.filter (·.tag != tag)
      reports := s.reports ++ [report tag (.closed o x)] ++ stopClosed s (s.table.filter (·.tag != tag) = [])
      stop := stopLeft s (s.table.filter (·.tag != tag) = []) } := by
  unfold State.close
  rw [if_pos (by simpa using h), State.settleStop_eq_stopClosed]
  rfl

theorem State.close_of_openAt {s : State} {tag : Tag} {front back : List Req} {q : Req}
    (h : OpenAt s tag front q back) (o : CloseOutcome) (x : CloseResult) :
    s.close tag o x = { s with
      table := front ++ back
      reports := s.reports ++ [report tag (.closed o x)] ++ stopClosed s (front ++ back = [])
      stop := stopLeft s (front ++ back = []) } := by
  rw [State.close_of_mem (OpenAt.mem h), OpenAt.filter h]

end Sys2Proof.Machine

open Sys2Proof.Machine Sys2Proof.Statements

/-- Settles O15: without room the dispatcher takes nothing, so the buffer alone decides. -/
theorem frameWaitsOrIsDiscarded : Obligations.FrameWaitsOrIsDiscarded := by
  intro s kind tag body hroom p hp
  rw [exec_of_frameCommand hp, State.arrive_of_no_room hroom, State.join]
  refine ⟨fun hlt => by rw [if_pos hlt], fun hge => ?_⟩
  rw [if_neg (by simpa using hge), bump16_eq_saturating]

/-- Settles O22: the claim is the filter of the table, its CLOSED, and the STOP settled behind it. -/
theorem closeTakesItsReservation : Obligations.CloseTakesItsReservation := by
  intro s tag o x front back q
  refine ⟨fun htable hq hrest => ⟨fun hleft => ?_, fun r hempty hstop => ?_⟩, fun hnone => State.close_of_absent hnone o x⟩
  · rw [State.close_of_openAt ⟨htable, hq, hrest⟩]
    rcases hleft with hne | hstop
    · simp [stopClosed, stopLeft, hne]
    · simp [stopClosed, stopLeft, hstop]
  · rw [State.close_of_openAt ⟨htable, hq, hrest⟩, hempty]
    simp [stopClosed, stopLeft, hstop]

/-- Settles O23. -/
theorem eventIsQueuedOrCounted : Obligations.EventIsQueuedOrCounted := by
  intro s tag e
  refine ⟨fun hroom => ?_, fun hroom => ?_⟩
  · rw [State.pushEvent, if_pos hroom]
    rfl
  · rw [State.pushEvent, if_neg (by simpa [Sys2Proof.Config.eventRoom] using hroom), bump16_eq_saturating]

end

section
/-! Several close claims one after another (R149, R155): their CLOSED reports in order, the table less their requests, and
a STOP's CLOSED behind the one that empties the table. -/

namespace Sys2Proof.Machine

open Sys2Proof.Statements

/-- The state in which some reports have closed their requests, each taking the slot reserved for it. -/
def State.closes (s : State) (rs : List Report) : State :=
  { s with
    table := tableLess rs s.table
    stop := stopLeft s (Emptied s rs)
    reports := s.reports ++ rs ++ stopClosed s (Emptied s rs) }

section
variable (s : State) (rs : List Report) (l : Line)

@[simp] theorem State.closes_clock : (s.closes rs).clock = s.clock := rfl
@[simp] theorem State.closes_params : (s.closes rs).params = s.params := rfl
@[simp] theorem State.closes_roster : (s.closes rs).roster = s.roster := rfl
@[simp] theorem State.closes_nextSerial : (s.closes rs).nextSerial = s.nextSerial := rfl
@[simp] theorem State.closes_hush : (s.closes rs).hush = s.hush := rfl
@[simp] theorem State.closes_table : (s.closes rs).table = tableLess rs s.table := rfl
@[simp] theorem State.line_closes : (s.closes rs).line l = s.line l := by cases l <;> rfl

end

theorem tableLess_nil (table : List Req) : tableLess [] table = table := by simp [tableLess]

theorem tableLess_append (rs ps : List Report) (table : List Req) :
    tableLess ps (tableLess rs table) = tableLess (rs ++ ps) table := by
  simp only [tableLess, List.filter_filter, List.all_append]
  exact List.filter_congr fun q _ => Bool.and_comm _ _

theorem tableLess_singleton (tag : Tag) (b : ReportBody) (table : List Req) :
    tableLess [report tag b] table = table.filter (·.tag != tag) := by
  refine List.filter_congr fun q _ => ?_
  simp [bne, Bool.beq_comm (a := q.tag)]

theorem stopClosed_congr {s t : State} (hs : t.stop = s.stop) {p q : Prop} [Decidable p] [Decidable q] (h : p ↔ q) :
    stopClosed t p = stopClosed s q := by
  simp only [stopClosed, hs, h]

theorem stopLeft_congr {s t : State} (hs : t.stop = s.stop) {p q : Prop} [Decidable p] [Decidable q] (h : p ↔ q) :
    stopLeft t p = stopLeft s q := by
  simp only [stopLeft, hs, h]

/-- Two states that differ only on the host's side. -/
theorem State.with_host_congr (s : State) {tb tb' : List Req} {st st' : Option StopRec} {rs rs' : List Report}
    (ht : tb = tb') (hs : st = st') (hr : rs = rs') :
    ({ s with table := tb, stop := st, reports := rs } : State) = { s with table := tb', stop := st', reports := rs' } := by
  rw [ht, hs, hr]

theorem State.closes_nil (s : State) : s.closes [] = s := by
  have hkeep : ¬Emptied s [] := fun h => h.1 rfl
  simp only [State.closes, tableLess_nil, stopLeft, stopClosed, if_neg hkeep, List.append_nil]

/-- A close claim for an open tag. -/
theorem State.close_eq_closes {s : State} {tag : Tag} (h : ∃ q ∈ s.table, q.tag = tag) (o : CloseOutcome)
    (x : CloseResult) : s.close tag o x = s.closes [report tag (.closed o x)] := by
  have hiff : s.table.filter (·.tag != tag) = [] ↔ Emptied s [report tag (.closed o x)] := by
    simp only [Emptied, tableLess_singleton, ne_eq, not_false_eq_true, true_and, List.cons_ne_nil]
  rw [State.close_of_mem h]
  exact s.with_host_congr (tableLess_singleton tag _ s.table).symm (stopLeft_congr rfl hiff)
    (congrArg _ (stopClosed_congr rfl hiff))

theorem AllOpen.left {s : State} {rs ps : List Report} (h : AllOpen s (rs ++ ps)) : AllOpen s rs :=
  ⟨(List.map_append ▸ h.1).of_append_left, fun r hr => h.2 r (List.mem_append_left _ hr)⟩

/-- Reports that close behind others find their requests open still. -/
theorem AllOpen.right {s : State} {rs ps : List Report} (h : AllOpen s (rs ++ ps)) : AllOpen (s.closes rs) ps := by
  obtain ⟨hnodup, hopen⟩ := h
  rw [List.map_append, List.nodup_append] at hnodup
  obtain ⟨-, hps, hdisjoint⟩ := hnodup
  refine ⟨hps, fun r hr => ?_⟩
  obtain ⟨q, hq, hqr⟩ := hopen r (List.mem_append_right _ hr)
  refine ⟨q, List.mem_filter.mpr ⟨hq, List.all_eq_true.mpr fun x hx => ?_⟩, hqr⟩
  have := hdisjoint x.tag (List.mem_map_of_mem hx) r.tag (List.mem_map_of_mem hr)
  simpa [hqr] using this

/-- Only the last CLOSED of a list can empty the table. -/
theorem not_emptied_of_allOpen {s : State} {rs ps : List Report} (h : AllOpen s (rs ++ ps)) (hps : ps ≠ []) :
    ¬Emptied s rs := by
  rintro ⟨-, hempty⟩
  obtain ⟨r, hr⟩ := List.exists_mem_of_ne_nil ps hps
  obtain ⟨q, hq, -⟩ := (AllOpen.right h).2 r hr
  rw [State.closes_table, hempty] at hq
  exact nomatch hq

theorem State.closes_closes {s : State} {rs ps : List Report} (h : AllOpen s (rs ++ ps)) :
    (s.closes rs).closes ps = s.closes (rs ++ ps) := by
  cases ps with
  | nil => rw [State.closes_nil, List.append_nil]
  | cons p ps =>
    have hne : p :: ps ≠ [] := List.cons_ne_nil p ps
    have hfirst : ¬Emptied s rs := not_emptied_of_allOpen h hne
    have hboth : Emptied (s.closes rs) (p :: ps) ↔ Emptied s (rs ++ p :: ps) := by
      simp only [Emptied, State.closes_table, tableLess_append]
      exact ⟨fun h => ⟨by simp, h.2⟩, fun h => ⟨hne, h.2⟩⟩
    have hstop : (s.closes rs).stop = s.stop := if_neg hfirst
    have hreports : (s.closes rs).reports = s.reports ++ rs := by
      simp only [State.closes, stopClosed, if_neg hfirst, List.append_nil]
    refine s.with_host_congr (tableLess_append _ _ _) (stopLeft_congr hstop hboth) ?_
    rw [hreports, stopClosed_congr hstop hboth, List.append_assoc s.reports]

/-! ## Records that close together (R108, R114) -/

/-- The CLOSED of a record that closes without an answer of its own; a RELEASE has none (R114, R119). -/
abbrev closedTxn (o : CloseOutcome) (r : Txn) : Option Report :=
  if r.work = .release then none else some (report r.tag (.closed o (unfinished r)))

/-- The pending counts lowered by the records of a list that name their entries (R36). -/
abbrev lessPendingBy (rs : List Txn) (es : List Entry) : List Entry :=
  es.map fun e => { e with pendingTx := e.pendingTx - rs.countP (·.target == e.identity) }

theorem lessPendingBy_nil (es : List Entry) : lessPendingBy [] es = es := by simp [lessPendingBy]

theorem lessPendingBy_cons (r : Txn) (rs : List Txn) (es : List Entry) :
    lessPendingBy rs (lessPending r.target es) = lessPendingBy (r :: rs) es := by
  simp only [lessPendingBy, lessPending, List.map_map]
  refine List.map_congr_left fun e _ => ?_
  by_cases h : e.identity = r.target
  · simp [h, Nat.sub_sub, Nat.add_comm]
  · have h' : ¬r.target = e.identity := fun x => h x.symm
    simp [h, h']

/-- A record closed without an answer of its own. -/
theorem State.closeTxn_eq_closes {s : State} {r : Txn} {o : CloseOutcome} (ho : o ≠ .done)
    (h : AllOpen s (closedTxn o r).toList) :
    s.closeTxn r o none none =
      ({ s with roster := lessPending r.target s.roster } : State).closes (closedTxn o r).toList := by
  have hmem : ∀ x, closedTxn o r = some (report r.tag x) → ∃ q ∈ s.table, q.tag = r.tag := fun x hx =>
    h.2 (report r.tag x) (by simp [hx])
  unfold State.closeTxn
  cases hw : r.work with
  | read off len =>
    have hc : closedTxn o r = some (report r.tag (.closed o (.read r.attempts none none))) := by
      simp [closedTxn, unfinished, hw]
    rw [hc]
    exact State.close_eq_closes (s := { s with roster := lessPending r.target s.roster }) (hmem _ hc) o _
  | write off bytes =>
    have hc : closedTxn o r = some (report r.tag (.closed o (.write r.attempts r.stored none))) := by
      simp [closedTxn, unfinished, hw, Txn.stored]
    rw [hc]
    dsimp only
    rw [if_neg ho]
    exact State.close_eq_closes (s := { s with roster := lessPending r.target s.roster }) (hmem _ hc) o _
  | release =>
    have hc : closedTxn o r = none := by simp [closedTxn, hw]
    rw [hc]
    exact (State.closes_nil _).symm

/-- Records closed in order, each with its open request. -/
theorem State.closeTxns_eq_closes {s : State} {rs : List Txn} {o : CloseOutcome} (ho : o ≠ .done)
    (h : AllOpen s (rs.filterMap (closedTxn o))) :
    s.closeTxns rs o =
      ({ s with roster := lessPendingBy rs s.roster } : State).closes (rs.filterMap (closedTxn o)) := by
  induction rs generalizing s with
  | nil => simp [State.closeTxns, lessPendingBy_nil, State.closes_nil]
  | cons r rs ih =>
    have hsplit : (r :: rs).filterMap (closedTxn o) = (closedTxn o r).toList ++ rs.filterMap (closedTxn o) := by
      rw [List.filterMap_cons]
      cases closedTxn o r <;> rfl
    rw [hsplit] at h ⊢
    have hfirst := State.closeTxn_eq_closes ho (AllOpen.left h)
    have hrest := ih (s := s.closeTxn r o none none) (by rw [hfirst]; exact AllOpen.right h)
    refine hrest.trans ?_
    rw [hfirst]
    refine Eq.trans ?_ (State.closes_closes (s := { s with roster := lessPendingBy (r :: rs) s.roster }) h)
    rw [State.closes_roster, ← lessPendingBy_cons]
    rfl

end Sys2Proof.Machine
end

section
/-! Proofs about the admission of the long requests (R33, R34, R56, R57, R109, R118, R148): the checks in their order, and
what an admitted request brings. -/

namespace Sys2Proof.Machine

open Sys2Proof.Statements

/-! ## The general checks (R148) -/

theorem State.request_isSome_iff {s : State} {tag : Tag} : (s.request tag).isSome = true ↔ ∃ r ∈ s.table, r.tag = tag := by
  simp [State.request, List.find?_isSome]

theorem State.request_eq_none {s : State} {tag : Tag} (h : ∀ r ∈ s.table, r.tag ≠ tag) : s.request tag = none := by
  simpa [State.request] using h

theorem State.admissionRefusal_of_zero (s : State) (k : LongKind) : s.admissionRefusal 0 k = some .tagZero := rfl

theorem State.admissionRefusal_of_inUse {s : State} {tag : Tag} (k : LongKind) (hzero : tag ≠ 0)
    (h : (∃ r ∈ s.table, r.tag = tag) ∨ ∃ r, s.stop = some r ∧ r.tag = tag) :
    s.admissionRefusal tag k = some .tagInUse := by
  have hused : ((s.request tag).isSome || s.stop.any (·.tag == tag)) = true := by
    rw [Bool.or_eq_true, State.request_isSome_iff]
    exact h.imp_right fun ⟨r, hr, ht⟩ => by simp [hr, ht]
  rw [State.admissionRefusal, if_neg hzero, if_pos hused]

/-- With a free tag only an open STOP or a full table can refuse. -/
theorem State.admissionRefusal_of_free {s : State} {tag : Tag} (k : LongKind) (hzero : tag ≠ 0)
    (hfree : ∀ r ∈ s.table, r.tag ≠ tag) (hstop : ∀ r, s.stop = some r → r.tag ≠ tag) :
    s.admissionRefusal tag k =
      if s.stop.isSome then some .stopping
      else if k ≠ .stop ∧ 24 ≤ s.table.length then some .tableFull else none := by
  have hunused : ¬((s.request tag).isSome || s.stop.any (·.tag == tag)) = true := by
    rw [State.request_eq_none hfree, Option.isSome_none, Bool.false_or]
    cases hs : s.stop with
    | none => simp
    | some r => simpa using hstop r hs
  rw [State.admissionRefusal, if_neg hzero, if_neg hunused]

theorem State.admissionRefusal_of_admissible {s : State} {tag : Tag} (h : Admissible s tag) (k : LongKind) :
    s.admissionRefusal tag k = none := by
  obtain ⟨-, hzero, hfree, hstop, hlen⟩ := h
  rw [State.admissionRefusal_of_free k hzero hfree (by simp [hstop]), hstop]
  simp only [Option.isSome_none, Bool.false_eq_true, if_false]
  exact if_neg fun hfull => Nat.not_le.mpr hlen hfull.2

/-- The kind of a long request. -/
def Request.longKind : Request → Option LongKind
  | .census _ _ _ _ _ _ => some .census
  | .readNode _ _ _ => some .readNode
  | .writeNode _ _ _ => some .writeNode
  | .forget _ => some .forget
  | .linePower _ _ => some .linePower
  | .stop => some .stop
  | _ => none

/-- A long request that a general check turns away is refused and leaves no other trace. -/
theorem State.serve_of_admissionRefusal {s : State} {f : Frame} {r : Request} {k : LongKind} {x : Reason}
    (hk : r.longKind = some k) (h : s.admissionRefusal f.tag k = some x) : s.serve f r = s.refuse f x := by
  cases r <;> cases hk
  · simp only [State.serve, State.serveCensus, h, Option.some_or]
  · simp only [State.serve, State.serveReadNode, h, Option.some_or]
  · simp only [State.serve, State.serveWriteNode, h, Option.some_or]
  · simp only [State.serve, State.serveForget, h, Option.some_or]
  · simp only [State.serve, State.serveLinePower, h, Option.some_or]
  · simp only [State.serve, State.serveStop, h]

theorem Request.exec_of_admissionRefusal {s : State} (hs : TakesNow s) {r : Request} (hr : r.inRange = true) {tag : Tag}
    {k : LongKind} {x : Reason} (hk : r.longKind = some k) (h : s.admissionRefusal tag k = some x) :
    exec (r.command tag) s =
      .next { s with reports := s.reports ++ [report tag (.refused r.kind x)] } := by
  rw [Request.exec_takes hs hr, State.serve_of_admissionRefusal hk h]
  rfl

/-! ## What an admitted request brings -/

theorem State.take_eq (s : State) (r : Req) :
    s.take r = { s with reports := s.reports ++ [report r.tag (.taken r.kind)], table := s.table ++ [r] } := rfl

theorem State.serveCensus_of_admissible {s : State} {f : Frame} (h : Admissible s f.tag) (l : Line) (p : Policy)
    (e b n : Nat) (bits : BitVec 64) :
    (∀ x, s.censusRefusal l e n = some x → s.serveCensus f l p e b n bits = s.refuse f x) ∧
      (s.censusRefusal l e n = none → s.serveCensus f l p e b n bits =
        (s.take { tag := f.tag, kind := .census, line := l, state := .queued, target := none }).modLine l fun L =>
          { L with census := some (Census.fresh f.tag p e b n (scopePart n bits)) }) := by
  simp only [State.serveCensus, State.admissionRefusal_of_admissible h, Option.none_or]
  exact ⟨fun x hx => by rw [hx], fun hx => by rw [hx]⟩

theorem State.serve_transaction_of_admissible {s : State} {f : Frame} (h : Admissible s f.tag) {r : Request} {i : Ident}
    {off len : Nat} {k : LongKind} {w : TxnWork}
    (hr : r = .readNode i off len ∧ k = .readNode ∧ w = .read off len ∨
      ∃ bs : List Byte, bs.length = len ∧ r = .writeNode i off bs ∧ k = .writeNode ∧ w = .write off bs) :
    (∀ x, s.txnRefusal i off len = some x → s.serve f r = s.refuse f x) ∧
      (s.txnRefusal i off len = none → s.serve f r = s.admitTxn f.tag k i w) := by
  rcases hr with ⟨rfl, rfl, rfl⟩ | ⟨bs, rfl, rfl, rfl, rfl⟩
  · simp only [State.serve, State.serveReadNode, State.admissionRefusal_of_admissible h, Option.none_or]
    exact ⟨fun x hx => by rw [hx], fun hx => by rw [hx]⟩
  · simp only [State.serve, State.serveWriteNode, State.admissionRefusal_of_admissible h, Option.none_or]
    exact ⟨fun x hx => by rw [hx], fun hx => by rw [hx]⟩

theorem State.serveForget_of_admissible {s : State} {f : Frame} (h : Admissible s f.tag) (i : Ident) :
    (∀ x, s.forgetRefusal i = some x → s.serveForget f i = s.refuse f x) ∧
      ∀ e, s.forgetRefusal i = none → s.lookup i = some e → s.serveForget f i = s.admitForget f.tag e := by
  simp only [State.serveForget, State.admissionRefusal_of_admissible h, Option.none_or]
  exact ⟨fun x hx => by rw [hx], fun e hx he => by rw [hx, he]⟩

end Sys2Proof.Machine

open Sys2Proof.Machine Sys2Proof.Statements

/-- Settles O16: the six requests meet the general checks first, whichever they are. -/
theorem longRequestChecksInOrder : Obligations.LongRequestChecksInOrder := by
  intro s tag i l d policy e b n bits off len bytes hs he hb hn hoff hlo hhi hblo hbhi p hp refused
  have hlong : ∃ r : Request, ∃ k, r.inRange = true ∧ r.longKind = some k ∧ p = (r.kind, r.command tag) ∧
      (p.1 ≠ 0x15 → k ≠ .stop) := by
    simp only [List.mem_cons, List.not_mem_nil, or_false] at hp
    rcases hp with rfl | rfl | rfl | rfl | rfl | rfl
    · exact ⟨.census l policy e b n bits, _, by simp [Request.inRange, he, hb, hn], rfl, rfl, by simp⟩
    · exact ⟨.readNode i off len, _, by simp [Request.inRange, hoff, hlo, hhi], rfl, rfl, by simp⟩
    · exact ⟨.writeNode i off bytes, _, by simp [Request.inRange, hoff, hblo, hbhi], rfl, rfl, by simp⟩
    · exact ⟨.forget i, _, rfl, rfl, rfl, by simp⟩
    · exact ⟨.linePower l d, _, rfl, rfl, rfl, by simp⟩
    · exact ⟨.stop, _, rfl, rfl, rfl, fun h => absurd rfl h⟩
  obtain ⟨r, k, hr, hk, rfl, hstop⟩ := hlong
  have hrefused : ∀ x, s.admissionRefusal tag k = some x → refused x := fun x hx =>
    Request.exec_of_admissionRefusal hs hr hk hx
  refine ⟨?_, fun hzero => ⟨fun huse => ?_, fun hfree ⟨x, hx, hne⟩ => ?_, fun hfree hnone hfull hkind => ?_⟩⟩
  · rintro rfl
    exact hrefused _ (s.admissionRefusal_of_zero k)
  · exact hrefused _ (State.admissionRefusal_of_inUse k hzero huse)
  · refine hrefused _ ((State.admissionRefusal_of_free k hzero hfree ?_).trans ?_)
    · intro y hy
      obtain rfl := Option.some.inj (hx.symm.trans hy)
      exact hne
    · rw [hx]
      rfl
  · refine hrefused _ ((State.admissionRefusal_of_free k hzero hfree (by simp [hnone])).trans ?_)
    simp [hnone, hstop hkind, hfull]

/-- Settles O24: the census passes its own checks, and its context is the fresh one. -/
theorem censusMakesContext : Obligations.CensusMakesContext := by
  intro s tag l p e b n bits hs hup hnone hlo hhi he hb hn
  have hpass : s.censusRefusal l e n = none := by
    simp only [State.censusRefusal, hup, hnone]
    simp
    omega
  refine (Request.exec_takes hs.1 (r := .census l p e b n bits) ?_ tag).trans ?_
  · simp only [Request.inRange, Bool.and_eq_true, decide_eq_true_eq]
    omega
  · rw [State.serve, (State.serveCensus_of_admissible hs l p e b n bits).2 hpass]
    cases l <;> rfl

/-- Settles O25: both transactions pass the same checks and join the queue by the same claim. -/
theorem transactionJoinsQueue : Obligations.TransactionJoinsQueue := by
  intro s tag e off len bytes hs hlookup hbound hforget hqueue hoff record joined
  have hpass : ∀ len, off + len ≤ e.memorySize → s.txnRefusal e.identity off len = none := by
    intro len hlen
    simp only [State.txnRefusal, hlookup, hbound, hforget]
    simp [Nat.not_lt.mpr hlen, Nat.not_le.mpr hqueue]
  have hadmit : ∀ k w, s.admitTxn tag k e.identity w = joined k w := by
    intro k w
    simp only [State.admitTxn, hlookup]
    cases hl : e.line <;> simp only [joined, hl] <;> rfl
  refine ⟨fun hlo hhi hlen => ?_, fun hlo hhi hlen => ?_⟩
  · refine (Request.exec_takes hs.1 (r := .readNode e.identity off len)
      (by simp [Request.inRange, hoff, hlo, hhi]) tag).trans ?_
    rw [(State.serve_transaction_of_admissible hs (.inl ⟨rfl, rfl, rfl⟩)).2 (hpass len hlen), hadmit]
  · refine (Request.exec_takes hs.1 (r := .writeNode e.identity off bytes)
      (by simp [Request.inRange, hoff, hlo, hhi]) tag).trans ?_
    rw [(State.serve_transaction_of_admissible hs (.inr ⟨bytes, rfl, rfl, rfl, rfl⟩)).2 (hpass _ hlen), hadmit]

/-- Settles O27: each request's own checks decide once the general ones are passed. -/
theorem ownChecksOfLongRequestsInOrder : Obligations.OwnChecksOfLongRequestsInOrder := by
  intro s tag hs refused
  refine ⟨?_, fun i off len bytes hoff hlo hhi hlen q hq => ?_, ?_⟩
  · intro l p e b n bits he hb hn census
    have hrefused : ∀ x, s.censusRefusal l e n = some x → refused census 0x10 x := fun x hx => by
      refine (Request.exec_takes hs.1 (r := .census l p e b n bits)
        (by simp [Request.inRange, he, hb, hn]) tag).trans ?_
      rw [State.serve, (State.serveCensus_of_admissible hs l p e b n bits).1 x hx]
      rfl
    refine ⟨fun hdown => hrefused _ (if_pos hdown), fun hup => ⟨fun hopen => ?_, fun hnone hbad => ?_⟩⟩
    · exact hrefused _ (by simp [State.censusRefusal, hup, hopen])
    · exact hrefused _ (by simp [State.censusRefusal, hup, hnone, hbad])
  · have hrefused : ∀ x, s.txnRefusal i off len = some x → refused q.2 q.1 x := by
      intro x hx
      simp only [List.mem_cons, List.not_mem_nil, or_false] at hq
      rcases hq with rfl | rfl
      · refine (Request.exec_takes hs.1 (r := .readNode i off len)
          (by simp [Request.inRange, hoff, hlo, hhi]) tag).trans ?_
        rw [(State.serve_transaction_of_admissible hs (.inl ⟨rfl, rfl, rfl⟩)).1 x hx]
        rfl
      · refine (Request.exec_takes hs.1 (r := .writeNode i off bytes)
          (by simp [Request.inRange, hoff, hlen, hlo, hhi]) tag).trans ?_
        rw [(State.serve_transaction_of_admissible hs (.inr ⟨bytes, hlen, rfl, rfl, rfl⟩)).1 x hx]
        rfl
    refine ⟨fun hnone => hrefused _ (by simp [State.txnRefusal, State.lookup_eq_none.mpr hnone]), fun e he =>
      ⟨fun hnot => hrefused _ ?_, fun hbound => ⟨fun hforget => hrefused _ ?_, fun hforget =>
        ⟨fun hrange => hrefused _ ?_, fun hfits hfull => hrefused _ ?_⟩⟩⟩⟩
    · simp [State.txnRefusal, he, hnot]
    · simp [State.txnRefusal, he, hbound, hforget]
    · simp [State.txnRefusal, he, hbound, hforget, hrange]
    · simp [State.txnRefusal, he, hbound, hforget, hfits, hfull]
  · intro i forget
    have hrefused : ∀ x, s.forgetRefusal i = some x → refused forget 0x13 x := fun x hx => by
      refine (Request.exec_takes hs.1 (r := .forget i) rfl tag).trans ?_
      rw [State.serve, (State.serveForget_of_admissible hs i).1 x hx]
      rfl
    refine ⟨fun hnone => hrefused _ (by simp [State.forgetRefusal, State.lookup_eq_none.mpr hnone]), fun e he =>
      ⟨fun hforget => hrefused _ ?_, fun hforget hbound hfull => hrefused _ ?_⟩⟩
    · simp [State.forgetRefusal, he, hforget]
    · rw [List.countP_eq_length_filter] at hfull
      simp [State.forgetRefusal, he, hforget, hbound, queuedFor, hfull]

end

section
/-! Proofs about FORGET and LINE_POWER as they are admitted (R33 to R35, R53, R118, R127, R128). -/

namespace Sys2Proof.Machine

open Sys2Proof.Statements

/-! ## Entries told apart (R18) -/

theorem State.mem_of_lookup {s : State} {i : Ident} {e : Entry} (h : s.lookup i = some e) :
    e ∈ s.roster ∧ e.identity = i :=
  ⟨List.mem_of_find?_eq_some h, by simpa using List.find?_some h⟩

theorem RosterLaw.identity_inj {s : State} (h : RosterLaw s) {x y : Entry} (hx : x ∈ s.roster) (hy : y ∈ s.roster)
    (he : x.identity = y.identity) : x = y :=
  List.inj_on_of_nodup_map h.2.1 hx hy he

theorem RosterLaw.serial_inj {s : State} (h : RosterLaw s) {x y : Entry} (hx : x ∈ s.roster) (hy : y ∈ s.roster)
    (he : x.serial = y.serial) : x = y :=
  List.inj_on_of_nodup_map h.2.2.1 hx hy he

/-- An entry of the roster is told by its serial as by its identity. -/
theorem RosterLaw.serial_iff {s : State} (h : RosterLaw s) {x y : Entry} (hx : x ∈ s.roster) (hy : y ∈ s.roster) :
    x.serial = y.serial ↔ x.identity = y.identity :=
  ⟨fun he => h.serial_inj hx hy he ▸ rfl, fun he => h.identity_inj hx hy he ▸ rfl⟩

/-- The roster without an entry, told either way. -/
theorem RosterLaw.filter_serial {s : State} (h : RosterLaw s) {e : Entry} (he : e ∈ s.roster) :
    s.roster.filter (·.serial != e.serial) = s.roster.filter (·.identity != e.identity) :=
  List.filter_congr fun x hx => by
    rw [Bool.eq_iff_iff, bne_iff_ne, bne_iff_ne, ne_eq, ne_eq, h.serial_iff hx he]

/-- The roster with an entry changed, told either way. -/
theorem RosterLaw.map_serial {s : State} (h : RosterLaw s) {e : Entry} (he : e ∈ s.roster) (f : Entry → Entry) :
    (s.roster.map fun x => if x.serial = e.serial then f x else x) = withEntry e.identity f s.roster :=
  List.map_congr_left fun x hx => by simp only [h.serial_iff hx he]

/-- An entry removed, and the record of its held address without an origin (R35, R53). -/
theorem State.removeEntry_eq (s : State) (e : Entry) :
    s.removeEntry e = ({ s with roster := s.roster.filter (·.serial != e.serial) } : State).setLine e.line
      { s.line e.line with
        quarantine := (s.line e.line).quarantine.map fun r =>
          if e.held = some r.address then { r with origin := none } else r } := by
  unfold State.removeEntry
  cases hh : e.held with
  | none =>
    have hmap : (s.line e.line).quarantine.map (fun r =>
        if (none : Option Address) = some r.address then { r with origin := none } else r) =
          (s.line e.line).quarantine := by simp
    simp only [hmap]
    exact (State.setLine_line { s with roster := s.roster.filter (·.serial != e.serial) } e.line).symm.trans
      (by rw [State.line_with_roster])
  | some a =>
    simp only [State.clearOrigin, State.modLine_eq_setLine, State.line_with_roster, Option.some.injEq, @eq_comm _ a]

/-! ## A request that closes as it is admitted -/

/-- A FORGET or LINE_POWER that closes at once takes its own slot back and leaves the table as it was. -/
theorem State.close_taken {u : State} {table : List Req} {r : Req} (hu : u.table = table ++ [r]) (hstop : u.stop = none)
    (hfree : ∀ q ∈ table, q.tag ≠ r.tag) (o : CloseOutcome) (x : CloseResult) :
    u.close r.tag o x = { u with table := table, reports := u.reports ++ [report r.tag (.closed o x)] } := by
  have hopen : OpenAt u r.tag table r [] := ⟨hu, rfl, by simpa using hfree⟩
  rw [State.close_of_openAt hopen, List.append_nil]
  refine u.with_host_congr rfl ?_ ?_ <;> simp [stopLeft, stopClosed, hstop]

/-! ## FORGET (R33 to R35, R118) -/

/-- Records that have had no attempt and are no RELEASE close as a list of their own. -/
theorem filterMap_closedTxn {rs : List Txn} {o : CloseOutcome} (h : ∀ r ∈ rs, r.work ≠ .release) :
    rs.filterMap (closedTxn o) = rs.map fun r => report r.tag (.closed o (unfinished r)) := by
  rw [← List.filterMap_eq_map]
  exact List.filterMap_congr fun r hr => if_neg (h r hr)

/-- The result of a record that no attempt left unheard or in flight. -/
theorem unfinished_of_unsent {r : Txn} (hu : r.unheard = 0) (hf : r.inFlight = false) :
    unfinished r = match r.work with
      | .read _ _ => .read r.attempts none none
      | _ => .write r.attempts .no none := by
  simp only [unfinished, hu, hf, and_self, if_true] <;> cases r.work <;> rfl

/-- A BOUND entry takes forgetting, its queued records close, and a RELEASE joins the queue (R33, R118). -/
theorem State.admitForget_of_bound {s : State} {tag : Tag} {e : Entry} (hstop : s.stop = none)
    (hbound : e.standing.isBound = true)
    (hgone : ∀ r ∈ queuedFor (s.line e.line).queue e.identity, r.unheard = 0 ∧ r.inFlight = false ∧ r.work ≠ .release ∧
      r.tag ≠ tag ∧ ∃ q ∈ s.table, q.tag = r.tag)
    (hnodup : ((queuedFor (s.line e.line).queue e.identity).map (·.tag)).Nodup) :
    s.admitForget tag e = ({ s with
      reports := s.reports ++ report tag (.taken .forget) ::
        (queuedFor (s.line e.line).queue e.identity).map fun r => report r.tag (.closed .targetGone (unfinished r))
      table := s.table.filter (fun q => (queuedFor (s.line e.line).queue e.identity).all (·.tag != q.tag)) ++
        [{ tag := tag, kind := .forget, line := e.line, state := .queued, target := some e.identity }]
      roster := s.roster.map fun x =>
        if x.identity = e.identity then
          { x with forgetting := some tag,
                   pendingTx := x.pendingTx + 1 - (queuedFor (s.line e.line).queue e.identity).length }
        else x } : State).setLine e.line { s.line e.line with
          queue := notQueuedFor (s.line e.line).queue e.identity ++
            [{ tag := tag, work := .release, target := e.identity, attempts := 0, unheard := 0, halt := none,
               inFlight := false }] } := by
  unfold State.admitForget
  dsimp only
  rw [if_pos hbound]
  generalize hq : queuedFor (s.line e.line).queue e.identity = gone at hgone hnodup ⊢
  have htarget : ∀ r ∈ gone, r.target = e.identity := by
    intro r hr
    rw [← hq] at hr
    have := (List.mem_filter.mp hr).2
    simp only [Bool.and_eq_true, beq_iff_eq] at this
    exact this.1
  have hmap : gone.filterMap (closedTxn .targetGone) =
      gone.map fun r => report r.tag (.closed .targetGone (unfinished r)) :=
    filterMap_closedTxn fun r hr => (hgone r hr).2.2.1
  rw [State.closeTxns_eq_closes (by decide), hmap]
  · have hnew : gone.all (·.tag != tag) = true := by
      simp only [List.all_eq_true, bne_iff_ne]
      exact fun r hr => (hgone r hr).2.2.2.1
    have hcount : ∀ x : Entry, gone.countP (·.target == x.identity) =
        if x.identity = e.identity then gone.length else 0 := by
      intro x
      split
      · rename_i hx
        exact List.countP_eq_length.mpr fun r hr => by simp [htarget r hr, hx]
      · rename_i hx
        exact List.countP_eq_zero.mpr fun r hr => by simp [htarget r hr, Ne.symm hx]
    have hroster : lessPendingBy gone (s.roster.map fun x =>
        if x.identity = e.identity then { x with forgetting := some tag, pendingTx := x.pendingTx + 1 } else x) =
        s.roster.map fun x =>
          if x.identity = e.identity then
            { x with forgetting := some tag, pendingTx := x.pendingTx + 1 - gone.length }
          else x := by
      simp only [lessPendingBy, List.map_map]
      refine List.map_congr_left fun x _ => ?_
      simp only [Function.comp, hcount]
      split <;> rename_i hx <;> simp [hx]
    have htable : ∀ new : Req, new.tag = tag →
        tableLess (gone.map fun r => report r.tag (.closed .targetGone (unfinished r))) (s.table ++ [new]) =
          s.table.filter (fun q => gone.all (·.tag != q.tag)) ++ [new] := by
      intro new hn
      simp only [tableLess, List.filter_append, List.all_map]
      congr 1
      exact List.filter_eq_self.mpr fun q hq => by
        rw [List.mem_singleton.mp hq]
        simpa [Function.comp_def, hn] using hnew
    cases hl : e.line <;>
      simp [State.closes, State.setQueue, State.modLine, State.setLine, State.updNamed, State.take_eq, htable,
        stopLeft, stopClosed, hstop, hroster, State.line]
  · rw [hmap]
    refine ⟨by simpa [Function.comp_def] using hnodup, fun r hr => ?_⟩
    obtain ⟨x, hx, rfl⟩ := List.mem_map.mp hr
    obtain ⟨q, hq, hqx⟩ := (hgone x hx).2.2.2.2
    exact ⟨q, by cases hl : e.line <;> simp [State.setQueue, State.updNamed, State.take_eq, hq], hqx⟩

/-- A LOST or UNBOUND entry is removed, and its FORGET closes at once (R34, R35, R53). -/
theorem State.admitForget_of_not_bound {s : State} {tag : Tag} {e : Entry} (hr : RosterLaw s) (he : e ∈ s.roster)
    (hfree : ∀ q ∈ s.table, q.tag ≠ tag) (hstop : s.stop = none) (hbound : e.standing.isBound = false) :
    s.admitForget tag e = ({ s with
      reports := s.reports ++ [report tag (.taken .forget), report tag (.closed .done (.forget e.identity .direct))]
      roster := s.roster.filter fun x => x.identity != e.identity } : State).setLine e.line
        { s.line e.line with
          quarantine := (s.line e.line).quarantine.map fun r =>
            if e.held = some r.address then { r with origin := none } else r } := by
  unfold State.admitForget State.closeForget
  dsimp only
  rw [if_neg (by simp [hbound]), State.removeEntry_eq, State.close_taken (table := s.table) (r := {
      tag := tag, kind := .forget, line := e.line, state := .queued, target := some e.identity })
    (by simp [State.take_eq]) (by simpa [State.take_eq] using hstop) hfree]
  have hfilter := hr.filter_serial he
  simp only [State.take_eq, hfilter]
  cases hl : e.line <;> simp [State.setLine, State.line]

end Sys2Proof.Machine

open Sys2Proof.Machine Sys2Proof.Statements

/-- Settles O26: of a BOUND entry the queued records close in order behind TAKEN; any other entry leaves at once. -/
theorem forgetActsByEntryState : Obligations.ForgetActsByEntryState := by
  constructor
  · intro s tag e hs hlookup hbound hforget queue gone stay hstay hgone hnodup
    have hpass : s.forgetRefusal e.identity = none := by
      have hkept : queue.length - gone.length = stay.length := by
        have := List.length_eq_length_filter_add (l := queue) fun r => r.target == e.identity && r.attempts == 0
        have hs : stay.length = (queue.filter fun r => !(r.target == e.identity && r.attempts == 0)).length := rfl
        have hg : gone.length = (queue.filter fun r => r.target == e.identity && r.attempts == 0).length := rfl
        omega
      have hroom : ¬16 ≤ queue.length - gone.length := by omega
      simp only [State.forgetRefusal, hlookup, hforget, hbound, Option.isSome_none, Bool.false_eq_true, if_false, true_and]
      exact if_neg hroom
    refine (Request.exec_takes hs.1 (r := .forget e.identity) rfl tag).trans ?_
    rw [State.serve, (State.serveForget_of_admissible hs _).2 e hpass hlookup,
      State.admitForget_of_bound hs.2.2.2.1 hbound hgone hnodup]
    have hresults : (gone.map fun r => report r.tag (.closed .targetGone (unfinished r))) = gone.map fun r =>
        report r.tag (.closed .targetGone (match r.work with
          | .read _ _ => .read r.attempts none none
          | _ => .write r.attempts .no none)) :=
      List.map_congr_left fun r hr => by rw [unfinished_of_unsent (hgone r hr).1 (hgone r hr).2.1]
    exact congrArg (fun rs => Host.Outcome.next (State.setLine { s with
      reports := s.reports ++ report tag (.taken .forget) :: rs, table := _, roster := _ } e.line _)) hresults
  · intro s tag e hs hroster hlookup hbound hforget
    have hpass : s.forgetRefusal e.identity = none := by
      simp [State.forgetRefusal, hlookup, hforget, hbound]
    refine (Request.exec_takes hs.1 (r := .forget e.identity) rfl tag).trans ?_
    rw [State.serve, (State.serveForget_of_admissible hs _).2 e hpass hlookup,
      State.admitForget_of_not_bound hroster (State.mem_of_lookup hlookup).1 hs.2.2.1 hs.2.2.2.1 hbound]

end

section
/-! Proofs about LINE_POWER as it is admitted (R127, R128, R130), SET_PARAM (R172, R175, R177, R178) and a CANCEL that finds
nothing to cancel (R152). -/

namespace Sys2Proof.Machine

open Sys2Proof.Statements

/-! ## LINE_POWER (R127, R128) -/

theorem State.serveLinePower_of_admissible {s : State} {f : Frame} (h : Admissible s f.tag) (l : Line) (d : Direction) :
    ((s.line l).powerBusy d = true → s.serveLinePower f l d = s.refuse f .lineBusy) ∧
      ((s.line l).powerBusy d = false → s.serveLinePower f l d =
        (s.take { tag := f.tag, kind := .linePower, line := l, state := .running, target := none }).actPower l d f.tag) := by
  simp only [State.serveLinePower, State.admissionRefusal_of_admissible h, Option.none_or]
  exact ⟨fun hb => by rw [hb]; rfl, fun hb => by rw [hb]; rfl⟩

theorem LineState.powerBusy_iff {L : LineState} {d : Direction} :
    L.powerBusy d = true ↔ (L.openPower.any (·.2 == .on) = true ∧ d = .on) ∨ L.offOpen = true := by
  unfold LineState.powerBusy LineState.offOpen
  rcases L.openPower with _ | ⟨tag, _ | _⟩ <;> cases d <;> simp

/-- The state in which a LINE_POWER has been answered TAKEN. -/
abbrev State.takenPower (s : State) (tag : Tag) (l : Line) : State :=
  s.take { tag := tag, kind := .linePower, line := l, state := .running, target := none }

@[simp] theorem State.line_take (s : State) (r : Req) (l : Line) : (s.take r).line l = s.line l := by
  cases l <;> rfl

/-- A LINE_POWER with nothing to do closes at once and leaves the table as it was. -/
theorem State.takenPower_close {s : State} {tag : Tag} (h : Admissible s tag) (l : Line) (o : CloseOutcome)
    (x : CloseResult) :
    (s.takenPower tag l).close tag o x =
      { s with reports := s.reports ++ [report tag (.taken .linePower), report tag (.closed o x)] } := by
  refine (State.close_taken (u := s.takenPower tag l) (table := s.table)
    (r := { tag := tag, kind := .linePower, line := l, state := .running, target := none }) rfl h.2.2.2.1
    h.2.2.1 o x).trans ?_
  simp [State.take_eq]

/-- An off that supersedes an on: the on closes CANCELLED, power goes, and the off closes behind it (R128). -/
theorem State.actPower_settling_off {s : State} {tag on : Tag} {l : Line} {front back : List Req} {q : Req}
    (h : Admissible s tag) (hpower : (s.line l).power = .settling) (hon : (s.line l).openPower = some (on, .on))
    (htable : OpenAt s on front q back) :
    (s.takenPower tag l).actPower l .off tag = (({ s with
      reports := s.reports ++ [report tag (.taken .linePower), report on (.closed .cancelled (.linePower l .off 0)),
        report tag (.closed .done (.linePower l .off 0))]
      table := front ++ back } : State).setLine l
      { s.line l with power := .off, settleAt := none, speed := none, openPower := none }) := by
  obtain ⟨-, -, hfree, hstop, -⟩ := h
  obtain ⟨hs, hq, hrest⟩ := htable
  have hne : tag ≠ on := fun he => hfree q (by simp [hs]) (hq.trans he.symm)
  have hact : (s.takenPower tag l).actPower l .off tag =
      (((s.takenPower tag l).unpower l .off).closePower l .cancelled .off 0).close tag .done
        (.linePower l .off 0) := by
    simp only [State.actPower, State.line_take, hpower]
  have hopen : OpenAt (((s.takenPower tag l).unpower l .off).modLine l fun L => { L with openPower := none }) on front q
      (back ++ [{ tag := tag, kind := .linePower, line := l, state := .running, target := none }]) := by
    refine ⟨by simp [State.unpower, State.take_eq, hs], hq, fun r hr => ?_⟩
    rcases List.mem_append.mp hr with hr | hr
    · exact hrest r (List.mem_append_left _ hr)
    · rcases List.mem_append.mp hr with hr | hr
      · exact hrest r (List.mem_append_right _ hr)
      · rw [List.mem_singleton.mp hr]; exact hne
  have hcancel : ((s.takenPower tag l).unpower l .off).closePower l .cancelled .off 0 =
      (((s.takenPower tag l).unpower l .off).modLine l fun L => { L with openPower := none }).close on .cancelled
        (.linePower l .off 0) := by
    simp only [State.closePower, State.unpower, State.line_modLine, State.line_take, hon]
  rw [hact, hcancel, State.close_of_openAt hopen, State.close_taken (table := front ++ back)
    (r := { tag := tag, kind := .linePower, line := l, state := .running, target := none })
    (by simp) (by simp [stopLeft, State.unpower, State.take_eq, hstop])
    fun r hr => hfree r (by
      rw [hs]
      exact (List.mem_append.mp hr).elim (List.mem_append_left _)
        fun hr => List.mem_append_right _ (List.mem_cons_of_mem q hr))]
  cases l <;>
    simp [stopLeft, stopClosed, State.unpower, State.take_eq, State.modLine, State.setLine, State.line, hstop]

/-! ## SET_PARAM (R172, R175, R177, R178) -/

theorem paramRange_eq {id lo hi : Nat} (hid : 1 ≤ id) (h : paramRanges[id - 1]? = some (lo, hi)) :
    paramRange id = some (lo, hi) ∧ id ≤ 12 := by
  have hlt : id - 1 < 12 := (List.getElem?_eq_some_iff.mp h).1
  have hle : id ≤ 12 := by omega
  refine ⟨?_, hle⟩
  interval_cases id <;> exact h

theorem Params.store_eq {p q : Params} {id v : Nat} (hid : 1 ≤ id) (h : (storedParams p v)[id - 1]? = some q) :
    p.store id v = q := by
  have hlt : id - 1 < 12 := (List.getElem?_eq_some_iff.mp h).1
  have hle : id ≤ 12 := by omega
  interval_cases id <;> exact Option.some.inj h

theorem Params.crossOk_iff (p : Params) : p.crossOk = true ↔ CrossChecked p := by
  simp [Params.crossOk, CrossChecked]

/-- The lock of a speed parameter (R177): the line whose speed the id names is SETTLING or UP. -/
theorem State.speedLocked_iff (s : State) (id : Nat) :
    (speedLine id).any (fun l => (s.line l).speedLocked) = true ↔
      ∃ l, ((id = 7 ∧ l = .A) ∨ (id = 8 ∧ l = .B)) ∧ ((s.line l).power = .settling ∨ (s.line l).power = .up) := by
  unfold speedLine
  split
  · simp [LineState.speedLocked]
  · simp [LineState.speedLocked]
  · rename_i h7 h8
    simp only [Option.any_none, Bool.false_eq_true, false_iff]
    rintro ⟨l, ⟨rfl, -⟩ | ⟨rfl, -⟩, -⟩
    · exact h7 rfl
    · exact h8 rfl

/-- A value that breaks a cross-check of a table that met both (R175). -/
theorem Params.crossOk_store {p : Params} {id v : Nat} (h : (id = 1 ∧ p.nodeLease < 2 * v) ∨ (id = 3 ∧ v < 2 * p.pollPeriod) ∨
    (id = 9 ∧ p.expMax < v) ∨ (id = 10 ∧ v < p.expMin)) : (p.store id v).crossOk = false := by
  rw [← Bool.not_eq_true, Params.crossOk_iff]
  rcases h with ⟨rfl, h⟩ | ⟨rfl, h⟩ | ⟨rfl, h⟩ | ⟨rfl, h⟩ <;> simp only [Params.store, CrossChecked] <;> omega

theorem Request.exec_setParam {s : State} (hs : TakesNow s) {id v : Nat} (hid : id ≤ 255) (hv : v ≤ 65535) (tag : Tag) :
    exec (.setParam tag (Request.setParam id v).body) s =
      .next (match s.paramRefusal id v with
        | some r => { s with reports := s.reports ++ [report tag (.refused 0x07 r)] }
        | none => s.setParam tag id v) := by
  refine (Request.exec_takes hs (r := .setParam id v) (by simp [Request.inRange, hid, hv]) tag).trans ?_
  simp only [State.serve, State.serveSetParam]
  cases s.paramRefusal id v <;> rfl

/-! ## CANCEL (R152) -/

/-- The open request found for a tag: the first that holds it. -/
theorem State.request_of_split {s : State} {front back : List Req} {q : Req} {tag : Tag}
    (h : s.table = front ++ q :: back) (hq : q.tag = tag) (hfront : ∀ r ∈ front, r.tag ≠ tag) :
    s.request tag = some q := by
  have hnone : front.find? (·.tag == tag) = none := by simpa using hfront
  have hq' : (q.tag == tag) = true := by simpa using hq
  rw [State.request, h, List.find?_append, hnone, Option.none_or,
    List.find?_cons_of_pos (p := fun x : Req => x.tag == tag) hq']

theorem Request.exec_cancel {s : State} (hs : TakesNow s) (tag target : Tag) :
    exec (.cancel tag [target]) s = .next (s.serveCancel tag target) :=
  Request.exec_takes hs (r := .cancel target) rfl tag

end Sys2Proof.Machine

open Sys2Proof.Machine Sys2Proof.Statements

/-- Settles O28: a busy line refuses; otherwise the line's state and the direction pick the one act. -/
theorem linePowerActsByState : Obligations.LinePowerActsByState := by
  intro s tag l d hs request taken closed entry doneAtOnce
  have hexec : exec request s =
      .next (s.serveLinePower ⟨0x14, tag, (Request.linePower l d).body⟩ l d) :=
    Request.exec_takes hs.1 (r := .linePower l d) rfl tag
  have hserve := State.serveLinePower_of_admissible (f := ⟨0x14, tag, (Request.linePower l d).body⟩) hs l d
  have hacts : (s.line l).powerBusy d = false → exec request s = .next ((s.takenPower tag l).actPower l d tag) :=
    fun hidle => hexec.trans (congrArg _ (hserve.2 hidle))
  refine ⟨fun hbusy => ?_, fun hnone => ?_, fun on front back q hd hpower hon htable hq hrest => ?_⟩
  · rw [hexec, hserve.1 (LineState.powerBusy_iff.mpr hbusy)]
    rfl
  · have hidle := hacts (by simp [LineState.powerBusy, hnone])
    refine ⟨?_, ?_, ?_, ?_, ?_⟩
    · rintro rfl hpower
      refine hidle.trans (congrArg _ ?_)
      simp only [State.actPower, State.line_take, hpower]
      exact State.takenPower_close hs l _ _
    · rintro rfl hpower
      refine hidle.trans (congrArg _ ?_)
      simp only [State.actPower, State.line_take, hpower]
      exact State.takenPower_close hs l _ _
    · rintro rfl hpower
      refine hidle.trans (congrArg _ ?_)
      simp only [State.actPower, State.line_take, hpower]
      exact State.takenPower_close hs l _ _
    · rintro rfl hpower
      refine hidle.trans (congrArg _ ?_)
      rcases hpower with hpower | hpower <;> simp only [State.actPower, State.line_take, hpower] <;> cases l <;> rfl
    · rintro rfl hpower hop
      refine hidle.trans (congrArg _ ?_)
      have hop' : (((s.takenPower tag l).modLine l fun L => { L with openPower := some (tag, .off) }).line l).op.isSome :=
        by rw [State.line_modLine, State.line_take]; exact hop
      simp only [State.actPower, State.line_take, hpower]
      rw [if_pos hop', State.modLine_eq_setLine, State.line_take, ← hpower]
      cases l <;> rfl
  · subst hd
    refine (hacts (by simp [LineState.powerBusy, hon])).trans (congrArg _ ?_)
    exact State.actPower_settling_off hs hpower hon ⟨htable, hq, hrest⟩

/-- Settles O11: the checks are made in one chain, each reached only when those before it pass. -/
theorem setParamChecksInOrder : Obligations.SetParamChecksInOrder := by
  intro s tag id v hid hv hs refused
  have hrefused : ∀ r, s.paramRefusal id v = some r → refused r := fun r hr => by
    refine (Request.exec_setParam hs hid hv tag).trans ?_
    rw [hr]
  refine ⟨fun hunknown => hrefused _ ?_, fun lo hi hid1 hrange => ?_⟩
  · have hnone : paramRange id = none := by
      unfold paramRange
      split <;> first | omega | rfl
    rw [State.paramRefusal, hnone]
  · obtain ⟨hr, -⟩ := paramRange_eq hid1 hrange
    refine ⟨fun hout => hrefused _ ?_, fun hlo hhi => ⟨fun l hl hpower => hrefused _ ?_, fun hcross hok => hrefused _ ?_⟩⟩
    · simp only [State.paramRefusal, hr]
      rw [if_pos hout]
    · simp only [State.paramRefusal, hr]
      rw [if_neg (by omega), if_pos ((s.speedLocked_iff id).mpr ⟨l, hl, hpower⟩)]
    · have hunlocked : ¬(speedLine id).any (fun l => (s.line l).speedLocked) = true := by
        rw [s.speedLocked_iff]
        rintro ⟨l, hl, -⟩
        omega
      simp only [State.paramRefusal, hr]
      rw [if_neg (by omega), if_neg hunlocked, Params.crossOk_store hcross]
      rfl

/-- Settles O12: an accepted value is stored by its id, and only a changed host_rate marks its answer. -/
theorem setParamStoresAndAnswers : Obligations.SetParamStoresAndAnswers := by
  intro s tag id v lo hi p hs hid hrange hstored hlo hhi hunlocked hcross hlowered
  obtain ⟨hr, hid12⟩ := paramRange_eq hid hrange
  have hp := Params.store_eq hid hstored
  have hv : v ≤ 65535 := by
    have hmax : hi ≤ 60000 := by
      interval_cases id <;> cases hr <;> decide
    omega
  have hfree : ¬(speedLine id).any (fun l => (s.line l).speedLocked) = true := by
    rw [s.speedLocked_iff]
    rintro ⟨l, hl, hpower⟩
    have := hunlocked l hl
    rcases this with h | h <;> simp [h] at hpower
  have hnone : s.paramRefusal id v = none := by
    simp only [State.paramRefusal, hr]
    rw [if_neg (by omega), if_neg hfree, hp, if_pos ((Params.crossOk_iff p).mpr hcross)]
  rw [Request.exec_setParam hs (by omega) hv, hnone, State.setParam_eq, if_neg hlowered, State.stored, hp]
  rfl

/-- Settles O17: a CANCEL looks the tag up, in the table and then in the stop record, before it halts anything. -/
theorem cancelOfNothingCancellableOnlyReplies : Obligations.CancelOfNothingCancellableOnlyReplies := by
  intro s tag target hs replied
  have hreplied : ∀ k r, s.serveCancel tag target = s.push tag (.cancelReply target k r) → replied k r := fun k r h => by
    rw [State.push] at h
    exact (Request.exec_cancel hs tag target).trans (congrArg _ h)
  refine ⟨fun hfree => ⟨fun hstop => hreplied _ _ ?_, fun ⟨r, hr, ht⟩ => hreplied _ _ ?_⟩,
    fun front back q htable hq hfront => ⟨fun hk => hreplied _ _ ?_, fun hk hsent => hreplied _ _ ?_⟩⟩
  · have hno : ¬s.stop.any (·.tag == target) = true := by
      cases hst : s.stop with
      | none => simp
      | some r => simpa using hstop r hst
    rw [State.serveCancel, State.request_eq_none hfree]
    dsimp only
    rw [if_neg hno]
  · rw [State.serveCancel, State.request_eq_none hfree]
    dsimp only
    rw [if_pos (by simp [hr, ht])]
  · simp only [State.serveCancel, State.request_of_split htable hq hfront, State.cancellable, hk]
    simp
  · have hno : s.releaseQueued q.line q.tag = false := by
      rw [State.releaseQueued, List.any_eq_false]
      intro r hr
      simp only [Bool.and_eq_true, beq_iff_eq, not_and]
      exact fun ht => hsent r hr (ht.trans hq)
    simp only [State.serveCancel, State.request_of_split htable hq hfront, State.cancellable, hk, hno]
    simp

end

section
/-! Claims in one shape: a claim on roster, lines and requests changes the roster and a line, and behind that some reports
close their requests. The closings commute with everything that a claim does to roster and lines. -/

namespace Sys2Proof.Machine

open Sys2Proof.Statements

/-- One CLOSED takes its request, if the request is open (R149), and a STOP closes behind the last one (R155). -/
def State.closeReport (s : State) (r : Report) : State :=
  if s.table.any (·.tag == r.tag) then
    ({ s with table := s.table.filter (·.tag != r.tag), reports := s.reports ++ [r] } : State).settleStop
  else s

/-- Several CLOSED reports one after another. -/
def State.closeAll (s : State) (rs : List Report) : State := rs.foldl State.closeReport s

theorem State.close_eq_closeAll (s : State) (tag : Tag) (o : CloseOutcome) (x : CloseResult) :
    s.close tag o x = s.closeAll [report tag (.closed o x)] := rfl

theorem State.closeAll_nil (s : State) : s.closeAll [] = s := rfl

theorem State.closeAll_closeAll (s : State) (rs ps : List Report) :
    (s.closeAll rs).closeAll ps = s.closeAll (rs ++ ps) := (List.foldl_append ..).symm

theorem State.closeAll_cons (s : State) (r : Report) (rs : List Report) :
    s.closeAll (r :: rs) = (s.closeReport r).closeAll rs := rfl

/-! ## What closings change -/

/-- Closings look at the host's side alone and change nothing else. -/
theorem State.closeReport_eq_of_host {s u : State} (hr : u.reports = s.reports) (ht : u.table = s.table)
    (hs : u.stop = s.stop) (r : Report) :
    u.closeReport r = { u with
      reports := (s.closeReport r).reports, table := (s.closeReport r).table, stop := (s.closeReport r).stop } := by
  unfold State.closeReport State.settleStop
  simp only [ht, hs, hr]
  split
  · cases s.stop with
    | none => rfl
    | some x =>
      dsimp only
      split <;> rfl
  · rw [← hr, ← ht, ← hs]

theorem State.closeAll_eq_of_host {s u : State} (hr : u.reports = s.reports) (ht : u.table = s.table)
    (hs : u.stop = s.stop) (rs : List Report) :
    u.closeAll rs = { u with
      reports := (s.closeAll rs).reports, table := (s.closeAll rs).table, stop := (s.closeAll rs).stop } := by
  induction rs generalizing s u with
  | nil => rw [State.closeAll_nil, State.closeAll_nil, ← hr, ← ht, ← hs]
  | cons r rs ih =>
    have hfirst := State.closeReport_eq_of_host hr ht hs r
    rw [State.closeAll_cons, State.closeAll_cons, ih (s := s.closeReport r) (u := u.closeReport r)]
    · rw [hfirst]
    all_goals rw [hfirst]

/-- Closings leave all but the host's side as it is. -/
theorem State.closeAll_eq (s : State) (rs : List Report) :
    s.closeAll rs = { s with
      reports := (s.closeAll rs).reports, table := (s.closeAll rs).table, stop := (s.closeAll rs).stop } :=
  State.closeAll_eq_of_host rfl rfl rfl rs

section
variable (s : State) (rs : List Report) (l : Line)

@[simp] theorem State.closeAll_clock : (s.closeAll rs).clock = s.clock := by rw [State.closeAll_eq]
@[simp] theorem State.closeAll_params : (s.closeAll rs).params = s.params := by rw [State.closeAll_eq]
@[simp] theorem State.closeAll_roster : (s.closeAll rs).roster = s.roster := by rw [State.closeAll_eq]
@[simp] theorem State.closeAll_nextSerial : (s.closeAll rs).nextSerial = s.nextSerial := by rw [State.closeAll_eq]
@[simp] theorem State.closeAll_hush : (s.closeAll rs).hush = s.hush := by rw [State.closeAll_eq]
@[simp] theorem State.closeAll_dropped : (s.closeAll rs).dropped = s.dropped := by rw [State.closeAll_eq]
@[simp] theorem State.line_closeAll : (s.closeAll rs).line l = s.line l := by
  rw [State.closeAll_eq]; cases l <;> rfl

theorem State.closeAll_setLine (L : LineState) : (s.closeAll rs).setLine l L = (s.setLine l L).closeAll rs := by
  rw [State.closeAll_eq_of_host (s := s) (u := s.setLine l L) (by simp) (by simp) (by simp), s.closeAll_eq rs]
  cases l <;> rfl

theorem State.closeAll_with_roster (es : List Entry) :
    ({ s.closeAll rs with roster := es } : State) = ({ s with roster := es } : State).closeAll rs := by
  rw [State.closeAll_eq_of_host (s := s) (u := { s with roster := es }) rfl rfl rfl, s.closeAll_eq rs]

end

/-! ## The table and the stop record after closings -/

theorem State.closeReport_table (s : State) (r : Report) :
    (s.closeReport r).table = s.table.filter (·.tag != r.tag) := by
  unfold State.closeReport State.settleStop
  split
  · split
    · split <;> rfl
    · rfl
  · rename_i h
    refine (List.filter_eq_self.mpr fun q hq => ?_).symm
    have hne : ∀ x ∈ s.table, x.tag ≠ r.tag := by simpa using h
    simpa using hne q hq

/-- Closings take exactly the requests of their tags. -/
@[simp] theorem State.closeAll_table (s : State) (rs : List Report) : (s.closeAll rs).table = tableLess rs s.table := by
  induction rs generalizing s with
  | nil => rw [State.closeAll_nil, tableLess_nil]
  | cons r rs ih =>
    rw [State.closeAll_cons, ih, State.closeReport_table, ← tableLess_singleton r.tag r.body, tableLess_append]
    rfl

/-- The stop record stays or goes, and goes when the table empties (R155). -/
theorem State.closeReport_stop (s : State) (r : Report) :
    ((s.closeReport r).stop = s.stop ∨ (s.closeReport r).stop = none) ∧ (StopLaw s → StopLaw (s.closeReport r)) := by
  unfold State.closeReport State.settleStop
  split
  · split
    · split
      · exact ⟨.inr rfl, fun _ h => nomatch h⟩
      · rename_i hne
        exact ⟨.inl rfl, fun _ _ h => hne (by simpa using h)⟩
    · rename_i hnone
      exact ⟨.inl rfl, fun _ h => by simp_all⟩
  · exact ⟨.inl rfl, id⟩

theorem State.closeAll_stop (s : State) (rs : List Report) :
    ((s.closeAll rs).stop = s.stop ∨ (s.closeAll rs).stop = none) ∧ (StopLaw s → StopLaw (s.closeAll rs)) := by
  induction rs generalizing s with
  | nil => exact ⟨.inl rfl, id⟩
  | cons r rs ih =>
    obtain ⟨hstop, hlaw⟩ := s.closeReport_stop r
    obtain ⟨hstop', hlaw'⟩ := ih (s.closeReport r)
    rw [State.closeAll_cons]
    refine ⟨?_, hlaw' ∘ hlaw⟩
    rcases hstop' with h | h
    · exact hstop.imp h.trans h.trans
    · exact .inr h

/-- Closings that each have an open request of their own. -/
theorem State.closeAll_eq_closes {s : State} {rs : List Report} (h : AllOpen s rs) : s.closeAll rs = s.closes rs := by
  induction rs using List.reverseRecOn with
  | nil => exact (State.closes_nil s).symm
  | append_singleton rs r ih =>
    have hrs := ih (AllOpen.left h)
    obtain ⟨q, hq, hqr⟩ := (AllOpen.right h).2 r (List.mem_singleton_self r)
    have hone : (s.closes rs).closeReport r = (s.closes rs).closes [r] := by
      have hiff : (s.closes rs).table.filter (·.tag != r.tag) = [] ↔ Emptied (s.closes rs) [r] := by
        rw [Emptied, ← tableLess_singleton r.tag r.body]
        exact ⟨fun h => ⟨List.cons_ne_nil _ _, h⟩, And.right⟩
      have hany : (s.closes rs).table.any (·.tag == r.tag) = true := List.any_eq_true.mpr ⟨q, hq, by simpa using hqr⟩
      unfold State.closeReport
      rw [if_pos hany, State.settleStop_eq_stopClosed]
      refine (s.closes rs).with_host_congr (tableLess_singleton r.tag r.body _).symm (stopLeft_congr rfl hiff) ?_
      exact congrArg _ (stopClosed_congr rfl hiff)
    rw [← State.closeAll_closeAll, hrs, ← State.closes_closes h, ← hone]
    rfl

/-! ## Records that close -/

/-- A record that closes: the pending count of its target falls and its CLOSED, if it has one, takes its request. -/
theorem State.closeTxn_eq_closeAll {s : State} {r : Txn} {o : CloseOutcome} (ho : o ≠ .done) :
    s.closeTxn r o none none =
      ({ s with roster := lessPending r.target s.roster } : State).closeAll (closedTxn o r).toList := by
  unfold State.closeTxn closedTxn
  cases hw : r.work with
  | read off len => simp only [unfinished, hw]; rfl
  | write off bytes => simp only [unfinished, hw, if_neg ho]; rfl
  | release => rfl

theorem State.closeTxns_eq_closeAll {s : State} {rs : List Txn} {o : CloseOutcome} (ho : o ≠ .done) :
    s.closeTxns rs o =
      ({ s with roster := lessPendingBy rs s.roster } : State).closeAll (rs.filterMap (closedTxn o)) := by
  induction rs generalizing s with
  | nil => rw [lessPendingBy_nil]; rfl
  | cons r rs ih =>
    have hsplit : (r :: rs).filterMap (closedTxn o) = (closedTxn o r).toList ++ rs.filterMap (closedTxn o) := by
      rw [List.filterMap_cons]
      cases closedTxn o r <;> rfl
    refine (ih (s := s.closeTxn r o none none)).trans ?_
    rw [State.closeTxn_eq_closeAll ho, State.closeAll_roster, State.closeAll_with_roster, State.closeAll_closeAll,
      lessPendingBy_cons, hsplit]

theorem filterMap_lostReports (queue : List Txn) (i : Ident) :
    (queue.filter (·.target == i)).filterMap (closedTxn .targetLost) = lostReports queue i := by
  rw [List.filterMap_filter]
  refine List.filterMap_congr fun r _ => ?_
  by_cases ht : r.target = i <;> by_cases hw : r.work = .release <;> simp [closedTxn, ht, hw]

/-- The purge of the records that name an identity (R115). -/
theorem State.purge_eq_closeAll (s : State) (l : Line) (i : Ident) :
    s.purge l i = (({ s with
      roster := lessPendingBy ((s.line l).queue.filter (·.target == i)) s.roster } : State).setLine l
        { s.line l with queue := purged (s.line l).queue i }).closeAll (lostReports (s.line l).queue i) := by
  unfold State.purge
  dsimp only
  rw [State.closeTxns_eq_closeAll (by decide), filterMap_lostReports]
  cases l <;> rfl

/-! ## An entry that changes its state with its records gone -/

/-- What lowers the pending count of one entry alone is not seen where that entry's own count is set. -/
theorem withEntry_lessPendingBy {i : Ident} {f : Entry → Entry} {rs : List Txn} (hrs : ∀ r ∈ rs, r.target = i)
    (hf : ∀ (e : Entry) n, f { e with pendingTx := n } = f e) (es : List Entry) :
    withEntry i f (lessPendingBy rs es) = withEntry i f es := by
  simp only [withEntry, lessPendingBy, List.map_map]
  refine List.map_congr_left fun e _ => ?_
  simp only [Function.comp]
  split
  · exact hf e _
  · rename_i hne
    have hzero : rs.countP (·.target == e.identity) = 0 :=
      List.countP_eq_zero.mpr fun r hr => by simpa using fun h => hne (h.symm.trans (hrs r hr))
    rw [hzero, Nat.sub_zero]

theorem filter_lessPendingBy {i : Ident} {rs : List Txn} (hrs : ∀ r ∈ rs, r.target = i) (es : List Entry) :
    (lessPendingBy rs es).filter (·.identity != i) = es.filter (·.identity != i) := by
  simp only [lessPendingBy, List.filter_map]
  refine (List.map_congr_left fun e he => ?_).trans (List.map_id _)
  have hne : e.identity ≠ i := by simpa using (List.mem_filter.mp he).2
  have hzero : rs.countP (·.target == e.identity) = 0 :=
    List.countP_eq_zero.mpr fun r hr => by simpa using fun h => hne (h.symm.trans (hrs r hr))
  rw [hzero]
  rfl

theorem mem_filter_target {queue : List Txn} {i : Ident} : ∀ r ∈ queue.filter (·.target == i), r.target = i :=
  fun _ hr => by simpa using (List.mem_filter.mp hr).2

/-- The line that an entry counted out leaves behind (R29, R47, R115). -/
abbrev outLine (s : State) (e : Entry) (a lease : Nat) : LineState :=
  { s.line e.line with
    quarantine := insertRecord s.clock (quarantined s e.line a lease (outOrigin e)) (s.line e.line).quarantine
    nextSeq := (s.line e.line).nextSeq + 1
    queue := purged (s.line e.line).queue e.identity }

/-- A roster written into a state whose line has been replaced. -/
theorem State.setLine_with_roster (s : State) (l : Line) (L : LineState) (es : List Entry) :
    ({ s.setLine l L with roster := es } : State) = ({ s with roster := es } : State).setLine l L := by
  cases l <;> rfl

/-- An entry that is not LOST is removed from the roster alone. -/
theorem State.removeEntry_of_bound (s : State) {e : Entry} {a lease : Nat} (hb : e.standing = .bound a lease) :
    s.removeEntry e = { s with roster := s.roster.filter (·.serial != e.serial) } := by
  have hheld : e.held = none := by simp [Entry.held, hb]
  simp only [State.removeEntry, hheld]

/-- An entry counted out (R29): LOST with its address held, or removed, the address in quarantine, its records and its
FORGET closed. -/
theorem State.countOut_of_bound {s : State} (hr : RosterLaw s) {e : Entry} (he : e ∈ s.roster) {a lease : Nat}
    (hb : e.standing = .bound a lease) :
    s.countOut e = (({ s with roster := countedOut e a s.roster } : State).setLine e.line
      (outLine s e a lease)).closeAll (outReports (s.line e.line).queue e) := by
  have htargets := mem_filter_target (queue := (s.line e.line).queue) (i := e.identity)
  have hserial : ∀ es : List Entry, (∀ x ∈ es, ∃ y ∈ s.roster, x.serial = y.serial ∧ x.identity = y.identity) →
      ∀ x ∈ es, x.serial = e.serial ↔ x.identity = e.identity := fun es h x hx => by
    obtain ⟨y, hy, hys, hyi⟩ := h x hx
    rw [hys, hyi]
    exact hr.serial_iff hy he
  have hless := hserial (lessPendingBy ((s.line e.line).queue.filter (·.target == e.identity)) s.roster) fun x hx => by
    obtain ⟨y, hy, rfl⟩ := List.mem_map.mp hx
    exact ⟨y, hy, rfl, rfl⟩
  cases hf : e.forgetting with
  | none =>
    simp only [State.countOut, hb, hf, State.purge_eq_closeAll, State.closeAll_with_roster, State.closeAll_roster, countedOut, if_true,
      outReports, Option.map_none, Option.toList_none, List.append_nil, State.quarantineAddress,
      State.modLine_eq_setLine, State.line_setLine, State.setLine_roster, State.setLine_with_roster,
      State.setLine_setLine, outLine, outOrigin, State.updEntry]
    rw [← withEntry_lessPendingBy htargets (fun _ _ => rfl) s.roster]
    congr 2
    exact congrArg (fun es => ({ s with roster := es } : State)) (List.map_congr_left fun x hx => by simp only [hless x hx])
  | some tag =>
    simp only [State.countOut, hb, hf, State.purge_eq_closeAll, State.closeAll_with_roster, State.closeAll_roster, State.closeForget,
      State.close_eq_closeAll, State.closeAll_closeAll, countedOut, if_false, outReports, Option.map_some,
      Option.toList_some, reduceCtorEq, State.removeEntry_of_bound _ hb, State.quarantineAddress,
      State.modLine_eq_setLine, State.line_setLine, State.setLine_roster, State.setLine_with_roster,
      State.setLine_setLine, outLine, outOrigin]
    rw [← filter_lessPendingBy htargets s.roster]
    congr 2
    exact congrArg (fun es => ({ s with roster := es } : State)) <| List.filter_congr fun x hx => by
      rw [Bool.eq_iff_iff, bne_iff_ne, bne_iff_ne, ne_eq, ne_eq, hless x hx]

end Sys2Proof.Machine
end

section
/-! What the claims on roster, allocator and requests leave of the lines: they move addresses, shorten queues and count,
and nothing else of a line. -/

namespace Sys2Proof.Machine

open Sys2Proof.Statements

/-- Two states of a line that differ in addresses and counters alone, and in records that have left the queue. -/
def LineState.ClaimedTo (L M : LineState) : Prop :=
  ∃ pool quarantine n queue counters, M = { L with
    pool := pool, quarantine := quarantine, nextSeq := n, queue := queue, counters := counters } ∧
      queue.Sublist L.queue

/-- What a claim on roster, allocator and requests keeps. -/
structure Claimed (s t : State) : Prop where
  params : t.params = s.params
  clock : t.clock = s.clock
  line : ∀ l, (s.line l).ClaimedTo (t.line l)

theorem LineState.ClaimedTo.refl (L : LineState) : L.ClaimedTo L := ⟨_, _, _, _, _, rfl, .refl _⟩

theorem LineState.ClaimedTo.trans {L M N : LineState} (h : L.ClaimedTo M) (k : M.ClaimedTo N) : L.ClaimedTo N := by
  obtain ⟨_, _, _, _, _, rfl, hq⟩ := h
  obtain ⟨_, _, _, _, _, rfl, kq⟩ := k
  exact ⟨_, _, _, _, _, rfl, kq.trans hq⟩

theorem LineState.ClaimedTo.of_queue {L : LineState} {p : List Address} {q : List QuarantineRec} {n : Nat}
    {k : LineCounters} {queue : List Txn} (h : queue.Sublist L.queue) :
    L.ClaimedTo { L with pool := p, quarantine := q, nextSeq := n, counters := k, queue := queue } :=
  ⟨_, _, _, _, _, rfl, h⟩

namespace Claimed

variable {s t u : State}

theorem refl (s : State) : Claimed s s := ⟨rfl, rfl, fun _ => .refl _⟩

theorem trans (h : Claimed s t) (k : Claimed t u) : Claimed s u :=
  ⟨k.params.trans h.params, k.clock.trans h.clock, fun l => (h.line l).trans (k.line l)⟩

/-- A state with the same parameters, clock and lines. -/
theorem congr (h : Claimed s t) (hp : u.params = t.params) (hc : u.clock = t.clock) (hl : ∀ l, u.line l = t.line l) :
    Claimed s u := h.trans ⟨hp, hc, fun l => hl l ▸ .refl _⟩

theorem modLine (h : Claimed s t) {l : Line} {f : LineState → LineState} (hf : (t.line l).ClaimedTo (f (t.line l))) :
    Claimed s (t.modLine l f) := by
  refine h.trans ⟨by simp, by simp, fun m => ?_⟩
  by_cases hm : m = l
  · subst hm; rwa [State.line_modLine]
  · rw [State.line_modLine_of_ne _ hm]; exact .refl _

theorem roster (h : Claimed s t) (es : List Entry) (n : Nat) : Claimed s { t with roster := es, nextSerial := n } :=
  h.congr rfl rfl fun l => by cases l <;> rfl

theorem updEntry (h : Claimed s t) (n : Nat) (f : Entry → Entry) : Claimed s (t.updEntry n f) :=
  h.congr rfl rfl fun l => by simp

theorem updNamed (h : Claimed s t) (i : Ident) (f : Entry → Entry) : Claimed s (t.updNamed i f) :=
  h.congr rfl rfl fun l => by simp

theorem setReqState (h : Claimed s t) (tag : Tag) (f : ReqState → ReqState) : Claimed s (t.setReqState tag f) :=
  h.congr rfl rfl fun l => by cases l <;> rfl

theorem closeAll (h : Claimed s t) (rs : List Report) : Claimed s (t.closeAll rs) :=
  h.congr (by simp) (by simp) fun l => by simp

theorem close (h : Claimed s t) (tag : Tag) (o : CloseOutcome) (x : CloseResult) : Claimed s (t.close tag o x) :=
  h.closeAll [report tag (.closed o x)]

theorem closeForget (h : Claimed s t) (tag : Tag) (i : Ident) (d : ForgetDetail) :
    Claimed s (t.closeForget tag i d) := h.close _ _ _

theorem pushEvent (h : Claimed s t) (tag : Tag) (e : Event) : Claimed s (t.pushEvent tag e) := by
  obtain ⟨rs, d, heq, -, -⟩ := t.pushEvent_eq tag e
  rw [heq]
  exact h.congr rfl rfl fun l => by cases l <;> rfl

theorem pushLineEvents (h : Claimed s t) (es : List Event) : Claimed s (t.pushLineEvents es) := by
  obtain ⟨rs, d, heq⟩ := t.pushLineEvents_eq es
  rw [heq]
  exact h.congr rfl rfl fun l => by cases l <;> rfl

theorem settleStop (h : Claimed s t) : Claimed s t.settleStop := by
  obtain ⟨rs, st, heq⟩ := t.settleStop_eq
  exact h.congr (by rw [heq]) (by rw [heq]) fun l => by rw [heq]; cases l <;> rfl

theorem take (h : Claimed s t) (r : Req) : Claimed s (t.take r) := h.congr rfl rfl fun l => by cases l <;> rfl

/-! ## Transactions -/

theorem closeTxn (h : Claimed s t) (r : Txn) (o : CloseOutcome) (bs : Option (List Byte)) (c : Option RefusalCode) :
    Claimed s (t.closeTxn r o bs c) := by
  unfold State.closeTxn
  cases r.work with
  | read off len => exact (h.updNamed _ _).close _ _ _
  | write off bytes => exact (h.updNamed _ _).close _ _ _
  | release => exact h.updNamed _ _

theorem setQueue (h : Claimed s t) (l : Line) {q : List Txn} (hq : q.Sublist (t.line l).queue) :
    Claimed s (t.setQueue l q) := h.modLine (.of_queue hq)

theorem closeTxns (h : Claimed s t) (rs : List Txn) (o : CloseOutcome) : Claimed s (t.closeTxns rs o) := by
  unfold State.closeTxns
  induction rs generalizing t with
  | nil => exact h
  | cons r rs ih => exact ih (h.closeTxn r o none none)

theorem purge (h : Claimed s t) (l : Line) (i : Ident) : Claimed s (t.purge l i) :=
  (h.setQueue l List.filter_sublist).closeTxns _ _

/-! ## The roster -/

theorem removeEntry (h : Claimed s t) (e : Entry) : Claimed s (t.removeEntry e) := by
  have hr := h.roster (t.roster.filter (·.serial != e.serial)) t.nextSerial
  unfold State.removeEntry
  dsimp only
  split
  · exact hr.modLine (.of_queue (.refl _))
  · exact hr

theorem quarantineAddress (h : Claimed s t) (l : Line) (a lease : Nat) (o : Option Ident) :
    Claimed s (t.quarantineAddress l a lease o) := by
  unfold State.quarantineAddress
  exact h.modLine (.of_queue (.refl _))

theorem giveBack (h : Claimed s t) (l : Line) (addrs : List Address) : Claimed s (t.giveBack l addrs) :=
  h.modLine (.of_queue (.refl _))

theorem countOut (h : Claimed s t) (e : Entry) : Claimed s (t.countOut e) := by
  unfold State.countOut
  split
  · split
    · exact ((h.quarantineAddress _ _ _ _).purge _ _).updEntry _ _
    · exact (((h.quarantineAddress _ _ _ _).purge _ _).removeEntry e).closeForget _ _ _
  · exact h

theorem foldl {α : Type} {f : State → α → State} (hf : ∀ {u : State} (a : α), Claimed s u → Claimed s (f u a))
    (as : List α) (h : Claimed s t) : Claimed s (as.foldl f t) := by
  induction as generalizing t with
  | nil => exact h
  | cons a as ih => exact ih (hf a h)

theorem answered (h : Claimed s t) (n : Nat) (flag : Option Bool) : Claimed s (t.answered n flag) := h.updEntry n _

theorem answeredNamed (h : Claimed s t) (i : Ident) : Claimed s (t.answeredNamed i) := by
  unfold State.answeredNamed
  split
  · exact h.answered _ _
  · exact h

theorem miss (h : Claimed s t) (n : Nat) (c : LossCause) : Claimed s (t.miss n c) := by
  unfold State.miss
  split
  · split
    · split
      · exact (h.countOut _).pushLineEvents _
      · exact h.updEntry _ _
    · exact h
  · exact h

theorem missNamed (h : Claimed s t) (i : Ident) (c : LossCause) : Claimed s (t.missNamed i c) := by
  unfold State.missNamed
  split
  · exact h.miss _ _
  · exact h

theorem limitSweep (h : Claimed s t) (limit : Nat) : Claimed s (t.limitSweep limit) :=
  (foldl (fun e hu => hu.countOut e) _ h).pushLineEvents _

theorem hushRemove (h : Claimed s t) (i : Ident) : Claimed s (t.hushRemove i) :=
  h.congr rfl rfl fun l => by cases l <;> rfl

theorem createEntry (h : Claimed s t) (l : Line) (i : Ident) (mem : Nat) : Claimed s (t.createEntry l i mem).1 := by
  unfold State.createEntry
  dsimp only
  split
  · exact ((h.modLine (.of_queue (.refl _))).roster _ _).hushRemove i
  · exact h.roster _ _

theorem bindEntry (h : Claimed s t) (e : Entry) (l : Line) (mem : Nat) (v : Address → Nat → FindEvent) :
    Claimed s (t.bindEntry e l mem v).1 := by
  unfold State.bindEntry
  split
  · exact ((h.modLine (.of_queue (.refl _))).updEntry _ _).hushRemove _
  · exact h.updEntry _ _

theorem forgottenFound (h : Claimed s t) (e : Entry) (a : Address) (tag : Tag) :
    Claimed s (t.forgottenFound e a tag) :=
  (((h.giveBack _ _).purge _ _).removeEntry e).closeForget _ _ _

theorem releaseHeld (h : Claimed s t) (l : Line) (x : Option Address) : Claimed s (t.releaseHeld l x) := by
  cases x with
  | none => exact h
  | some a =>
    unfold State.releaseHeld State.releaseEarly
    exact h.modLine (.of_queue (.refl _))

theorem find (h : Claimed s t) (l : Line) (i : Ident) (mem : Nat) : Claimed s (t.find l i mem).1 := by
  unfold State.find
  split
  · split
    · exact h.createEntry l i mem
    · exact h
  · split
    · split
      · split
        · exact h.forgottenFound _ _ _
        · exact (h.giveBack _ _).bindEntry _ _ _ _
      · exact h
    · dsimp only
      split
      · exact (h.releaseHeld _ _).bindEntry _ _ _ _
      · exact (h.releaseHeld _ _).bindEntry _ _ _ _

theorem bindOutcome (h : Claimed s t) (n : Nat) (b : Bool) : Claimed s (t.bindOutcome n b) := by
  unfold State.bindOutcome
  split
  · split
    · split
      · exact h.updEntry _ _
      · exact h.countOut _
    · exact h
  · exact h

theorem removal (h : Claimed s t) (i : Ident) (tag : Tag) (b : Bool) : Claimed s (t.removal i tag b) := by
  unfold State.removal
  split
  · split
    · split
      · exact ((h.giveBack _ _).removeEntry _).closeForget _ _ _
      · exact ((h.quarantineAddress _ _ _ _).removeEntry _).closeForget _ _ _
    · exact h
  · exact h

theorem powerLost (h : Claimed s t) (e : Entry) : Claimed s (t.powerLost e) := by
  unfold State.powerLost
  split
  · split
    · exact (h.giveBack _ _).updEntry _ _
    · exact ((h.giveBack _ _).removeEntry _).closeForget _ _ _
  · exact h

theorem rosterDown (h : Claimed s t) (l : Line) : Claimed s (t.rosterDown l) := by
  have hlost := foldl (fun e hu => hu.powerLost e) (t.boundEntries l) h
  unfold State.rosterDown State.clearHeld State.emptyQuarantine
  exact (hlost.roster _ (State.nextSerial _)).modLine (.of_queue (.refl _))

theorem expireDue (h : Claimed s t) (l : Line) : Claimed s (t.expireDue l) := by
  unfold State.expireDue
  dsimp only
  refine foldl (fun r hu => ?_) _ (h.modLine (.of_queue (.refl _)))
  unfold State.expiryClaim
  split
  · exact hu.updNamed _ _
  · exact hu

/-! ## Windows counted and judged -/

theorem countWindow (h : Claimed s t) (l : Line) (w : WindowClass) : Claimed s (t.countWindow l w) := by
  unfold State.countWindow
  cases w with
  | silence => exact h.modLine (.of_queue (.refl _))
  | garbled => exact h.modLine (.of_queue (.refl _))
  | valid a => exact h.modLine (.refl _)

theorem countMismatch (h : Claimed s t) (l : Line) (b : Bool) : Claimed s (t.countMismatch l b) := by
  unfold State.countMismatch
  split
  · exact h.modLine (.of_queue (.refl _))
  · exact h

theorem reportAttention (h : Claimed s t) (l : Line) (e : Entry) (a : Address) (flag : Bool) :
    Claimed s (t.reportAttention l e a flag) := by
  unfold State.reportAttention
  split
  · exact h.pushEvent _ _
  · exact h

theorem pollHeard (h : Claimed s t) (l : Line) (n : Nat) (i : Ident) (a : Address) (w : WindowClass) :
    Claimed s (t.pollHeard l n i a w) := by
  have hc := (h.countWindow l w).countMismatch l (mismatch w i)
  unfold State.pollHeard
  dsimp only
  split
  · split
    · split
      · split
        · exact (hc.answered _ _).reportAttention _ _ _ _
        · exact hc
      · exact hc
    · exact hc.miss _ _
  · exact hc.miss _ _

end Claimed

end Sys2Proof.Machine
end

section
/-! Laws that look at parameters, requests, roster and lines: one induction over steps for all of them. What the host's
side does beside its requests leaves these blocks as they are. -/

namespace Sys2Proof.Machine

open Sys2Proof.Statements

/-- Two states with the same parameters, requests, roster and lines. -/
structure SameCore (s u : State) : Prop where
  params : u.params = s.params
  table : u.table = s.table
  stop : u.stop = s.stop
  roster : u.roster = s.roster
  nextSerial : u.nextSerial = s.nextSerial
  lineA : u.lineA = s.lineA
  lineB : u.lineB = s.lineB

theorem SameCore.line {s u : State} (h : SameCore s u) (l : Line) : u.line l = s.line l := by
  cases l
  · exact h.lineA
  · exact h.lineB

/-- A long request with this tag passes the general checks (R148). -/
def FreeTag (s : State) (tag : Tag) : Prop :=
  tag ≠ 0 ∧ (∀ q ∈ s.table, q.tag ≠ tag) ∧ s.stop = none ∧ s.table.length < 24

/-- The state in which a CENSUS has been admitted (R57). -/
def State.withCensus (s : State) (tag : Tag) (l : Line) (c : Census) : State :=
  (s.take { tag := tag, kind := .census, line := l, state := .queued, target := none }).modLine l
    fun L => { L with census := some c }

/-- A law of the core that the requests and the commands of the lines keep. -/
structure CoreLaw (P : State → Prop) : Prop where
  same : ∀ {s u}, P s → SameCore s u → P u
  serveReset : ∀ {s}, P s → ∀ tag, P (s.serveReset tag)
  powerOn : P State.reset
  setParam : ∀ {s}, P s → ∀ tag id v, s.paramRefusal id v = none → P (s.setParam tag id v)
  cancel : ∀ {s}, P s → ∀ q ∈ s.table, s.cancellable q = true → P (s.haltRequest .cancel q).settle
  stop : ∀ {s}, P s → ∀ tag, tag ≠ 0 → (∀ q ∈ s.table, q.tag ≠ tag) → s.stop = none → P (s.admitStop tag)
  census : ∀ {s}, P s → ∀ tag l policy exponent budget n bits, FreeTag s tag → s.censusRefusal l exponent n = none →
    P (s.withCensus tag l (Census.fresh tag policy exponent budget n bits))
  txn : ∀ {s}, P s → ∀ tag (w : TxnWork) i off len, FreeTag s tag → w ≠ .release → s.txnRefusal i off len = none →
    P (s.admitTxn tag w.kind i w)
  forget : ∀ {s}, P s → ∀ tag e, FreeTag s tag → s.lookup e.identity = some e →
    s.forgetRefusal e.identity = none → P (s.admitForget tag e)
  power : ∀ {s}, P s → ∀ tag l d, FreeTag s tag → (s.line l).powerBusy d = false →
    P ((s.take { tag := tag, kind := .linePower, line := l, state := .running, target := none }).actPower l d tag)
  inner : ∀ {s t c}, P s → Instr.inner c = true → exec c s = .next t → P t

namespace CoreLaw

variable {P : State → Prop}

theorem push (hP : CoreLaw P) {s : State} (h : P s) (tag : Tag) (b : ReportBody) : P (s.push tag b) :=
  hP.same h ⟨rfl, rfl, rfl, rfl, rfl, rfl, rfl⟩

theorem refuse (hP : CoreLaw P) {s : State} (h : P s) (f : Frame) (r : Reason) : P (s.refuse f r) := hP.push h _ _

theorem freeTag {s : State} {tag : Tag} {k : LongKind} (hk : k ≠ .stop) (h : s.admissionRefusal tag k = none) :
    FreeTag s tag := by
  obtain ⟨hzero, hfree, hstop, hlen⟩ := State.admissionRefusal_eq_none h
  exact ⟨hzero, hfree, hstop, hlen hk⟩

theorem serveCancel (hP : CoreLaw P) {s : State} (h : P s) (tag target : Tag) : P (s.serveCancel tag target) := by
  unfold State.serveCancel
  split
  · rename_i r hr
    have hmem : r ∈ s.table := List.mem_of_find?_eq_some hr
    split
    · rename_i hcan
      refine hP.cancel (hP.push h _ _) r hmem ?_
      simpa only [State.cancellable, State.releaseQueued, State.line_push] using hcan
    · exact hP.push h _ _
  · split
    · exact hP.push h _ _
    · exact hP.push h _ _

theorem serveStop (hP : CoreLaw P) {s : State} (h : P s) (f : Frame) : P (s.serveStop f) := by
  unfold State.serveStop
  split
  · exact hP.refuse h f _
  · rename_i hadm
    obtain ⟨hzero, hfree, hstop, -⟩ := State.admissionRefusal_eq_none hadm
    exact hP.stop h f.tag hzero hfree hstop

theorem serveForget (hP : CoreLaw P) {s : State} (h : P s) (f : Frame) (i : Ident) : P (s.serveForget f i) := by
  unfold State.serveForget
  split
  · rename_i e hadm he
    obtain ⟨hgeneral, hown⟩ := or_eq_none hadm
    obtain ⟨-, hi⟩ := State.mem_of_lookup he
    exact hP.forget h f.tag e (freeTag (by decide) hgeneral) (hi ▸ he) (hi ▸ hown)
  · exact hP.refuse h f _
  · exact h

theorem serve (hP : CoreLaw P) {s : State} (h : P s) (f : Frame) (r : Request) : P (s.serve f r) := by
  cases r with
  | getRoster start count => exact hP.push h _ _
  | getEntry i => exact hP.push h _ _
  | getLine l => exact hP.push h _ _
  | getHeld => exact hP.push h _ _
  | getLink => exact hP.push h _ _
  | getParam id =>
    simp only [State.serve, State.serveGetParam]
    split
    · exact hP.push h _ _
    · exact hP.refuse h f _
  | setParam id v =>
    simp only [State.serve, State.serveSetParam]
    split
    · exact hP.refuse h f _
    · exact hP.setParam h f.tag id v ‹_›
  | cancel target => exact hP.serveCancel h f.tag target
  | reset => exact hP.serveReset h f.tag
  | census l p e b n bits =>
    simp only [State.serve, State.serveCensus]
    split
    · exact hP.refuse h f _
    · rename_i hadm
      obtain ⟨hgeneral, hown⟩ := or_eq_none hadm
      exact hP.census h f.tag l p e b n _ (freeTag (by decide) hgeneral) hown
  | readNode i off len =>
    simp only [State.serve, State.serveReadNode]
    split
    · exact hP.refuse h f _
    · rename_i hadm
      obtain ⟨hgeneral, hown⟩ := or_eq_none hadm
      exact hP.txn h f.tag (.read off len) i off len (freeTag (by decide) hgeneral) (by simp) hown
  | writeNode i off bs =>
    simp only [State.serve, State.serveWriteNode]
    split
    · exact hP.refuse h f _
    · rename_i hadm
      obtain ⟨hgeneral, hown⟩ := or_eq_none hadm
      exact hP.txn h f.tag (.write off bs) i off bs.length (freeTag (by decide) hgeneral) (by simp) hown
  | forget i => exact hP.serveForget h f i
  | linePower l d =>
    simp only [State.serve, State.serveLinePower]
    split
    · exact hP.refuse h f _
    · rename_i hadm
      obtain ⟨hgeneral, hown⟩ := or_eq_none hadm
      refine hP.power h f.tag l d (freeTag (by decide) hgeneral) ?_
      by_contra hbusy
      rw [if_pos (by simpa using hbusy)] at hown
      exact nomatch hown
  | stop => exact hP.serveStop h f

theorem handle (hP : CoreLaw P) {s : State} (h : P s) (f : Frame) : P (s.handle f) := by
  rcases s.handle_cases f with ⟨r, hr⟩ | ⟨r, hr⟩
  · exact hr ▸ hP.refuse h f r
  · exact hr ▸ hP.serve h f r

theorem dispatch (hP : CoreLaw P) {s : State} (h : P s) : P s.dispatch :=
  State.drain_keeps (fun u f rest hu _ _ =>
    hP.handle (hP.same (u := { u with inbound := rest }) hu ⟨rfl, rfl, rfl, rfl, rfl, rfl, rfl⟩) f) _ h

theorem arrive (hP : CoreLaw P) {s : State} (h : P s) (k : Byte) (tag : Tag) (b : List Byte) :
    P (s.arrive k tag b) := by
  refine hP.dispatch (hP.same h ?_)
  unfold State.join
  split <;> exact ⟨rfl, rfl, rfl, rfl, rfl, rfl, rfl⟩

theorem exec (hP : CoreLaw P) {c : Instr} {s t : State} (h : P s) (he : exec c s = .next t) : P t := by
  rcases exec_cases he with ⟨hinner, -⟩ | ⟨u, hu, ht⟩ | rfl | ⟨-, rfl | ⟨r, rest, hr, rfl⟩⟩
  · exact hP.inner h hinner he
  · have hheard : P u := by
      obtain ⟨-, _, _, _, _, _, rfl⟩ := hu
      exact hP.same h ⟨rfl, rfl, rfl, rfl, rfl, rfl, rfl⟩
    rcases ht with rfl | ⟨k, tag, b, rfl⟩
    · exact hheard
    · exact hP.arrive hheard k tag b
  · exact hP.same hP.powerOn ⟨rfl, rfl, rfl, rfl, rfl, rfl, rfl⟩
  · exact h
  · exact hP.dispatch (hP.same h ⟨rfl, rfl, rfl, rfl, rfl, rfl, rfl⟩)

theorem keptByEveryStep (hP : CoreLaw P) : KeptByEveryStep P := by
  intro s t h hstep
  rcases step_cases hstep with rfl | ⟨c, rest, he⟩
  · exact hP.same h ⟨rfl, rfl, rfl, rfl, rfl, rfl, rfl⟩
  · exact hP.exec (hP.same (u := { s with pending := rest }) h ⟨rfl, rfl, rfl, rfl, rfl, rfl, rfl⟩) he

end CoreLaw

end Sys2Proof.Machine
end

section
/-! The end of a claim in one equation (R98, R124): each line has its cycle finished, if it has nothing left to do, and then
the counts of the contenders that do not wait at 0. -/

namespace Sys2Proof.Machine

open Sys2Proof.Statements

/-- A line with the counts of the contenders that do not wait at 0 (R124). -/
def countsSettled (s : State) (l : Line) (L : LineState) : LineState :=
  { L with
    passedT := if (s.setLine l L).waitsT l then L.passedT else 0
    passedP := if (s.setLine l L).waitsP l then L.passedP else 0
    passedC := if (s.setLine l L).waitsC l then L.passedC else 0 }

/-- A line after the settling at the end of a claim. -/
def lineSettled (s : State) (l : Line) : LineState := countsSettled s l (cycleAfter s l s.roster (s.line l))

theorem State.boundEntries_eq (s : State) (l : Line) :
    s.boundEntries l = s.roster.filter fun e => e.line == l && e.standing.isBound := rfl

/-- The members of a cycle that are left, looked up in the roster alone. -/
theorem noneLeft_iff {s : State} {l : Line} {c : PollCycle} (h : (s.line l).poll = some c) :
    NoneLeft s l s.roster c ↔ s.membersLeft l = false := by
  simp only [NoneLeft, State.membersLeft, h, Option.any_some, List.any_eq_false, Bool.not_eq_true]

theorem State.cycleDone_iff {s : State} {l : Line} {c : PollCycle} (h : (s.line l).poll = some c) :
    s.cycleDone l = true ↔ c.running = true ∧ (s.line l).pollInProgress = false ∧ NoneLeft s l s.roster c := by
  rw [noneLeft_iff h]
  simp only [State.cycleDone, LineState.cycleRunning, h, Option.any_some, Bool.and_eq_true, Bool.not_eq_true', and_assoc]

theorem State.startCycle_eq (s : State) (l : Line) :
    s.startCycle l = s.setLine l { s.line l with
      poll := some (cycleFrom l s.clock s.params.pollPeriod s.roster) } := by
  have hrunning : (!((s.boundEntries l).map (·.serial)).isEmpty) =
      decide ((s.boundEntries l).map (·.serial) ≠ []) := by
    cases (s.boundEntries l).map (·.serial) <;> rfl
  simp only [State.startCycle, hrunning]
  rfl

/-- A cycle that is done finishes, and any other stays (R98). -/
theorem State.cycleFinished_eq (s : State) (l : Line) :
    (if s.cycleDone l then s.finishCycle l else s) = s.setLine l (cycleAfter s l s.roster (s.line l)) := by
  cases hp : (s.line l).poll with
  | none =>
    have hdone : s.cycleDone l = false := by simp [State.cycleDone, LineState.cycleRunning, hp]
    simp only [hdone, cycleAfter, hp, State.setLine_line]
    rfl
  | some c =>
    simp only [cycleAfter, hp, ← State.cycleDone_iff hp]
    split
    · simp only [State.finishCycle, hp]
      split
      · rw [State.startCycle_eq, State.modLine_eq_setLine, State.line_setLine, State.setLine_setLine,
          State.setLine_clock, State.setLine_params, State.setLine_roster]
      · rfl
    · exact (s.setLine_line l).symm

theorem State.settleLine_eq (s : State) (l : Line) : s.settleLine l = s.setLine l (lineSettled s l) := by
  rw [State.settleLine, State.cycleFinished_eq, State.settleCounts, State.modLine_eq_setLine, State.setLine_setLine,
    State.line_setLine]
  rfl

theorem State.memberBound_congr {s t : State} (h : t.roster = s.roster) : t.memberBound = s.memberBound := by
  funext l n
  rw [State.memberBound, h]
  rfl

/-- What a line settles to looks at the roster, the clock, the parameters and the line itself. -/
theorem lineSettled_congr {s t : State} {l : Line} (hr : t.roster = s.roster) (hc : t.clock = s.clock)
    (hp : t.params = s.params) (hl : t.line l = s.line l) : lineSettled t l = lineSettled s l := by
  have hleft : ∀ L, (t.setLine l L).membersLeft l = (s.setLine l L).membersLeft l := fun L => by
    have hbound : (t.setLine l L).memberBound = (s.setLine l L).memberBound :=
      State.memberBound_congr (by rw [State.setLine_roster, State.setLine_roster, hr])
    simp only [State.membersLeft, State.line_setLine, hbound]
  have hcycle : cycleAfter t l t.roster (t.line l) = cycleAfter s l s.roster (s.line l) := by
    simp only [cycleAfter, hr, hc, hp, hl, NoneLeft, State.memberBound]
  simp only [lineSettled, hcycle, countsSettled, State.waitsT, State.waitsP, State.waitsC, State.line_setLine, hleft]

theorem State.settle_eq (s : State) : s.settle = (s.setLine .A (lineSettled s .A)).setLine .B (lineSettled s .B) := by
  rw [State.settle, State.settleLine_eq, State.settleLine_eq,
    lineSettled_congr (s := s) (State.setLine_roster ..) (State.setLine_clock ..) (State.setLine_params ..) rfl]

section
variable (s : State) (l : Line)

theorem State.line_settle : s.settle.line l = lineSettled s l := by rw [State.settle_eq]; cases l <;> rfl
@[simp] theorem State.settle_params : s.settle.params = s.params := by rw [State.settle_eq]; rfl
@[simp] theorem State.settle_clock : s.settle.clock = s.clock := by rw [State.settle_eq]; rfl
@[simp] theorem State.settle_roster : s.settle.roster = s.roster := by rw [State.settle_eq]; rfl
@[simp] theorem State.settle_nextSerial : s.settle.nextSerial = s.nextSerial := by rw [State.settle_eq]; rfl
@[simp] theorem State.settle_table : s.settle.table = s.table := by rw [State.settle_eq]; rfl
@[simp] theorem State.settle_stop : s.settle.stop = s.stop := by rw [State.settle_eq]; rfl

/-- Settling touches the poll cycle, the overrun count and the passed-over counts of a line alone. -/
theorem lineSettled_eq : ∃ poll counters t p c, lineSettled s l = { s.line l with
    poll := poll, counters := counters, passedT := t, passedP := p, passedC := c } ∧
      (poll.isSome = (s.line l).poll.isSome) := by
  have hcycle : ∃ poll counters p, cycleAfter s l s.roster (s.line l) = { s.line l with
      poll := poll, counters := counters, passedP := p } ∧ poll.isSome = (s.line l).poll.isSome := by
    cases hp : (s.line l).poll with
    | none => exact ⟨none, (s.line l).counters, (s.line l).passedP, by simp only [cycleAfter, hp]; rw [← hp], rfl⟩
    | some c =>
      simp only [cycleAfter, hp]
      split
      · exact ⟨_, _, _, rfl, rfl⟩
      · exact ⟨_, _, _, by rw [← hp], rfl⟩
  obtain ⟨poll, counters, p, hc, hsome⟩ := hcycle
  rw [lineSettled, hc]
  exact ⟨_, _, _, _, _, rfl, hsome⟩

end

end Sys2Proof.Machine
end

section
/-! The line-down sweep in one equation (R31, R51, R132): the roster, the line, and the requests that close. -/

namespace Sys2Proof.Machine

open Sys2Proof.Statements

/-! ## The BOUND entries of the line, one after another (R31) -/

/-- An entry of the roster when the entry `e` loses its power: told by its serial, it goes LOST or is removed. -/
def unpowered (e x : Entry) : Option Entry :=
  if x.serial = e.serial then
    if e.forgetting = none then some { x with standing := .lost none, misses := 0, pendingTx := 0 } else none
  else some x

/-- The CLOSED of a forgetting entry whose line goes down (R31). -/
def unpoweredForget (e : Entry) : Option Report :=
  e.forgetting.map fun tag => report tag (.closed .done (.forget e.identity .unpowered))

theorem State.powerLost_eq (s : State) {l : Line} {e : Entry} (hl : e.boundOn l = true) :
    s.powerLost e = (({ s with roster := s.roster.filterMap (unpowered e) } : State).setLine l
      { s.line l with pool := (s.line l).pool ++ e.address.toList }).closeAll (unpoweredForget e).toList := by
  simp only [Entry.boundOn, Bool.and_eq_true, beq_iff_eq] at hl
  obtain ⟨rfl, hbound⟩ := hl
  cases hb : e.standing with
  | lost h => simp [hb, Standing.isBound] at hbound
  | unbound => simp [hb, Standing.isBound] at hbound
  | bound a lease =>
    have haddress : e.address.toList = [a] := by simp [Entry.address, hb]
    simp only [State.powerLost, hb, haddress]
    cases hf : e.forgetting with
    | none =>
      have hroster : s.roster.filterMap (unpowered e) = s.roster.map fun x =>
          if x.serial = e.serial then { x with standing := .lost none, misses := 0, pendingTx := 0 } else x := by
        rw [← List.filterMap_eq_map']
        refine List.filterMap_congr fun x _ => ?_
        simp only [unpowered, hf, if_true]
        split <;> rfl
      rw [hroster]
      simp only [State.giveBack, State.modLine_eq_setLine, State.updEntry, State.setLine_roster,
        State.setLine_with_roster, unpoweredForget, hf]
      rfl
    | some tag =>
      have hroster : s.roster.filterMap (unpowered e) = s.roster.filter (·.serial != e.serial) := by
        rw [← List.filterMap_eq_filter]
        refine List.filterMap_congr fun x _ => ?_
        by_cases hx : x.serial = e.serial <;> simp [unpowered, hf, hx, Option.guard]
      rw [hroster, State.removeEntry_of_bound _ hb]
      simp only [State.giveBack, State.modLine_eq_setLine, State.setLine_roster, State.setLine_with_roster,
        unpoweredForget, hf]
      rfl

/-- What becomes of one entry when several lose their power. -/
def unpoweredBy (es : List Entry) (x : Entry) : Option Entry := es.foldl (fun o e => o.bind (unpowered e)) (some x)

theorem unpoweredBy_cons (e : Entry) (es : List Entry) (x : Entry) :
    unpoweredBy (e :: es) x = (unpowered e x).bind (unpoweredBy es) := by
  unfold unpoweredBy
  rw [List.foldl_cons, Option.bind_some]
  cases unpowered e x with
  | some y => rfl
  | none =>
    induction es with
    | nil => rfl
    | cons e es ih => exact ih

theorem unpoweredBy_of_not_mem {es : List Entry} {x : Entry} (h : ∀ e ∈ es, x.serial ≠ e.serial) :
    unpoweredBy es x = some x := by
  induction es with
  | nil => rfl
  | cons e es ih =>
    rw [unpoweredBy_cons, unpowered, if_neg (h e List.mem_cons_self), Option.bind_some]
    exact ih fun y hy => h y (List.mem_cons_of_mem e hy)

theorem unpoweredBy_of_mem {es : List Entry} {x : Entry} (hn : (es.map (·.serial)).Nodup) (h : x ∈ es) :
    unpoweredBy es x = unpowered x x := by
  induction es with
  | nil => exact nomatch h
  | cons e es ih =>
    rw [List.map_cons, List.nodup_cons, List.mem_map, not_exists] at hn
    obtain ⟨hfresh, hn⟩ := hn
    rw [unpoweredBy_cons]
    rcases List.mem_cons.mp h with rfl | hx
    · cases hu : unpowered x x with
      | none => rfl
      | some y =>
        have hserial : y.serial = x.serial := by
          simp only [unpowered, if_true] at hu
          split at hu
          · exact Option.some.inj hu ▸ rfl
          · exact nomatch hu
        exact unpoweredBy_of_not_mem fun z hz hyz => hfresh z ⟨hz, (hserial.symm.trans hyz).symm⟩
    · have hne : x.serial ≠ e.serial := fun he => hfresh x ⟨hx, he⟩
      rw [unpowered, if_neg hne, Option.bind_some, ih hn hx]

theorem State.powerLost_foldl (s : State) {l : Line} {es : List Entry} (h : ∀ e ∈ es, e.boundOn l = true) :
    es.foldl State.powerLost s = (({ s with roster := s.roster.filterMap (unpoweredBy es) } : State).setLine l
      { s.line l with pool := (s.line l).pool ++ es.filterMap Entry.address }).closeAll
        (es.filterMap unpoweredForget) := by
  induction es generalizing s with
  | nil =>
    have hsame : s.roster.filterMap (unpoweredBy []) = s.roster := List.filterMap_some
    rw [hsame, List.filterMap_nil, List.filterMap_nil, List.append_nil]
    exact (s.setLine_line l).symm
  | cons e es ih =>
    have haddress : (e :: es).filterMap Entry.address = e.address.toList ++ es.filterMap Entry.address := by
      rw [List.filterMap_cons]
      cases e.address <;> rfl
    have hclosed : (e :: es).filterMap unpoweredForget = (unpoweredForget e).toList ++ es.filterMap unpoweredForget := by
      rw [List.filterMap_cons]
      cases unpoweredForget e <;> rfl
    rw [List.foldl_cons, ih _ fun x hx => h x (List.mem_cons_of_mem e hx), s.powerLost_eq (h e List.mem_cons_self)]
    simp only [State.closeAll_roster, State.closeAll_with_roster, State.line_closeAll, State.closeAll_setLine,
      State.closeAll_closeAll, State.setLine_roster, State.setLine_with_roster, State.line_setLine,
      State.setLine_setLine, List.filterMap_filterMap, haddress, hclosed, List.append_assoc]
    congr 3
    simp only [unpoweredBy_cons]

/-! ## The whole claim on the roster -/

/-- What the sweep leaves of one entry (R31). -/
theorem unpoweredBy_clearHeld {s : State} (hr : RosterLaw s) (l : Line) :
    (s.roster.filterMap (unpoweredBy (s.boundEntries l))).map (fun e =>
      if e.line = l ∧ e.held.isSome then { e with standing := .lost none } else e) = unpoweredRoster l s.roster := by
  rw [List.map_filterMap]
  refine List.filterMap_congr fun x hx => ?_
  by_cases hb : x.boundOn l = true
  · have hmem : x ∈ s.boundEntries l := List.mem_filter.mpr ⟨hx, hb⟩
    have hnodup : ((s.boundEntries l).map (·.serial)).Nodup := (List.filter_sublist.map _).nodup hr.2.2.1
    rw [unpoweredBy_of_mem hnodup hmem]
    simp only [Entry.boundOn, Bool.and_eq_true, beq_iff_eq] at hb
    obtain ⟨hl, hbound⟩ := hb
    cases hst : x.standing with
    | lost h => simp [hst, Standing.isBound] at hbound
    | unbound => simp [hst, Standing.isBound] at hbound
    | bound a lease =>
      cases hf : x.forgetting <;> simp [unpowered, hl, hf, Entry.held]
  · have hother : ∀ e ∈ s.boundEntries l, x.serial ≠ e.serial := fun e he hse => by
      obtain ⟨he, hbe⟩ := List.mem_filter.mp he
      exact hb (hr.serial_inj hx he hse ▸ hbe)
    rw [unpoweredBy_of_not_mem hother, Option.map_some]
    by_cases hl : x.line = l
    · cases hst : x.standing with
      | bound a lease => simp [Entry.boundOn, hl, hst, Standing.isBound] at hb
      | lost h =>
        rw [if_pos hl]
        cases h with
        | some a => simp [hl, Entry.held, hst]
        | none =>
          have hheld : x.held = none := by simp [Entry.held, hst]
          simp only [hheld, Option.isSome_none, Bool.false_eq_true, and_false, if_false]
          rw [← hst]
      | unbound => simp [hl, Entry.held, hst]
    · simp [hl]

theorem boundAddresses_eq (s : State) (l : Line) :
    (s.boundEntries l).filterMap Entry.address = s.boundAddresses l := by
  rw [State.boundEntries, State.boundAddresses, List.filterMap_filter]
  refine List.filterMap_congr fun x _ => ?_
  cases hst : x.standing <;> by_cases hl : x.line = l <;> simp [Entry.boundOn, Entry.address, hl, hst, Standing.isBound]

/-- The roster's claim of a line that goes down (R31, R51). -/
theorem State.rosterDown_eq {s : State} (hr : RosterLaw s) (l : Line) :
    s.rosterDown l = (({ s with roster := unpoweredRoster l s.roster } : State).setLine l { s.line l with
      pool := (s.line l).pool ++ s.boundAddresses l ++ ascending (s.line l).quarantined
      quarantine := [] }).closeAll ((s.boundEntries l).filterMap unpoweredForget) := by
  have hbound : ∀ e ∈ s.boundEntries l, e.boundOn l = true := fun e he => (List.mem_filter.mp he).2
  unfold State.rosterDown State.clearHeld State.emptyQuarantine
  rw [s.powerLost_foldl hbound]
  simp only [State.modLine_eq_setLine, State.closeAll_roster, State.closeAll_with_roster, State.line_closeAll,
    State.closeAll_setLine, State.setLine_roster, State.setLine_with_roster, State.line_setLine, State.setLine_setLine,
    boundAddresses_eq]
  rw [unpoweredBy_clearHeld hr]
  rfl

/-! ## The sweep -/

/-- The CLOSED of a census that closes (R74). -/
def censusClosed (c : Census) (o : CloseOutcome) : Report := report c.tag (.closed o (.census c.totals))

theorem State.closeCensus_eq (s : State) (l : Line) (o : CloseOutcome) :
    s.closeCensus l o = (s.setLine l { s.line l with census := none }).closeAll
      ((s.line l).census.map (censusClosed · o)).toList := by
  cases hc : (s.line l).census with
  | none =>
    have hsame : ({ s.line l with census := none } : LineState) = s.line l := by rw [← hc]
    simp only [State.closeCensus, hc, hsame, State.setLine_line]
    rfl
  | some c => simp only [State.closeCensus, hc]; rfl

theorem State.closePower_eq {s : State} {l : Line} {tag : Tag} {d : Direction} (h : (s.line l).openPower = some (tag, d))
    (o : CloseOutcome) (p : LinePower) (lost : Nat) :
    s.closePower l o p lost = (s.setLine l { s.line l with openPower := none }).closeAll
      [report tag (.closed o (.linePower l p lost))] := by
  simp only [State.closePower, h]
  rfl

theorem State.closePower_of_none {s : State} {l : Line} (h : (s.line l).openPower = none) (o : CloseOutcome)
    (p : LinePower) (lost : Nat) : s.closePower l o p lost = s := by
  simp only [State.closePower, h]

/-- A line after the sweep, its power aside (R51, R100, R122, R124, R132). -/
abbrev sweptLine (s : State) (l : Line) : LineState :=
  { s.line l with
    pool := (s.line l).pool ++ s.boundAddresses l ++ ascending (s.line l).quarantined
    quarantine := [], census := none, poll := none, queue := [], op := none
    passedT := 0, passedP := 0, passedC := 0 }

theorem sweepReports_eq (s : State) (l : Line) :
    sweepReports s l = (s.boundEntries l).filterMap unpoweredForget ++
      (((s.line l).census.map (censusClosed · .lineDown)).toList ++
        (s.line l).queue.filterMap (closedTxn .lineDown)) := by
  rw [sweepReports, List.append_assoc]
  rfl

theorem State.lineDown_eq {s : State} (hr : RosterLaw s) (l : Line) :
    s.lineDown l = (({ s with
      roster := lessPendingBy (s.line l).queue (unpoweredRoster l s.roster) } : State).setLine l
        (sweptLine s l)).closeAll (sweepReports s l) := by
  unfold State.lineDown State.queueDown State.engineDown State.setQueue
  rw [State.rosterDown_eq hr, State.closeCensus_eq, State.closeTxns_eq_closeAll (by decide), sweepReports_eq]
  simp only [State.modLine_eq_setLine, State.closeAll_roster, State.closeAll_with_roster, State.line_closeAll,
    State.closeAll_setLine, State.setLine_roster, State.setLine_with_roster, State.line_setLine, State.setLine_setLine,
    State.closeAll_closeAll, List.append_assoc, sweptLine]

end Sys2Proof.Machine
end

section
/-! What the end of a line operation and a line-down sweep leave of the lines, whatever the roster holds. -/

namespace Sys2Proof.Machine

open Sys2Proof.Statements

theorem onBothLines_iff {P : State → Line → Prop} {s : State} : OnBothLines P s ↔ ∀ l, P s l :=
  ⟨fun h l => by cases l; exacts [h.1, h.2], fun h => ⟨h .A, h .B⟩⟩

/-! ## Events -/

/-- Two states that differ on the host's side alone. -/
structure HostOnly (s t : State) : Prop where
  params : t.params = s.params
  clock : t.clock = s.clock
  roster : t.roster = s.roster
  nextSerial : t.nextSerial = s.nextSerial
  line : ∀ l, t.line l = s.line l

theorem HostOnly.refl (s : State) : HostOnly s s := ⟨rfl, rfl, rfl, rfl, fun _ => rfl⟩

theorem HostOnly.trans {s t u : State} (h : HostOnly s t) (k : HostOnly t u) : HostOnly s u :=
  ⟨k.params.trans h.params, k.clock.trans h.clock, k.roster.trans h.roster, k.nextSerial.trans h.nextSerial,
    fun l => (k.line l).trans (h.line l)⟩

theorem HostOnly.claimed {s t : State} (h : HostOnly s t) : Claimed s t :=
  (Claimed.refl s).congr h.params h.clock h.line

theorem HostOnly.closeAll (s : State) (rs : List Report) : HostOnly s (s.closeAll rs) :=
  ⟨by simp, by simp, by simp, by simp, by simp⟩

theorem HostOnly.pushEvent (s : State) (tag : Tag) (e : Event) : HostOnly s (s.pushEvent tag e) := by
  obtain ⟨rs, d, heq, -, -⟩ := s.pushEvent_eq tag e
  rw [heq]
  exact ⟨rfl, rfl, rfl, rfl, fun l => by cases l <;> rfl⟩

theorem HostOnly.pushLineEvents (s : State) (es : List Event) : HostOnly s (s.pushLineEvents es) := by
  obtain ⟨rs, d, heq⟩ := s.pushLineEvents_eq es
  rw [heq]
  exact ⟨rfl, rfl, rfl, rfl, fun l => by cases l <;> rfl⟩

theorem HostOnly.settleStop (s : State) : HostOnly s s.settleStop := by
  obtain ⟨rs, st, heq⟩ := s.settleStop_eq
  rw [heq]
  exact ⟨rfl, rfl, rfl, rfl, fun l => by cases l <;> rfl⟩

theorem HostOnly.setReqState (s : State) (tag : Tag) (f : ReqState → ReqState) : HostOnly s (s.setReqState tag f) :=
  ⟨rfl, rfl, rfl, rfl, fun l => by cases l <;> rfl⟩

theorem HostOnly.take (s : State) (r : Req) : HostOnly s (s.take r) :=
  ⟨rfl, rfl, rfl, rfl, fun l => by cases l <;> rfl⟩

/-- Two states that differ on the host's side and in one line. -/
structure LineOnly (s t : State) (l : Line) : Prop where
  params : t.params = s.params
  clock : t.clock = s.clock
  roster : t.roster = s.roster
  nextSerial : t.nextSerial = s.nextSerial
  other : ∀ m, m ≠ l → t.line m = s.line m

theorem LineOnly.trans {s t u : State} {l : Line} (h : LineOnly s t l) (k : LineOnly t u l) : LineOnly s u l :=
  ⟨k.params.trans h.params, k.clock.trans h.clock, k.roster.trans h.roster, k.nextSerial.trans h.nextSerial,
    fun m hm => (k.other m hm).trans (h.other m hm)⟩

theorem HostOnly.lineOnly {s t : State} (h : HostOnly s t) (l : Line) : LineOnly s t l :=
  ⟨h.params, h.clock, h.roster, h.nextSerial, fun m _ => h.line m⟩

theorem LineOnly.setLine (s : State) (l : Line) (L : LineState) : LineOnly s (s.setLine l L) l :=
  ⟨by simp, by simp, by simp, by simp, fun _ hm => s.line_setLine_of_ne hm L⟩

/-- A line that has been swept: nothing is in progress or queued on it, and its supervisor's fields stand (R132). -/
structure LineState.SweptTo (L M : LineState) : Prop where
  power : M.power = L.power
  openPower : M.openPower = L.openPower
  settleAt : M.settleAt = L.settleAt
  speed : M.speed = L.speed
  census : M.census = none
  poll : M.poll = none
  queue : M.queue = []
  op : M.op = none
  counts : M.passedT = 0 ∧ M.passedP = 0 ∧ M.passedC = 0
  quarantine : M.quarantine = []

@[simp] theorem State.line_closeTxns (s : State) (rs : List Txn) (o : CloseOutcome) (l : Line) :
    (s.closeTxns rs o).line l = s.line l := by
  obtain ⟨_, _, _, _, h⟩ := s.closeTxns_eq rs o
  rw [h]
  cases l <;> rfl

theorem State.closeCensus_line (s : State) (l : Line) (o : CloseOutcome) :
    (s.closeCensus l o).line l = { s.line l with census := none } ∧
      ∀ m, m ≠ l → (s.closeCensus l o).line m = s.line m := by
  rw [State.closeCensus_eq]
  exact ⟨by simp, fun m hm => by rw [State.line_closeAll, State.line_setLine_of_ne _ hm]⟩

theorem State.queueDown_line (s : State) (l : Line) :
    (s.queueDown l).line l = { s.line l with queue := [] } ∧ ∀ m, m ≠ l → (s.queueDown l).line m = s.line m := by
  unfold State.queueDown State.setQueue
  exact ⟨by simp, fun m hm => by rw [State.line_closeTxns, State.line_modLine_of_ne _ hm]⟩

theorem State.lineDown_frame (s : State) (l : Line) :
    (s.lineDown l).params = s.params ∧ (s.lineDown l).clock = s.clock ∧
      (s.line l).SweptTo ((s.lineDown l).line l) ∧
        ∀ m, m ≠ l → (s.line m).ClaimedTo ((s.lineDown l).line m) := by
  have hdown := (Claimed.refl s).rosterDown l
  have hquarantine : ((s.rosterDown l).line l).quarantine = [] := by
    simp only [State.rosterDown, State.emptyQuarantine, State.line_modLine]
  have hfields : (s.lineDown l).params = s.params ∧ (s.lineDown l).clock = s.clock := by
    obtain ⟨_, _, _, _, hq⟩ := ((((s.rosterDown l).closeCensus l .lineDown).setQueue l [])).closeTxns_eq
      (((s.rosterDown l).closeCensus l .lineDown).line l).queue .lineDown
    unfold State.lineDown State.queueDown State.engineDown
    rw [hq, State.closeCensus_eq, State.setQueue]
    simpa using ⟨hdown.params, hdown.clock⟩
  obtain ⟨census, census_other⟩ := (s.rosterDown l).closeCensus_line l .lineDown
  obtain ⟨queue, queue_other⟩ := ((s.rosterDown l).closeCensus l .lineDown).queueDown_line l
  refine ⟨hfields.1, hfields.2, ?_, fun m hm => ?_⟩
  · obtain ⟨_, _, _, _, _, heq, -⟩ := hdown.line l
    rw [heq] at hquarantine
    unfold State.lineDown State.engineDown
    rw [State.line_modLine, queue, census, heq]
    constructor <;> first | rfl | exact hquarantine | exact ⟨rfl, rfl, rfl⟩
  · unfold State.lineDown State.engineDown
    rw [State.line_modLine_of_ne _ hm, queue_other m hm, census_other m hm]
    exact hdown.line m

/-- The census of a line changed by a slot's end, the rest of the line as it was. -/
def CensusOnly (s t : State) (l : Line) : Prop :=
  LineOnly s t l ∧ ∃ c, t.line l = { s.line l with census := c }

theorem CensusOnly.refl (s : State) (l : Line) : CensusOnly s s l :=
  ⟨(HostOnly.refl s).lineOnly l, (s.line l).census, rfl⟩

theorem CensusOnly.trans {s t u : State} {l : Line} (h : CensusOnly s t l) (k : CensusOnly t u l) : CensusOnly s u l := by
  obtain ⟨honly, c, hc⟩ := h
  obtain ⟨konly, d, hd⟩ := k
  exact ⟨honly.trans konly, d, by rw [hd, hc]⟩

theorem HostOnly.censusOnly {s t : State} (h : HostOnly s t) (l : Line) : CensusOnly s t l :=
  ⟨h.lineOnly l, (s.line l).census, h.line l⟩

theorem CensusOnly.setLine (s : State) (l : Line) (c : Option Census) :
    CensusOnly s (s.setLine l { s.line l with census := c }) l :=
  ⟨.setLine s l _, c, State.line_setLine ..⟩

theorem CensusOnly.modCensus (s : State) (l : Line) (f : Census → Census) : CensusOnly s (s.modCensus l f) l :=
  CensusOnly.setLine s l ((s.line l).census.map f)

theorem CensusOnly.closeCensus (s : State) (l : Line) (o : CloseOutcome) : CensusOnly s (s.closeCensus l o) l := by
  rw [State.closeCensus_eq]
  exact (CensusOnly.setLine s l none).trans ((HostOnly.closeAll _ _).censusOnly l)

theorem CensusOnly.roundEnd (s : State) (l : Line) (c : Census) : CensusOnly s (s.roundEnd l c) l := by
  have hp := (HostOnly.pushEvent s c.tag (c.summary s.params)).censusOnly l
  unfold State.roundEnd
  dsimp only
  split
  · exact hp.trans (.closeCensus _ l _)
  · split
    · exact hp.trans (.closeCensus _ l _)
    · split
      · exact hp.trans (.closeCensus _ l _)
      · exact hp.trans (.modCensus _ l _)

/-- The census takes a slot, and the line is otherwise as it was. -/
theorem CensusOnly.slotEnd (s : State) (l : Line) (event : Option (Nat → Nat → Event)) :
    CensusOnly s (s.slotEnd l event) l := by
  cases hc : (s.line l).census with
  | none => rw [State.slotEnd_of_none hc]; exact .refl s l
  | some c =>
    have ht : CensusOnly s (s.tell c event) l := by
      cases event with
      | none => exact .refl s l
      | some v => exact (HostOnly.pushEvent s _ _).censusOnly l
    rw [State.slotEnd_of_census hc, State.passSlot]
    have hcounted := ht.trans (.setLine (s.tell c event) l (some (slotCounted c)))
    dsimp only
    split
    · exact hcounted.trans (.roundEnd _ l _)
    · split
      · exact hcounted.trans (.closeCensus _ l _)
      · exact hcounted

theorem State.closePower_frame (s : State) (l : Line) (o : CloseOutcome) (p : LinePower) (n : Nat) :
    (s.closePower l o p n).params = s.params ∧ (s.closePower l o p n).clock = s.clock ∧
      (s.closePower l o p n).roster = s.roster ∧ (s.closePower l o p n).nextSerial = s.nextSerial ∧
      (s.closePower l o p n).line l = { s.line l with openPower := none } ∧
        ∀ m, m ≠ l → (s.closePower l o p n).line m = s.line m := by
  cases h : (s.line l).openPower with
  | none =>
    rw [State.closePower_of_none h]
    exact ⟨rfl, rfl, rfl, rfl, by rw [← h], fun _ _ => rfl⟩
  | some d =>
    rw [State.closePower_eq h]
    refine ⟨by simp, by simp, by simp, by simp, by simp, fun m hm => ?_⟩
    rw [State.line_closeAll, State.line_setLine_of_ne _ hm]

/-- A line that has gone down for its off: swept, without power and with no LINE_POWER open (R130). -/
structure LineState.WentOff (M : LineState) : Prop where
  power : M.power = .off
  openPower : M.openPower = none
  settleAt : M.settleAt = none
  speed : M.speed = none
  census : M.census = none
  poll : M.poll = none
  queue : M.queue = []
  op : M.op = none
  counts : M.passedT = 0 ∧ M.passedP = 0 ∧ M.passedC = 0
  quarantine : M.quarantine = []

theorem State.goOff_frame (s : State) (l : Line) :
    (s.goOff l).params = s.params ∧ (s.goOff l).clock = s.clock ∧ ((s.goOff l).line l).WentOff ∧
      ∀ m, m ≠ l → (s.line m).ClaimedTo ((s.goOff l).line m) := by
  obtain ⟨hparams, hclock, hswept, hother⟩ := (s.unpower l .off).lineDown_frame l
  obtain ⟨cparams, cclock, -, -, cself, cother⟩ :=
    ((s.unpower l .off).lineDown l).closePower_frame l .done .off (s.boundEntries l).length
  simp only [State.unpower, State.modLine_params, State.modLine_clock, State.line_modLine] at hparams hclock hswept
  refine ⟨cparams.trans hparams, cclock.trans hclock, ?_, fun m hm => ?_⟩
  · rw [State.goOff, cself]
    exact ⟨hswept.power, rfl, hswept.settleAt, hswept.speed, hswept.census, hswept.poll, hswept.queue, hswept.op,
      hswept.counts, hswept.quarantine⟩
  · rw [State.goOff, cother m hm]
    have := hother m hm
    rwa [State.unpower, State.line_modLine_of_ne _ hm] at this

/-- The end of a line operation (R126, R130): the line is free, or down for its off; the other line is not touched
beyond what closings bring. -/
theorem State.endOp_frame (s : State) (l : Line) :
    (s.endOp l).params = s.params ∧ (s.endOp l).clock = s.clock ∧
      (((s.line l).offOpen = false ∧ s.endOp l = s.setLine l { s.line l with op := none }) ∨
        ((s.line l).offOpen = true ∧ ((s.endOp l).line l).WentOff)) ∧
      ∀ m, m ≠ l → (s.line m).ClaimedTo ((s.endOp l).line m) := by
  cases hoff : (s.line l).offOpen with
  | false =>
    rw [State.endOp_of_no_off hoff]
    refine ⟨by simp, by simp, .inl ⟨rfl, rfl⟩, fun m hm => ?_⟩
    rw [State.line_setLine_of_ne _ hm]
    exact .refl _
  | true =>
    have hgo : s.endOp l = (s.modLine l fun L => { L with op := none }).goOff l := by
      have : ((s.modLine l fun L => { L with op := none }).line l).offOpen = true := by
        rw [State.line_modLine]; exact hoff
      simp only [State.endOp, this, if_true]
    obtain ⟨hparams, hclock, hwent, hother⟩ := (s.modLine l fun L => { L with op := none }).goOff_frame l
    rw [hgo]
    refine ⟨hparams.trans (by simp), hclock.trans (by simp), .inr ⟨rfl, hwent⟩, fun m hm => ?_⟩
    have := hother m hm
    rwa [State.line_modLine_of_ne _ hm] at this

end Sys2Proof.Machine
end

section
/-! What each command of the lines can come to, said once: it finds nothing to act on, or the state and the claim are
these. -/

namespace Sys2Proof.Machine

open Sys2Proof.Statements

variable {s t u : State} {l : Line}

theorem LineState.window_eq_some {L : LineState} {o : LineOp} (h : L.window = some o) :
    L.op = some o ∧ o.listening = true := by
  unfold LineState.window at h
  split at h
  · split at h
    · obtain rfl := Option.some.inj h
      exact ⟨‹_›, ‹_›⟩
    · exact nomatch h
  · exact nomatch h

theorem exec_settlingExpiry (h : exec (.settlingExpiry l) s = .next t) :
    t = s ∨ ∃ x, (s.line l).power = .settling ∧ (s.line l).settleAt = some x ∧
      t = (((s.passTo x).modLine l fun L => { L with power := .up, settleAt := none }).startCycle l).closePower l
        .done .up 0 := by
  simp only [exec, execSettlingExpiry] at h
  split at h
  · exact .inr ⟨_, ‹_›, ‹_›, (Host.Outcome.next.inj h).symm⟩
  · exact .inl (Host.Outcome.next.inj h).symm

theorem exec_overcurrentTrip (h : exec (.overcurrentTrip l) s = .next t) :
    t = s ∨ (s.line l).power = .up ∧ t = s.tripUp l ∨
      (s.line l).power = .settling ∧ t = (s.unpower l .fault).closePower l .faulted .fault 0 := by
  simp only [exec, execOvercurrentTrip] at h
  split at h
  · exact .inr (.inl ⟨‹_›, (Host.Outcome.next.inj h).symm⟩)
  · exact .inr (.inr ⟨‹_›, (Host.Outcome.next.inj h).symm⟩)
  · exact .inl (Host.Outcome.next.inj h).symm
  · exact .inl (Host.Outcome.next.inj h).symm

theorem exec_pollDue (h : exec (.pollDue l) s = .next t) :
    t = s ∨ ∃ c, (s.line l).poll = some c ∧
      (c.running = true ∧ t = (s.passTo c.nextDue).modLine l (fun L => { L with poll := some { c with late := true } }) ∨
        c.running = false ∧ t = (s.passTo c.nextDue).startCycle l) := by
  simp only [exec, execPollDue] at h
  split at h
  · rename_i c hc
    split at h
    · exact .inr ⟨c, hc, .inl ⟨‹_›, (Host.Outcome.next.inj h).symm⟩⟩
    · exact .inr ⟨c, hc, .inr ⟨Bool.not_eq_true _ ▸ ‹_›, (Host.Outcome.next.inj h).symm⟩⟩
  · exact .inl (Host.Outcome.next.inj h).symm

theorem exec_quarantineExpiry (h : exec (.quarantineExpiry l) s = .next t) :
    t = s ∨ ∃ x, t = (s.passTo x).expireDue l := by
  simp only [exec, execQuarantineExpiry] at h
  split at h
  · exact .inr ⟨_, (Host.Outcome.next.inj h).symm⟩
  · exact .inl (Host.Outcome.next.inj h).symm

theorem exec_hushExpiry (h : exec .hushExpiry s = .next t) : t = s ∨ ∃ x, t = (s.passTo x).hushExpireDue := by
  simp only [exec, execHushExpiry] at h
  split at h
  · exact .inr ⟨_, (Host.Outcome.next.inj h).symm⟩
  · exact .inl (Host.Outcome.next.inj h).symm

/-! ## Grants and calls -/

/-- The state in which an attempt of the head record has begun (R110). -/
abbrev attemptBegun (s : State) (l : Line) (r : Txn) (rest : List Txn) (a : Address) : State :=
  ((s.setQueue l ({ r with attempts := r.attempts + 1, inFlight := true } :: rest)).beginOp l .attempt
    (r.call a s.params.hushTime)).setRunning r.tag

/-- The state in which a poll has begun (R93). -/
abbrev pollBegun (s : State) (l : Line) (c : PollCycle) (n : Nat) (rest : List Nat) (e : Entry) (a : Address) : State :=
  (s.modLine l fun L => { L with poll := some { c with remaining := rest } }).beginOp l (.poll n e.identity) (.poll a)

/-- The context at the ROLL of its next round (R60). -/
abbrev rolled (p : Params) (c : Census) : Census :=
  { c with exponent := p.clampExp c.exponent, roundNumber := c.roundNumber + 1, emptySlots := 0, singleSlots := 0,
           collidedSlots := 0, spoiledSlots := 0, boundNodes := 0,
           totals := { c.totals with rounds := c.totals.rounds + 1 } }

/-- The state in which a slot operation has begun (R60, R61). -/
abbrev slotBegun (s : State) (l : Line) (c : Census) : State :=
  if c.slotIndex = 0 then
    (s.setLine l { s.line l with
      census := some (rolled s.params c)
      op := some ⟨.slotOpening, .roll (s.params.clampExp c.exponent) c.scopeLength c.scopeBits, false⟩ }).setRunning c.tag
  else (s.beginOp l .slotOpening .step).setRunning c.tag

theorem beginAttempt_cases (h : s.beginAttempt l = some u) :
    ∃ r rest e a, (s.line l).queue = r :: rest ∧ s.lookup r.target = some e ∧ e.address = some a ∧
      u = attemptBegun s l r rest a := by
  unfold State.beginAttempt at h
  split at h
  · rename_i r rest hq
    split at h
    · rename_i a ha
      obtain ⟨e, he, hea⟩ := Option.bind_eq_some_iff.mp ha
      exact ⟨r, rest, e, a, hq, he, hea, (Option.some.inj h).symm⟩
    · exact nomatch h
  · exact nomatch h

theorem beginPoll_cases (h : s.beginPoll l = some u) :
    ∃ c n rest e a, (s.line l).poll = some c ∧ (c.remaining.dropWhile fun n => !s.memberBound l n) = n :: rest ∧
      s.entryOf n = some e ∧ e.address = some a ∧ u = pollBegun s l c n rest e a := by
  unfold State.beginPoll at h
  split at h
  · split at h
    · split at h
      · split at h
        · exact ⟨_, _, _, _, _, ‹_›, ‹_›, ‹_›, ‹_›, (Option.some.inj h).symm⟩
        · exact nomatch h
      · exact nomatch h
    · exact nomatch h
  · exact nomatch h

theorem beginSlot_cases (h : s.beginSlot l = some u) :
    ∃ c, (s.line l).census = some c ∧ u = slotBegun s l c := by
  unfold State.beginSlot at h
  split at h
  · rename_i c hc
    refine ⟨c, hc, ?_⟩
    dsimp only at h
    split at h
    · rename_i hzero
      rw [slotBegun, if_pos hzero, ← Option.some.inj h]
      simp only [State.modCensus, State.beginOp, State.modLine_eq_setLine, State.line_setLine, State.setLine_setLine, hc]
      rfl
    · rename_i hne
      rw [slotBegun, if_neg hne, ← Option.some.inj h]
  · exact nomatch h

theorem exec_lineGrant (h : exec (.lineGrant l) s = .next t) :
    t = s ∨ ∃ c u, (s.line l).power = .up ∧ (s.line l).offOpen = false ∧ (s.line l).op = none ∧
      s.chosen l = some c ∧ s.beginFor l c = some u ∧ t = u.countGrant l c (s.waits l) := by
  simp only [exec, execLineGrant] at h
  split at h
  · rename_i hgrant
    simp only [LineState.grantable, Bool.and_eq_true, beq_iff_eq, Bool.not_eq_true', Option.isNone_iff_eq_none] at hgrant
    obtain ⟨⟨hup, hoff⟩, hop⟩ := hgrant
    split at h
    · split at h
      · exact .inr ⟨_, _, hup, hoff, hop, ‹_›, ‹_›, (Host.Outcome.next.inj h).symm⟩
      · exact .inl (Host.Outcome.next.inj h).symm
    · exact .inl (Host.Outcome.next.inj h).symm
  · exact .inl (Host.Outcome.next.inj h).symm

/-- The state in which the last bit of a call is counted and its window is open (R3, R135). -/
abbrev callCounted (s : State) (l : Line) (o : LineOp) : State :=
  s.setLine l { s.line l with
    counters := { (s.line l).counters with callsSent := (s.line l).counters.callsSent + 1 }
    op := some { o with listening := true } }

theorem exec_callSent (h : exec (.callSent l) s = .next t) :
    t = s ∨ ∃ o, (s.line l).op = some o ∧ o.listening = false ∧ t = (callCounted s l o).callEffect l o := by
  simp only [exec, execCallSent] at h
  split at h
  · rename_i o ho
    split at h
    · exact .inl (Host.Outcome.next.inj h).symm
    · exact .inr ⟨o, ho, Bool.not_eq_true _ ▸ ‹_›, (Host.Outcome.next.inj h).symm⟩
  · exact .inl (Host.Outcome.next.inj h).symm

/-- The same part of the line engine at the same call, a HUSH perhaps knowing its match. -/
def LineOp.Continues (p o : LineOp) : Prop :=
  p.call = o.call ∧ (p.work = o.work ∨ ∃ i r v m m', o.work = .slotHush i r v m ∧ p.work = .slotHush i r v m')

theorem LineOp.Continues.kinds {p o : LineOp} (h : p.Continues o) :
    p.isPoll = o.isPoll ∧ p.isAttempt = o.isAttempt ∧ p.isSlot = o.isSlot ∧
      ({ LineState.reset with op := some p } : LineState).slotsOpened =
        ({ LineState.reset with op := some o } : LineState).slotsOpened := by
  rcases h.2 with hw | ⟨i, r, v, m, m', ho, hp⟩
  · simp [LineOp.isPoll, LineOp.isAttempt, LineOp.isSlot, LineState.slotsOpened, hw]
  · simp [LineOp.isPoll, LineOp.isAttempt, LineOp.isSlot, LineState.slotsOpened, ho, hp]

/-- What a record of quarantine tells of its address. -/
def QuarantineRec.place (r : QuarantineRec) : Address × Option Ident := (r.address, r.origin)

theorem extend_place (now : Clock) (rs : List QuarantineRec) :
    ((orderRecords now (rs.map (·.extend now))).map QuarantineRec.place).Perm (rs.map QuarantineRec.place) := by
  refine ((orderRecords_perm now _).map _).trans (.of_eq ?_)
  rw [List.map_map]
  refine List.map_congr_left fun r _ => ?_
  simp only [Function.comp, QuarantineRec.extend]
  split <;> rfl

/-- The last bit of a call: the operation listens; hush list, counters and quarantine change, no address moves. -/
theorem callSent_frame (h : exec (.callSent l) s = .next t) :
    t = s ∨ ∃ o p hs q k, (s.line l).op = some o ∧ p.Continues o ∧
      t = ({ s with hush := hs } : State).setLine l { s.line l with counters := k, quarantine := q, op := some p } ∧
        (q.map QuarantineRec.place).Perm ((s.line l).quarantine.map QuarantineRec.place) := by
  rcases exec_callSent h with rfl | ⟨o, ho, -, rfl⟩
  · exact .inl rfl
  · right
    unfold State.callEffect
    split
    · refine ⟨o, { o with listening := true }, s.hush, _, { (s.line l).counters with
          callsSent := (s.line l).counters.callsSent + 1, rounds := (s.line l).counters.rounds + 1 }, ho,
        ⟨rfl, .inl rfl⟩, ?_, extend_place s.clock (s.line l).quarantine⟩
      simp only [State.extendQuarantine, State.modLine_eq_setLine, State.line_setLine, State.setLine_setLine,
        State.setLine_clock]
    · rename_i n i r v m _ hwork
      refine ⟨o, ⟨.slotHush i r v (hushMatch s.hush i l r), o.call, true⟩, (s.hushClaim i l r n).hush, (s.line l).quarantine,
        { (s.line l).counters with callsSent := (s.line l).counters.callsSent + 1 }, ho,
        ⟨rfl, .inr ⟨i, r, v, m, _, hwork, rfl⟩⟩, ?_, .refl _⟩
      cases l <;> simp [callCounted, State.hushClaim, State.modLine, State.setLine, State.line]
    · exact ⟨o, { o with listening := true }, s.hush, (s.line l).quarantine,
        { (s.line l).counters with callsSent := (s.line l).counters.callsSent + 1 }, ho, ⟨rfl, .inl rfl⟩, rfl, .refl _⟩

/-! ## Windows -/

/-- The window of a line is open for a call of this work. -/
abbrev Listening (s : State) (l : Line) (o : LineOp) : Prop := (s.line l).op = some o ∧ o.listening = true

theorem exec_slotWindow {x : Heard} (h : exec (.slotWindow l x) s = .next t) :
    t = s ∨ ∃ o, Listening s l o ∧ o.work = .slotOpening ∧ t = s.openingWindow l (o.call.classify x) := by
  simp only [exec, execSlotWindow] at h
  split at h
  · split at h
    · exact .inr ⟨_, LineState.window_eq_some ‹_›, ‹_›, (Host.Outcome.next.inj h).symm⟩
    · exact .inl (Host.Outcome.next.inj h).symm
  · exact .inl (Host.Outcome.next.inj h).symm

theorem exec_claimWindow {x : Heard} (h : exec (.claimWindow l x) s = .next t) :
    t = s ∨ ∃ o, Listening s l o ∧ o.work = .slotClaim ∧
      t = (s.claimHeard l o.call.handle (o.call.classify x)).settle := by
  simp only [exec, execClaimWindow] at h
  split at h
  · split at h
    · exact .inr ⟨_, LineState.window_eq_some ‹_›, ‹_›, (Host.Outcome.next.inj h).symm⟩
    · exact .inl (Host.Outcome.next.inj h).symm
  · exact .inl (Host.Outcome.next.inj h).symm

theorem exec_bindOutcome {x : Heard} (h : exec (.bindOutcome l x) s = .next t) :
    t = s ∨ ∃ o n i mem v, Listening s l o ∧ o.work = .slotBind n i mem v ∧
      t = s.bindHeard l n i mem v o.call.bindAddress (o.call.classify x) := by
  simp only [exec, execBindOutcome] at h
  split at h
  · split at h
    · exact .inr ⟨_, _, _, _, _, LineState.window_eq_some ‹_›, ‹_›, (Host.Outcome.next.inj h).symm⟩
    · exact .inl (Host.Outcome.next.inj h).symm
  · exact .inl (Host.Outcome.next.inj h).symm

theorem exec_hushWindow {x : Heard} (h : exec (.hushWindow l x) s = .next t) :
    t = s ∨ ∃ o i r v m, Listening s l o ∧ o.work = .slotHush i r v m ∧
      t = ((s.countWindow l (o.call.classify x)).modCensus l fun c => { c with totals := c.totals.hushed r }).finishSlot l
        (if m then none else v.map FindEvent.report) := by
  simp only [exec, execHushWindow] at h
  split at h
  · split at h
    · exact .inr ⟨_, _, _, _, _, LineState.window_eq_some ‹_›, ‹_›, (Host.Outcome.next.inj h).symm⟩
    · exact .inl (Host.Outcome.next.inj h).symm
  · exact .inl (Host.Outcome.next.inj h).symm

theorem exec_pollWindow {x : Heard} (h : exec (.pollWindow l x) s = .next t) :
    t = s ∨ ∃ o n i, Listening s l o ∧ o.work = .poll n i ∧
      t = ((s.pollHeard l n i o.call.address (o.call.classify x)).endOp l).settle := by
  simp only [exec, execPollWindow] at h
  split at h
  · split at h
    · exact .inr ⟨_, _, _, LineState.window_eq_some ‹_›, ‹_›, (Host.Outcome.next.inj h).symm⟩
    · exact .inl (Host.Outcome.next.inj h).symm
  · exact .inl (Host.Outcome.next.inj h).symm

theorem LineOp.work_of_isAttempt {o : LineOp} (h : o.isAttempt = true) : o.work = .attempt := by
  unfold LineOp.isAttempt at h
  split at h
  · assumption
  · exact nomatch h

theorem exec_attemptWindow {x : Heard} (h : exec (.attemptWindow l x) s = .next t) :
    t = s ∨ ∃ o, Listening s l o ∧ o.work = .attempt ∧ o.call.isReadWrite = true ∧
      t = (s.attemptHeard l (o.call.classify x)).settle.endOp l := by
  simp only [exec, execAttemptWindow] at h
  split at h
  · split at h
    · rename_i hkind
      rw [Bool.and_eq_true] at hkind
      exact .inr ⟨_, LineState.window_eq_some ‹_›, LineOp.work_of_isAttempt hkind.1, hkind.2,
        (Host.Outcome.next.inj h).symm⟩
    · exact .inl (Host.Outcome.next.inj h).symm
  · exact .inl (Host.Outcome.next.inj h).symm

theorem exec_releaseWindow {x : Heard} (h : exec (.releaseWindow l x) s = .next t) :
    t = s ∨ ∃ o, Listening s l o ∧ o.work = .attempt ∧ o.call.isRelease = true ∧
      t = (s.releaseHeard l (o.call.classify x)).settle.endOp l := by
  simp only [exec, execReleaseWindow] at h
  split at h
  · split at h
    · rename_i hkind
      rw [Bool.and_eq_true] at hkind
      exact .inr ⟨_, LineState.window_eq_some ‹_›, LineOp.work_of_isAttempt hkind.1, hkind.2,
        (Host.Outcome.next.inj h).symm⟩
    · exact .inl (Host.Outcome.next.inj h).symm
  · exact .inl (Host.Outcome.next.inj h).symm

/-! ## An attempt judged (R111 to R113, R119) -/

/-- A record of which an attempt has ended, heard or not. -/
abbrev Txn.ended (r : Txn) (n : Nat) : Txn := { r with inFlight := false, unheard := n }

/-- The state in which a window of an attempt has been counted and, if it answers the call, brought to the roster. -/
def JudgedFrom (s : State) (l : Line) (w : WindowClass) (i : Ident) (v : State) : Prop :=
  v = s.countMismatch l (mismatch w i) ∨ v = (s.countMismatch l (mismatch w i)).answeredNamed i

/-- Counting a window or a mismatch changes the line's counters alone. -/
theorem State.countWindow_eq (s : State) (l : Line) (w : WindowClass) :
    s.countWindow l w = s.setLine l { s.line l with counters := classCounted w (s.line l).counters } := by
  unfold State.countWindow
  cases w <;> rfl

theorem State.countMismatch_eq (s : State) (l : Line) (b : Bool) :
    s.countMismatch l b = s.setLine l { s.line l with
      counters := if b then { (s.line l).counters with mismatches := (s.line l).counters.mismatches + 1 }
        else (s.line l).counters } := by
  unfold State.countMismatch
  cases b
  · exact (s.setLine_line l).symm
  · rfl

theorem State.line_answeredNamed (s : State) (i : Ident) (l : Line) : (s.answeredNamed i).line l = s.line l := by
  unfold State.answeredNamed State.answered
  split
  · simp
  · rfl

/-- Before its record is closed or put back, an attempt has changed counters and the roster alone. -/
theorem JudgedFrom.line {s v : State} {l : Line} {w : WindowClass} {i : Ident} (h : JudgedFrom s l w i v) :
    (∃ k, v.line l = { s.line l with counters := k }) ∧ ∀ m, m ≠ l → v.line m = s.line m := by
  have hc := s.countMismatch_eq l (mismatch w i)
  rcases h with rfl | rfl
  · exact ⟨⟨_, by rw [hc, State.line_setLine]⟩, fun m hm => by rw [hc, State.line_setLine_of_ne _ hm]⟩
  · exact ⟨⟨_, by rw [State.line_answeredNamed, hc, State.line_setLine]⟩,
      fun m hm => by rw [State.line_answeredNamed, hc, State.line_setLine_of_ne _ hm]⟩

/-- A judged attempt leaves its record at the head, between attempts, or closes it, a miss claim behind an unanswered
one. -/
theorem attemptJudged_cases (s : State) (l : Line) (r : Txn) (rest : List Txn) (w : WindowClass) :
    ∃ v n, JudgedFrom s l w r.target v ∧
      (s.attemptJudged l r rest w = v.setQueue l (r.ended n :: rest) ∧ r.attempts ≤ v.params.retryLimit ∨
        (∃ o bs c, s.attemptJudged l r rest w = (v.setQueue l rest).closeTxn (r.ended n) o bs c) ∨
        s.attemptJudged l r rest w =
          ((v.setQueue l rest).closeTxn (r.ended n) .noAnswer none none).missNamed r.target .transaction) := by
  have hretry : ∀ (v : State) (n : Nat) (o : CloseOutcome),
      v.retryOrClose l (r.ended n) rest o = v.setQueue l (r.ended n :: rest) ∧ r.attempts ≤ v.params.retryLimit ∨
        (∃ o' bs c, v.retryOrClose l (r.ended n) rest o = (v.setQueue l rest).closeTxn (r.ended n) o' bs c) ∨
        v.retryOrClose l (r.ended n) rest o =
          ((v.setQueue l rest).closeTxn (r.ended n) .noAnswer none none).missNamed r.target .transaction := by
    intro v n o
    unfold State.retryOrClose
    split
    · exact .inr (.inl ⟨_, _, _, rfl⟩)
    · split
      · exact .inl ⟨rfl, ‹_›⟩
      · dsimp only
        split
        · rename_i ho
          exact .inr (.inr (by rw [ho]))
        · exact .inr (.inl ⟨_, _, _, rfl⟩)
  unfold State.attemptJudged
  dsimp only
  split
  · exact ⟨_, r.unheard, .inr rfl, .inr (.inl ⟨_, _, _, rfl⟩)⟩
  · exact ⟨_, r.unheard, .inr rfl, .inr (.inl ⟨_, _, _, rfl⟩)⟩
  · exact ⟨_, r.unheard, .inr rfl, hretry _ r.unheard _⟩
  · exact ⟨_, r.unheard + 1, .inl rfl, hretry _ (r.unheard + 1) _⟩

/-- An attempt heard: the record in flight at the head is judged, or the window is counted alone (R115). -/
theorem attemptHeard_cases (s : State) (l : Line) (w : WindowClass) :
    (s.attemptHeard l w = s.countWindow l w ∧ ∀ r rest, (s.line l).queue = r :: rest → r.inFlight = false) ∨ ∃ r rest, (s.line l).queue = r :: rest ∧ r.inFlight = true ∧
      s.attemptHeard l w = (s.countWindow l w).attemptJudged l r rest w := by
  have hqueue : ((s.countWindow l w).line l).queue = (s.line l).queue := by
    unfold State.countWindow
    rw [State.line_modLine]
    cases w <;> rfl
  unfold State.attemptHeard
  dsimp only
  split
  · rename_i r rest hq
    rw [hqueue] at hq
    split
    · exact .inr ⟨r, rest, hq, ‹_›, rfl⟩
    · refine .inl ⟨rfl, fun x xs hx => ?_⟩
      rw [hq] at hx
      obtain ⟨rfl, -⟩ := List.cons.inj hx
      exact Bool.not_eq_true _ ▸ ‹_›
  · rename_i hnil
    exact .inl ⟨rfl, fun r rest hq => nomatch (hqueue.trans hq).symm.trans hnil⟩

theorem releaseHeard_cases (s : State) (l : Line) (w : WindowClass) :
    (s.releaseHeard l w = s.countWindow l w ∧ ∀ r rest, (s.line l).queue = r :: rest → r.inFlight = false) ∨ ∃ r rest, (s.line l).queue = r :: rest ∧ r.inFlight = true ∧
      s.releaseHeard l w = (s.countWindow l w).releaseJudged l r rest w := by
  have hqueue : ((s.countWindow l w).line l).queue = (s.line l).queue := by
    unfold State.countWindow
    rw [State.line_modLine]
    cases w <;> rfl
  unfold State.releaseHeard
  dsimp only
  split
  · rename_i r rest hq
    rw [hqueue] at hq
    split
    · exact .inr ⟨r, rest, hq, ‹_›, rfl⟩
    · refine .inl ⟨rfl, fun x xs hx => ?_⟩
      rw [hq] at hx
      obtain ⟨rfl, -⟩ := List.cons.inj hx
      exact Bool.not_eq_true _ ▸ ‹_›
  · rename_i hnil
    exact .inl ⟨rfl, fun r rest hq => nomatch (hqueue.trans hq).symm.trans hnil⟩

/-- A judged RELEASE stays at the head, between attempts, or leaves the queue with the removal claim. -/
theorem releaseJudged_cases (s : State) (l : Line) (r : Txn) (rest : List Txn) (w : WindowClass) :
    let v := s.countMismatch l (mismatch w r.target)
    s.releaseJudged l r rest w = v.setQueue l (r.ended (r.unheard + 1) :: rest) ∧ r.attempts ≤ v.params.retryLimit ∨
      ∃ b, s.releaseJudged l r rest w = (v.setQueue l rest).removal r.target r.tag b := by
  unfold State.releaseJudged
  dsimp only
  split
  · exact .inr ⟨_, rfl⟩
  · split
    · exact .inl ⟨rfl, ‹_›⟩
    · exact .inr ⟨_, rfl⟩

end Sys2Proof.Machine
end

section
/-! What a judged attempt leaves of the lines: beside addresses, records and counters nothing is changed. -/

namespace Sys2Proof.Machine

open Sys2Proof.Statements

/-- Two states of a line that differ in addresses, records and counters alone. -/
def LineState.SameEngine (L M : LineState) : Prop :=
  ∃ pool quarantine n queue counters, M = { L with
    pool := pool, quarantine := quarantine, nextSeq := n, queue := queue, counters := counters }

/-- What a claim keeps that may also put a record back at the head of its queue. -/
structure Calm (s t : State) : Prop where
  params : t.params = s.params
  clock : t.clock = s.clock
  line : ∀ l, (s.line l).SameEngine (t.line l)

theorem LineState.ClaimedTo.sameEngine {L M : LineState} (h : L.ClaimedTo M) : L.SameEngine M := by
  obtain ⟨_, _, _, _, _, heq, -⟩ := h
  exact ⟨_, _, _, _, _, heq⟩

theorem LineState.SameEngine.trans {L M N : LineState} (h : L.SameEngine M) (k : M.SameEngine N) : L.SameEngine N := by
  obtain ⟨_, _, _, _, _, rfl⟩ := h
  obtain ⟨_, _, _, _, _, rfl⟩ := k
  exact ⟨_, _, _, _, _, rfl⟩

theorem Claimed.calm {s t : State} (h : Claimed s t) : Calm s t :=
  ⟨h.params, h.clock, fun l => (h.line l).sameEngine⟩

theorem JudgedFrom.claimed {s v : State} {l : Line} {w : WindowClass} {i : Ident} (h : JudgedFrom s l w i v) :
    Claimed s v := by
  have hc := (Claimed.refl s).countMismatch l (mismatch w i)
  rcases h with rfl | rfl
  · exact hc
  · exact hc.answeredNamed i

namespace Calm

variable {s t u : State}

theorem trans (h : Calm s t) (k : Calm t u) : Calm s u :=
  ⟨k.params.trans h.params, k.clock.trans h.clock, fun l => (h.line l).trans (k.line l)⟩

theorem claimed (h : Calm s t) (k : Claimed t u) : Calm s u := h.trans k.calm

theorem setQueue (h : Calm s t) (l : Line) (q : List Txn) : Calm s (t.setQueue l q) := by
  refine h.trans ⟨by simp [State.setQueue], by simp [State.setQueue], fun m => ?_⟩
  by_cases hm : m = l
  · subst hm
    rw [State.setQueue, State.line_modLine]
    exact ⟨_, _, _, _, _, rfl⟩
  · rw [State.setQueue, State.line_modLine_of_ne _ hm]
    exact ⟨_, _, _, _, _, rfl⟩

theorem judgedFrom {l : Line} {w : WindowClass} {i : Ident} {v : State} (h : Calm s t)
    (hv : JudgedFrom t l w i v) : Calm s v := h.claimed hv.claimed

theorem attemptHeard (s : State) (l : Line) (w : WindowClass) : Calm s (s.attemptHeard l w) := by
  have hc := ((Claimed.refl s).countWindow l w).calm
  rcases attemptHeard_cases s l w with ⟨heq, -⟩ | ⟨r, rest, -, -, heq⟩
  · exact heq ▸ hc
  · rw [heq]
    obtain ⟨v, n, hv, ⟨h, -⟩ | ⟨o, bs, c, h⟩ | h⟩ := attemptJudged_cases (s.countWindow l w) l r rest w <;> rw [h]
    · exact (hc.judgedFrom hv).setQueue l _
    · exact ((hc.judgedFrom hv).setQueue l _).claimed ((Claimed.refl _).closeTxn _ _ _ _)
    · exact ((hc.judgedFrom hv).setQueue l _).claimed (((Claimed.refl _).closeTxn _ _ _ _).missNamed _ _)

theorem releaseHeard (s : State) (l : Line) (w : WindowClass) : Calm s (s.releaseHeard l w) := by
  have hc := ((Claimed.refl s).countWindow l w).calm
  rcases releaseHeard_cases s l w with ⟨heq, -⟩ | ⟨r, rest, -, -, heq⟩
  · exact heq ▸ hc
  · rw [heq]
    have hv := hc.claimed ((Claimed.refl _).countMismatch l (mismatch w r.target))
    obtain ⟨h, -⟩ | ⟨b, h⟩ := releaseJudged_cases (s.countWindow l w) l r rest w <;> rw [h]
    · exact hv.setQueue l _
    · exact (hv.setQueue l _).claimed ((Claimed.refl _).removal _ _ _)

end Calm

end Sys2Proof.Machine
end

section
/-! The round counters of a census against its slot index (R58, R61, R67, R70), kept by every step. -/

namespace Sys2Proof.Machine

open Sys2Proof.Statements

/-! ## The law by what the line is doing -/

/-- A context between slot operations: the slots counted are those before the slot index. -/
def Census.Idle (c : Census) : Prop :=
  c.exponent ≤ 12 ∧ c.slotIndex < 2 ^ c.exponent ∧ c.roundNumber = c.totals.rounds ∧
    (c.slotIndex ≠ 0 → c.emptySlots + c.singleSlots + c.collidedSlots = c.slotIndex ∧
      c.spoiledSlots + c.boundNodes ≤ c.singleSlots)

/-- A context in a slot operation, `n` slots opened by it and not ended. -/
def Census.Busy (c : Census) (n : Nat) : Prop :=
  c.exponent ≤ 12 ∧ c.slotIndex < 2 ^ c.exponent ∧ c.roundNumber = c.totals.rounds ∧
    c.emptySlots + c.singleSlots + c.collidedSlots = c.slotIndex + n ∧
      c.spoiledSlots + c.boundNodes + n ≤ c.singleSlots

/-- A context whose slot is counted and whose slot operation is to end. -/
def Census.Due (c : Census) : Prop :=
  c.exponent ≤ 12 ∧ c.slotIndex < 2 ^ c.exponent ∧ c.roundNumber = c.totals.rounds ∧
    c.emptySlots + c.singleSlots + c.collidedSlots = c.slotIndex + 1 ∧
      c.spoiledSlots + c.boundNodes ≤ c.singleSlots

/-- The law looks at the census and the operation of the line alone. -/
theorem CensusLaw.congr {s t : State} {l : Line} (hc : (t.line l).census = (s.line l).census)
    (ho : (t.line l).op = (s.line l).op) (h : CensusLaw s l) : CensusLaw t l := by
  simpa only [CensusLaw, LineState.slotInProgress, LineState.slotsOpened, hc, ho] using h

theorem CensusLaw.claimed {s t : State} {l : Line} (h : CensusLaw s l) (hl : (s.line l).ClaimedTo (t.line l)) :
    CensusLaw t l := by
  obtain ⟨_, _, _, _, _, heq, -⟩ := hl
  exact h.congr (by rw [heq]) (by rw [heq])

theorem LineState.slotsOpened_of_no_slot {L : LineState} (h : L.slotInProgress = false) : L.slotsOpened = 0 := by
  unfold LineState.slotInProgress at h
  unfold LineState.slotsOpened
  cases ho : L.op with
  | none => rfl
  | some o =>
    rw [ho, Option.any_some, LineOp.isSlot] at h
    rw [Option.map_some]
    cases hw : o.work <;> simp [hw] at h <;> rfl

theorem CensusLaw.of_idle {s : State} {l : Line} (hop : (s.line l).slotInProgress = false)
    (h : ∀ c ∈ (s.line l).census, c.Idle) : CensusLaw s l := by
  have hopened := LineState.slotsOpened_of_no_slot hop
  refine ⟨fun h => absurd h (by simp [hop]), fun c hc => ?_⟩
  obtain ⟨hexp, hindex, hround, hsum⟩ := h c hc
  refine ⟨hexp, hindex, hround, fun hor => ?_⟩
  obtain ⟨hone, htwo⟩ := hsum (hor.resolve_left (by simp [hop]))
  exact ⟨by rw [hopened]; exact hone, by rw [hopened]; exact htwo⟩

theorem CensusLaw.of_busy {s : State} {l : Line} {c : Census} (hc : (s.line l).census = some c)
    (h : c.Busy (s.line l).slotsOpened) : CensusLaw s l := by
  refine ⟨fun _ => by rw [hc]; rfl, fun d hd => ?_⟩
  obtain rfl := Option.some.inj (hc.symm.trans hd)
  obtain ⟨hexp, hindex, hround, hsum, hle⟩ := h
  exact ⟨hexp, hindex, hround, fun _ => ⟨hsum, hle⟩⟩

theorem CensusLaw.idle {s : State} {l : Line} (h : CensusLaw s l) (hop : (s.line l).slotInProgress = false) :
    ∀ c ∈ (s.line l).census, c.Idle := by
  intro c hc
  obtain ⟨hexp, hindex, hround, hsum⟩ := h.2 c hc
  have hopened := LineState.slotsOpened_of_no_slot hop
  exact ⟨hexp, hindex, hround, fun hi => by simpa [hopened] using hsum (.inr hi)⟩

theorem CensusLaw.busy {s : State} {l : Line} (h : CensusLaw s l) (hop : (s.line l).slotInProgress = true) :
    ∃ c, (s.line l).census = some c ∧ c.Busy (s.line l).slotsOpened := by
  obtain ⟨c, hc⟩ := Option.isSome_iff_exists.mp (h.1 hop)
  obtain ⟨hexp, hindex, hround, hsum⟩ := h.2 c hc
  exact ⟨c, hc, hexp, hindex, hround, hsum (.inl hop)⟩

/-! ## The end of a slot operation -/

theorem Census.nextExponent_le {c : Census} (h : c.exponent ≤ 12) : c.nextExponent ≤ 12 := by
  unfold Census.nextExponent
  cases c.policy with
  | fixed => exact h
  | adaptive =>
    dsimp only
    split
    · exact Nat.min_le_left _ _
    · split <;> omega

/-- What a slot leaves of its census: gone, or idle (R61, R67, R72). -/
def SlotLeft (s t : State) (l : Line) : Prop :=
  t.params = s.params ∧ (t.line l).offOpen = (s.line l).offOpen ∧ (∀ c ∈ (t.line l).census, c.Idle) ∧
    ∀ m, m ≠ l → (s.line m).ClaimedTo (t.line m)

theorem SlotLeft.closeCensus (s : State) (l : Line) (o : CloseOutcome) : SlotLeft s (s.closeCensus l o) l := by
  obtain ⟨hself, hother⟩ := s.closeCensus_line l o
  refine ⟨by rw [State.closeCensus_eq]; simp, by rw [hself]; rfl, ?_, fun m hm => ?_⟩
  · rw [hself]
    exact fun c hc => nomatch hc
  · rw [hother m hm]
    exact .refl _

theorem SlotLeft.of_setLine (s : State) {l : Line} {c : Census} (h : c.Idle) :
    SlotLeft s (s.setLine l { s.line l with census := some c }) l := by
  refine ⟨by simp, by rw [State.line_setLine]; rfl, ?_, fun m hm => ?_⟩
  · rw [State.line_setLine]
    rintro d ⟨⟩
    exact h
  · rw [State.line_setLine_of_ne _ hm]
    exact .refl _

theorem SlotLeft.trans_claimed {s t u : State} {l : Line} (h : Claimed s t) (k : SlotLeft t u l) : SlotLeft s u l := by
  obtain ⟨hparams, hoff, hidle, hother⟩ := k
  obtain ⟨_, _, _, _, _, heq, -⟩ := h.line l
  exact ⟨hparams.trans h.params, hoff.trans (by rw [heq]; rfl), hidle, fun m hm => (h.line m).trans (hother m hm)⟩

/-- A state written over the line's census before another claim on it. -/
theorem SlotLeft.trans_setLine {s u : State} {l : Line} {c : Option Census}
    (k : SlotLeft (s.setLine l { s.line l with census := c }) u l) : SlotLeft s u l := by
  obtain ⟨hparams, hoff, hidle, hother⟩ := k
  refine ⟨hparams.trans (by simp), hoff.trans (by rw [State.line_setLine]; rfl), hidle, fun m hm => ?_⟩
  have := hother m hm
  rwa [State.line_setLine_of_ne _ hm] at this

theorem SlotLeft.roundEnd {s : State} {l : Line} {c : Census} (hc : (s.line l).census = some c)
    (hexp : c.exponent ≤ 12) (hround : c.roundNumber = c.totals.rounds) : SlotLeft s (s.roundEnd l c) l := by
  have hp := (Claimed.refl s).pushEvent c.tag (c.summary s.params)
  have hcensus : ((s.pushEvent c.tag (c.summary s.params)).line l).census = some c := by
    obtain ⟨_, _, _, _, _, heq, -⟩ := hp.line l
    rw [heq, hc]
  unfold State.roundEnd
  dsimp only
  split
  · exact .trans_claimed hp (.closeCensus _ _ _)
  · split
    · exact .trans_claimed hp (.closeCensus _ _ _)
    · split
      · exact .trans_claimed hp (.closeCensus _ _ _)
      · refine .trans_claimed hp ?_
        rw [State.modCensus, State.modLine_eq_setLine, hcensus]
        exact .of_setLine _ ⟨Census.nextExponent_le hexp, Nat.two_pow_pos _, hround, fun h => absurd rfl h⟩

theorem SlotLeft.slotEnd {s : State} {l : Line} {c : Census} (hc : (s.line l).census = some c) (h : c.Due)
    (event : Option (Nat → Nat → Event)) : SlotLeft s (s.slotEnd l event) l := by
  have ht : Claimed s (s.tell c event) := by
    cases event with
    | none => exact .refl s
    | some v => exact (Claimed.refl s).pushEvent _ _
  obtain ⟨hexp, hindex, hround, hsum, hle⟩ := h
  rw [State.slotEnd_of_census hc, State.passSlot]
  dsimp only
  split
  · exact .trans_claimed ht (.trans_setLine (c := some (slotCounted c)) (.roundEnd (by simp) hexp hround))
  · rename_i hmid
    split
    · exact .trans_claimed ht (.trans_setLine (c := some (slotCounted c)) (.closeCensus _ _ _))
    · exact .trans_claimed ht (.of_setLine _ ⟨hexp, Nat.lt_of_not_le hmid, hround, fun _ => ⟨hsum, hle⟩⟩)

/-- The end of a line operation leaves its line idle and the other as it was. -/
theorem CensusLaw.endOp {s : State} {l : Line} (hidle : ∀ c ∈ (s.line l).census, c.Idle)
    (hother : ∀ m, m ≠ l → CensusLaw s m) (m : Line) : CensusLaw (s.endOp l) m := by
  obtain ⟨-, -, hself, hrest⟩ := s.endOp_frame l
  by_cases hm : m = l
  · subst hm
    rcases hself with ⟨-, heq⟩ | ⟨-, hwent⟩
    · rw [heq]
      exact .of_idle (by simp [LineState.slotInProgress]) (by simpa using hidle)
    · exact .of_idle (by simp [LineState.slotInProgress, hwent.op]) (by simp [hwent.census])
  · exact (hother m hm).claimed (hrest m hm)

theorem State.endOp_params (s : State) (l : Line) : (s.endOp l).params = s.params := (s.endOp_frame l).1

/-- The end of a slot operation whose slot is counted. -/
theorem CensusLaw.finishSlot {s : State} {l : Line} {c : Census} (hc : (s.line l).census = some c) (h : c.Due)
    (hother : ∀ m, m ≠ l → CensusLaw s m) (event : Option (Nat → Nat → Event)) (m : Line) :
    CensusLaw (s.finishSlot l event) m := by
  obtain ⟨-, -, hidle, hrest⟩ := SlotLeft.slotEnd hc h event
  exact .endOp hidle (fun k hk => (hother k hk).claimed (hrest k hk)) m

theorem State.finishSlot_params {s : State} {l : Line} {c : Census} (hc : (s.line l).census = some c) (h : c.Due)
    (event : Option (Nat → Nat → Event)) : (s.finishSlot l event).params = s.params :=
  (State.endOp_params _ l).trans (SlotLeft.slotEnd hc h event).1

/-! ## The law as a law of the core -/

/-- The law of O59, both lines at once. -/
def CensusLaws (s : State) : Prop := ParamLaw s ∧ ∀ l, CensusLaw s l

namespace CensusLaws

variable {s t : State}

/-- What leaves census and operation of both lines as they are keeps the law. -/
theorem of_same (h : CensusLaws s) (hp : t.params = s.params) (hc : ∀ l, (t.line l).census = (s.line l).census)
    (ho : ∀ l, (t.line l).op = (s.line l).op) : CensusLaws t :=
  ⟨h.1.congr hp, fun l => (h.2 l).congr (hc l) (ho l)⟩

theorem claimed (h : CensusLaws s) (hc : Claimed s t) : CensusLaws t :=
  ⟨h.1.congr hc.params, fun l => (h.2 l).claimed (hc.line l)⟩

theorem settle (h : CensusLaws s) : CensusLaws s.settle := by
  refine h.of_same (by simp) (fun l => ?_) (fun l => ?_) <;>
  · obtain ⟨_, _, _, _, _, heq, -⟩ := lineSettled_eq s l
    rw [State.line_settle, heq]

/-- A change of one line that leaves census and operation. -/
theorem modLine (h : CensusLaws s) (l : Line) {f : LineState → LineState}
    (hc : (f (s.line l)).census = (s.line l).census) (ho : (f (s.line l)).op = (s.line l).op) :
    CensusLaws (s.modLine l f) := by
  refine h.of_same (by simp) (fun m => ?_) (fun m => ?_) <;>
  · by_cases hm : m = l
    · subst hm
      rw [State.line_modLine]
      assumption
    · rw [State.line_modLine_of_ne _ hm]

/-- A change of one line that keeps the law there. -/
theorem onLine (h : CensusLaws s) {l : Line} (hp : t.params = s.params) (hl : CensusLaw t l)
    (hother : ∀ m, m ≠ l → (s.line m).ClaimedTo (t.line m)) : CensusLaws t := by
  refine ⟨h.1.congr hp, fun m => ?_⟩
  by_cases hm : m = l
  · exact hm ▸ hl
  · exact (h.2 m).claimed (hother m hm)

end CensusLaws

end Sys2Proof.Machine
end

section
/-! Every request and every command of the lines keeps the round counters (R58, R61, R67, R70). -/

namespace Sys2Proof.Machine

open Sys2Proof.Statements

namespace CensusLaws

variable {s t : State}

/-! ## Requests -/

theorem setReqState (h : CensusLaws s) (tag : Tag) (f : ReqState → ReqState) : CensusLaws (s.setReqState tag f) :=
  h.claimed ((Claimed.refl s).setReqState tag f)

theorem setQueue (h : CensusLaws s) (l : Line) (q : List Txn) : CensusLaws (s.setQueue l q) := h.modLine l rfl rfl

/-- A census that is not in a slot operation closes. -/
theorem closeCensus (h : CensusLaws s) {l : Line} (hop : (s.line l).slotInProgress = false) (o : CloseOutcome) :
    CensusLaws (s.closeCensus l o) := by
  obtain ⟨hself, hother⟩ := s.closeCensus_line l o
  refine h.onLine (l := l) (by rw [State.closeCensus_eq]; simp) (.of_idle ?_ ?_) fun m hm => ?_
  · rw [hself]; exact hop
  · rw [hself]; exact fun c hc => nomatch hc
  · rw [hother m hm]; exact .refl _

theorem haltCensus (h : CensusLaws s) (l : Line) (m : Halt) : CensusLaws (s.haltCensus l m) := by
  unfold State.haltCensus
  split
  · rename_i c hc
    split
    · exact h
    · split
      · rename_i hop
        obtain ⟨d, hd, hbusy⟩ := (h.2 l).busy hop
        obtain rfl := Option.some.inj (hc.symm.trans hd)
        refine setReqState (h.onLine (l := l) (by simp [State.modCensus]) ?_ fun k hk => ?_) _ _
        · exact .of_busy (c := { c with halt := some m }) (by simp [State.modCensus, hc])
            (by simp only [State.modCensus, State.line_modLine]; exact hbusy)
        · rw [State.modCensus, State.line_modLine_of_ne _ hk]; exact .refl _
      · exact h.closeCensus (Bool.not_eq_true _ ▸ ‹_›) _
  · exact h

theorem haltTxn (h : CensusLaws s) (l : Line) (tag : Tag) (m : Halt) : CensusLaws (s.haltTxn l tag m) := by
  unfold State.haltTxn
  split
  · exact h
  · split
    · exact (h.setQueue l _).setReqState _ _
    · exact (h.setQueue l _).claimed ((Claimed.refl _).closeTxn _ _ _ _)

theorem haltForget (h : CensusLaws s) (l : Line) (tag : Tag) (i : Ident) (m : Halt) :
    CensusLaws (s.haltForget l tag i m) := by
  unfold State.haltForget
  split
  · exact (h.setQueue l _).claimed (((Claimed.refl _).updNamed i _).close _ _ _)
  · exact h

theorem haltRequest (h : CensusLaws s) (m : Halt) (r : Req) : CensusLaws (s.haltRequest m r) := by
  unfold State.haltRequest
  split
  · exact h.haltCensus _ m
  · exact h.haltTxn _ _ m
  · exact h.haltTxn _ _ m
  · exact h.haltForget _ _ _ m
  · exact h

theorem passTo (h : CensusLaws s) (x : Clock) : CensusLaws (s.passTo x) :=
  h.of_same rfl (fun m => by cases m <;> rfl) fun m => by cases m <;> rfl

theorem admitStop (h : CensusLaws s) (tag : Tag) : CensusLaws (s.admitStop tag) := by
  have hfold : ∀ (qs : List Req) {u : State}, CensusLaws u →
      CensusLaws (qs.foldl (fun t r => t.haltRequest .stop r) u) := by
    intro qs
    induction qs with
    | nil => exact fun hu => hu
    | cons q qs ih => exact fun hu => ih (hu.haltRequest .stop q)
  have hopen : CensusLaws { s.push tag (.taken .stop) with
      stop := some { tag := tag, openCount := s.table.length } } :=
    h.claimed ((Claimed.refl s).congr rfl rfl fun l => by cases l <;> rfl)
  exact ((hfold s.table hopen).claimed ((Claimed.refl _).settleStop)).settle

theorem take (h : CensusLaws s) (r : Req) : CensusLaws (s.take r) := h.claimed ((Claimed.refl s).take r)

/-- A fresh context is idle at slot index 0 (R57). -/
theorem withCensus (h : CensusLaws s) (tag : Tag) (l : Line) (p : Policy) {e b n : Nat} {bits : BitVec 64}
    (hadm : s.censusRefusal l e n = none) :
    CensusLaws (s.withCensus tag l (Census.fresh tag p e b n bits)) := by
  unfold State.censusRefusal at hadm
  split at hadm
  · exact nomatch hadm
  split at hadm
  · exact nomatch hadm
  rename_i hnone
  split at hadm
  · exact nomatch hadm
  rename_i hrange
  have hmax : s.params.expMax ≤ 12 := (h.1.1 10 (by decide) _ rfl _ rfl).2
  have hop : (s.line l).slotInProgress = false := by
    by_contra hslot
    exact hnone ((h.2 l).1 (by simpa using hslot))
  refine (h.take { tag := tag, kind := .census, line := l, state := .queued, target := none }).onLine (l := l)
    (by simp [State.withCensus]) (.of_idle ?_ ?_) fun m hm => ?_
  · simpa [State.withCensus, LineState.slotInProgress] using hop
  · simp only [State.withCensus, State.line_modLine]
    rintro c ⟨⟩
    exact ⟨show e ≤ 12 by omega, Nat.two_pow_pos e, rfl, fun h => absurd rfl h⟩
  · rw [State.withCensus, State.line_modLine_of_ne _ hm]; exact .refl _

theorem closeTxns (h : CensusLaws s) (rs : List Txn) (o : CloseOutcome) : CensusLaws (s.closeTxns rs o) :=
  h.claimed ((Claimed.refl s).closeTxns rs o)

theorem admitTxn (h : CensusLaws s) (tag : Tag) (k : LongKind) (i : Ident) (w : TxnWork) :
    CensusLaws (s.admitTxn tag k i w) := by
  unfold State.admitTxn
  split
  · exact ((h.take _).setQueue _ _).claimed ((Claimed.refl _).updNamed _ _)
  · exact h

theorem admitForget (h : CensusLaws s) (tag : Tag) (e : Entry) : CensusLaws (s.admitForget tag e) := by
  unfold State.admitForget
  dsimp only
  split
  · exact (((h.take _).claimed ((Claimed.refl _).updNamed _ _)).setQueue _ _).closeTxns _ _
  · exact (h.take _).claimed (((Claimed.refl _).removeEntry e).closeForget _ _ _)

/-! ## The supervisor -/

theorem closePower (h : CensusLaws s) (l : Line) (o : CloseOutcome) (p : LinePower) (n : Nat) :
    CensusLaws (s.closePower l o p n) := by
  obtain ⟨hparams, -, -, -, hself, hother⟩ := s.closePower_frame l o p n
  refine h.onLine (l := l) hparams ((h.2 l).congr (by rw [hself]) (by rw [hself])) fun m hm => ?_
  rw [hother m hm]; exact .refl _

/-- A line that goes down holds neither census nor operation (R132). -/
theorem goOff (h : CensusLaws s) (l : Line) : CensusLaws (s.goOff l) := by
  obtain ⟨hparams, -, hwent, hother⟩ := s.goOff_frame l
  exact h.onLine (l := l) hparams
    (.of_idle (by simp [LineState.slotInProgress, hwent.op]) (by simp [hwent.census])) hother

theorem actPower (h : CensusLaws s) (l : Line) (d : Direction) (tag : Tag) : CensusLaws (s.actPower l d tag) := by
  unfold State.actPower
  split
  · exact h.modLine l rfl rfl
  · exact h.modLine l rfl rfl
  · exact h.claimed ((Claimed.refl s).close _ _ _)
  · exact h.claimed ((Claimed.refl s).close _ _ _)
  · exact h.claimed ((Claimed.refl s).close _ _ _)
  · dsimp only
    split
    · exact h.modLine l rfl rfl
    · exact goOff (h.modLine l rfl rfl) l
  · exact (closePower (s := s.unpower l .off) (h.modLine l rfl rfl) l _ _ _).claimed ((Claimed.refl _).close _ _ _)
  · exact h.modLine l rfl rfl

theorem settlingExpiry (h : CensusLaws s) {l : Line} (he : exec (.settlingExpiry l) s = .next t) : CensusLaws t := by
  rcases exec_settlingExpiry he with rfl | ⟨x, -, -, rfl⟩
  · exact h
  · refine closePower ?_ l _ _ _
    rw [State.startCycle]
    exact modLine (modLine (h.passTo x) l rfl rfl) l rfl rfl

theorem overcurrentTrip (h : CensusLaws s) {l : Line} (he : exec (.overcurrentTrip l) s = .next t) :
    CensusLaws t := by
  rcases exec_overcurrentTrip he with rfl | ⟨-, rfl⟩ | ⟨-, rfl⟩
  · exact h
  · have hdown : CensusLaws ((s.unpower l .fault).lineDown l) := by
      obtain ⟨hparams, -, hswept, hother⟩ := (s.unpower l .fault).lineDown_frame l
      exact onLine (s := s.unpower l .fault) (h.modLine l rfl rfl) hparams
        (.of_idle (by simp [LineState.slotInProgress, hswept.op]) (by simp [hswept.census])) hother
    have htold := hdown.claimed ((Claimed.refl _).pushEvent 0 (.lineFault l s.clock (s.boundEntries l).length))
    unfold State.tripUp
    dsimp only
    split
    · exact htold.closePower l _ _ _
    · exact htold
  · exact closePower (s := s.unpower l .fault) (h.modLine l rfl rfl) l _ _ _

/-! ## Timers -/

theorem pollDue (h : CensusLaws s) {l : Line} (he : exec (.pollDue l) s = .next t) : CensusLaws t := by
  rcases exec_pollDue he with rfl | ⟨c, -, ⟨-, rfl⟩ | ⟨-, rfl⟩⟩
  · exact h
  · exact (h.passTo _).modLine l rfl rfl
  · rw [State.startCycle]
    exact (h.passTo _).modLine l rfl rfl

theorem quarantineExpiry (h : CensusLaws s) {l : Line} (he : exec (.quarantineExpiry l) s = .next t) :
    CensusLaws t := by
  rcases exec_quarantineExpiry he with rfl | ⟨x, rfl⟩
  · exact h
  · exact (h.passTo x).claimed ((Claimed.refl _).expireDue l)

theorem hushExpiry (h : CensusLaws s) (he : exec .hushExpiry s = .next t) : CensusLaws t := by
  rcases exec_hushExpiry he with rfl | ⟨x, rfl⟩
  · exact h
  · exact (h.passTo x).of_same rfl (fun m => by cases m <;> rfl) fun m => by cases m <;> rfl

/-! ## Grants and calls -/

/-- An operation that is no slot operation begins on a free line. -/
theorem beginOp (h : CensusLaws s) {l : Line} (hop : (s.line l).op = none) {w : OpWork} (c : Call)
    (hw : ({ work := w, call := c, listening := false } : LineOp).isSlot = false) : CensusLaws (s.beginOp l w c) := by
  have hidle := (h.2 l).idle (by simp [LineState.slotInProgress, hop])
  refine h.onLine (l := l) (by simp [State.beginOp]) (.of_idle ?_ ?_) fun m hm => ?_
  · simpa [State.beginOp, LineState.slotInProgress] using hw
  · simpa [State.beginOp] using hidle
  · rw [State.beginOp, State.line_modLine_of_ne _ hm]; exact .refl _

theorem clampExp_le (h : ParamLaw s) (e : Nat) : s.params.clampExp e ≤ 12 := by
  have hmin : s.params.expMin ≤ 12 := (h.1 9 (by decide) _ rfl _ rfl).2
  have hmax : s.params.expMax ≤ 12 := (h.1 10 (by decide) _ rfl _ rfl).2
  unfold Params.clampExp clamp
  split
  · exact hmin
  · split <;> omega

theorem slotBegun (h : CensusLaws s) {l : Line} {c : Census} (hop : (s.line l).op = none)
    (hc : (s.line l).census = some c) : CensusLaws (slotBegun s l c) := by
  obtain ⟨hexp, hindex, hround, hsum⟩ := (h.2 l).idle (by simp [LineState.slotInProgress, hop]) c hc
  unfold Machine.slotBegun
  split
  · rename_i hzero
    refine setReqState (h.onLine (l := l) (by simp) ?_ fun m hm => ?_) _ _
    · refine .of_busy (c := rolled s.params c) (by simp) ?_
      rw [State.line_setLine]
      exact ⟨clampExp_le h.1 _, by simp [hzero], by simp [hround],
        by simp [hzero, LineState.slotsOpened], by simp [LineState.slotsOpened]⟩
    · rw [State.line_setLine_of_ne _ hm]; exact .refl _
  · rename_i hne
    obtain ⟨hone, htwo⟩ := hsum hne
    refine setReqState (h.onLine (l := l) (by simp [State.beginOp]) ?_ fun m hm => ?_) _ _
    · refine .of_busy (c := c) (by simpa only [State.beginOp, State.line_modLine] using hc) ?_
      rw [State.beginOp, State.line_modLine]
      exact ⟨hexp, hindex, hround, hone, htwo⟩
    · rw [State.beginOp, State.line_modLine_of_ne _ hm]; exact .refl _

theorem lineGrant (h : CensusLaws s) {l : Line} (he : exec (.lineGrant l) s = .next t) : CensusLaws t := by
  rcases exec_lineGrant he with rfl | ⟨c, u, -, -, hop, -, hu, rfl⟩
  · exact h
  · refine modLine ?_ l rfl rfl
    cases c with
    | executor =>
      obtain ⟨r, rest, e, a, -, -, -, rfl⟩ := beginAttempt_cases hu
      exact (beginOp (h.setQueue l _) (by simpa [State.setQueue] using hop) _ rfl).setReqState _ _
    | scheduler =>
      obtain ⟨c, n, rest, e, a, -, -, -, -, rfl⟩ := beginPoll_cases hu
      exact beginOp (h.modLine l rfl rfl) (by simpa using hop) _ rfl
    | sequencer =>
      obtain ⟨c, hc, rfl⟩ := beginSlot_cases hu
      exact h.slotBegun hop hc

/-- The operation goes on with work that has opened as many slots. -/
theorem onOp (h : CensusLaws s) {l : Line} {o p : LineOp} {L : LineState} (ho : (s.line l).op = some o)
    (hp : L.op = some p) (hslot : p.isSlot = o.isSlot) (hopened : L.slotsOpened = (s.line l).slotsOpened)
    (hc : L.census = (s.line l).census) : CensusLaws (s.setLine l L) := by
  refine h.onLine (l := l) (by simp) ?_ fun m hm => ?_
  · have hprogress : L.slotInProgress = (s.line l).slotInProgress := by
      simp only [LineState.slotInProgress, hp, ho, Option.any_some, hslot]
    simpa only [CensusLaw, State.line_setLine, hc, hprogress, hopened] using h.2 l
  · rw [State.line_setLine_of_ne _ hm]; exact .refl _

theorem callSent (h : CensusLaws s) {l : Line} (he : exec (.callSent l) s = .next t) : CensusLaws t := by
  rcases callSent_frame he with rfl | ⟨o, p, hs, q, k, ho, hp, rfl, -⟩
  · exact h
  · obtain ⟨-, -, hslot, hopened⟩ := hp.kinds
    refine onOp (s := { s with hush := hs }) (o := o) (p := p) (h.of_same rfl (fun m => by simp) fun m => by simp)
      (by simpa using ho) rfl hslot ?_ (by simp)
    simpa only [LineState.slotsOpened, State.line_with_hush, ho] using hopened

/-! ## Windows -/

/-- A slot whose counters change as it ends (R61, R66). -/
theorem endSlot (h : CensusLaws s) {l : Line} {c : Census} {f : Census → Census} (hc : (s.line l).census = some c)
    (hdue : (f c).Due) (event : Option (Nat → Nat → Event)) : CensusLaws ((s.modCensus l f).finishSlot l event) := by
  have hcensus : ((s.modCensus l f).line l).census = some (f c) := by
    rw [State.modCensus, State.line_modLine, hc]; rfl
  refine ⟨h.1.congr ((State.finishSlot_params hcensus hdue event).trans (by simp [State.modCensus])),
    CensusLaw.finishSlot hcensus hdue (fun m hm => ?_) event⟩
  rw [State.modCensus]
  exact (h.2 m).claimed (by rw [State.line_modLine_of_ne _ hm]; exact .refl _)

/-- The slot goes on to its next call, its counters changed with it. -/
theorem nextCall (h : CensusLaws s) {l : Line} {c : Census} {f : Census → Census} (hc : (s.line l).census = some c)
    {w : OpWork} {k : Call}
    (hbusy : (f c).Busy ({ s.line l with op := some ⟨w, k, false⟩ } : LineState).slotsOpened) :
    CensusLaws ((s.modCensus l f).beginOp l w k) := by
  refine h.onLine (l := l) (by simp [State.beginOp, State.modCensus])
    (.of_busy (c := f c) (by simp [State.beginOp, State.modCensus, hc]) ?_) fun m hm => ?_
  · simp only [State.beginOp, State.modCensus, State.line_modLine]
    exact hbusy
  · rw [State.beginOp, State.modCensus, State.line_modLine_of_ne _ hm, State.line_modLine_of_ne _ hm]
    exact .refl _

theorem countWindow (h : CensusLaws s) (l : Line) (w : WindowClass) : CensusLaws (s.countWindow l w) :=
  h.claimed ((Claimed.refl s).countWindow l w)

/-- The census of a line in a slot operation of this work, from a state that claims have left. -/
theorem busyAfter (h : CensusLaws s) (k : Claimed s t) {l : Line} {o : LineOp} (ho : (s.line l).op = some o)
    (hslot : o.isSlot = true) : ∃ c, (t.line l).census = some c ∧ c.Busy (s.line l).slotsOpened ∧
      (t.line l).op = some o := by
  obtain ⟨_, _, _, _, _, heq, -⟩ := k.line l
  obtain ⟨c, hc, hbusy⟩ := (h.2 l).busy (by simpa [LineState.slotInProgress, ho] using hslot)
  exact ⟨c, by rw [heq]; exact hc, hbusy, by rw [heq]; exact ho⟩

theorem slotWindow (h : CensusLaws s) {l : Line} {x : Heard} (he : exec (.slotWindow l x) s = .next t) :
    CensusLaws t := by
  rcases exec_slotWindow he with rfl | ⟨o, ⟨ho, -⟩, hwork, rfl⟩
  · exact h
  · generalize o.call.classify x = w
    obtain ⟨c, hc, hbusy, -⟩ := h.busyAfter ((Claimed.refl s).countWindow l w) ho (by simp [LineOp.isSlot, hwork])
    have hopened : (s.line l).slotsOpened = 0 := by simp [LineState.slotsOpened, ho, hwork]
    rw [hopened] at hbusy
    obtain ⟨hexp, hindex, hround, hsum, hle⟩ := hbusy
    have hcounted := h.countWindow l w
    unfold State.openingWindow
    dsimp only
    split
    · exact hcounted.endSlot hc ⟨hexp, hindex, hround, by simp only; omega, hle⟩ none
    · exact hcounted.nextCall hc ⟨hexp, hindex, hround, by simp only [LineState.slotsOpened, Option.map_some]; omega,
        by simp only [LineState.slotsOpened, Option.map_some]; omega⟩
    · exact hcounted.endSlot hc ⟨hexp, hindex, hround, by simp only; omega, hle⟩ none

theorem claimWindow (h : CensusLaws s) {l : Line} {x : Heard} (he : exec (.claimWindow l x) s = .next t) :
    CensusLaws t := by
  rcases exec_claimWindow he with rfl | ⟨o, ⟨ho, -⟩, hwork, rfl⟩
  · exact h
  · refine settle ?_
    generalize o.call.classify x = w
    have hopened : (s.line l).slotsOpened = 1 := by simp [LineState.slotsOpened, ho, hwork]
    have hslot : o.isSlot = true := by simp [LineOp.isSlot, hwork]
    have hspoil : CensusLaws (((s.countWindow l w).modCensus l slotSpoiled).finishSlot l none) := by
      obtain ⟨c, hc, hbusy, -⟩ := h.busyAfter ((Claimed.refl s).countWindow l w) ho hslot
      rw [hopened] at hbusy
      obtain ⟨hexp, hindex, hround, hsum, hle⟩ := hbusy
      exact (h.countWindow l w).endSlot hc ⟨hexp, hindex, hround, hsum, by simp only; omega⟩ none
    have hfind : ∀ i mem v k, ({ work := v, call := k, listening := false } : LineOp).isSlot = true →
        (∀ L : LineState, ({ L with op := some ⟨v, k, false⟩ } : LineState).slotsOpened = 1) →
        CensusLaws (((s.countWindow l w).find l i mem).1.beginOp l v k) := by
      intro i mem v k hv hone
      have hclaim := ((Claimed.refl s).countWindow l w).find l i mem
      obtain ⟨c, -, -, hop⟩ := h.busyAfter hclaim ho hslot
      refine (h.claimed hclaim).onOp hop rfl (hv.trans hslot.symm) ((hone _).trans ?_) rfl
      simp [LineState.slotsOpened, hop, hwork]
    unfold State.claimHeard
    dsimp only
    split
    · split
      · split
        · rename_i u n a lease v heq
          obtain rfl : _ = u := congrArg Prod.fst heq
          exact hfind _ _ _ _ rfl fun _ => rfl
        · rename_i u r v heq
          obtain rfl : _ = u := congrArg Prod.fst heq
          exact hfind _ _ _ _ rfl fun _ => rfl
      · exact hspoil
    · exact hspoil

theorem bindOutcome (h : CensusLaws s) {l : Line} {x : Heard} (he : exec (.bindOutcome l x) s = .next t) :
    CensusLaws t := by
  rcases exec_bindOutcome he with rfl | ⟨o, n, i, mem, v, ⟨ho, -⟩, hwork, rfl⟩
  · exact h
  · generalize o.call.classify x = w
    have hopened : (s.line l).slotsOpened = 1 := by simp [LineState.slotsOpened, ho, hwork]
    have hheard : ∀ b, ∃ c, (((((s.countWindow l w).countMismatch l (mismatch w i)).bindOutcome n b).settle).line l).census =
        some c ∧ c.Busy 1 ∧
          CensusLaws ((((s.countWindow l w).countMismatch l (mismatch w i)).bindOutcome n b).settle) := by
      intro b
      have hclaim := (((Claimed.refl s).countWindow l w).countMismatch l (mismatch w i)).bindOutcome n b
      obtain ⟨c, hc, hbusy, -⟩ := h.busyAfter hclaim ho (by simp [LineOp.isSlot, hwork])
      refine ⟨c, ?_, hopened ▸ hbusy, (h.claimed hclaim).settle⟩
      obtain ⟨_, _, _, _, _, heq, -⟩ := lineSettled_eq (((s.countWindow l w).countMismatch l (mismatch w i)).bindOutcome n b) l
      rw [State.line_settle, heq]
      exact hc
    unfold State.bindHeard
    dsimp only
    split
    · obtain ⟨c, hc, ⟨hexp, hindex, hround, hsum, hle⟩, hlaws⟩ := hheard true
      refine hlaws.endSlot hc ⟨hexp, hindex, hround.trans ?_, hsum, by simp only; omega⟩ _
      cases v <;> rfl
    · obtain ⟨c, hc, ⟨hexp, hindex, hround, hsum, hle⟩, hlaws⟩ := hheard false
      exact hlaws.endSlot hc ⟨hexp, hindex, hround, hsum, by simp only; omega⟩ _

theorem hushWindow (h : CensusLaws s) {l : Line} {x : Heard} (he : exec (.hushWindow l x) s = .next t) :
    CensusLaws t := by
  rcases exec_hushWindow he with rfl | ⟨o, i, r, v, m, ⟨ho, -⟩, hwork, rfl⟩
  · exact h
  · generalize o.call.classify x = w
    have hopened : (s.line l).slotsOpened = 1 := by simp [LineState.slotsOpened, ho, hwork]
    obtain ⟨c, hc, hbusy, -⟩ := h.busyAfter ((Claimed.refl s).countWindow l w) ho (by simp [LineOp.isSlot, hwork])
    rw [hopened] at hbusy
    obtain ⟨hexp, hindex, hround, hsum, hle⟩ := hbusy
    refine (h.countWindow l w).endSlot hc ⟨hexp, hindex, hround.trans ?_, hsum, by simp only; omega⟩ _
    cases r <;> rfl

/-- The end of an operation that was no slot operation. -/
theorem endOp (h : CensusLaws s) {l : Line} (hop : (s.line l).slotInProgress = false) : CensusLaws (s.endOp l) :=
  ⟨h.1.congr (s.endOp_params l), CensusLaw.endOp ((h.2 l).idle hop) fun m _ => h.2 m⟩

theorem no_slot_of_claimed {l : Line} {o : LineOp} (ho : (s.line l).op = some o) (hslot : o.isSlot = false)
    (k : Claimed s t) : (t.line l).slotInProgress = false := by
  obtain ⟨_, _, _, _, _, heq, -⟩ := k.line l
  rw [heq]
  simpa [LineState.slotInProgress, ho] using hslot

theorem pollWindow (h : CensusLaws s) {l : Line} {x : Heard} (he : exec (.pollWindow l x) s = .next t) :
    CensusLaws t := by
  rcases exec_pollWindow he with rfl | ⟨o, n, i, ⟨ho, -⟩, hwork, rfl⟩
  · exact h
  · have hclaim := (Claimed.refl s).pollHeard l n i o.call.address (o.call.classify x)
    exact ((h.claimed hclaim).endOp (no_slot_of_claimed ho (by simp [LineOp.isSlot, hwork]) hclaim)).settle

/-- An attempt judged, the claims settled and the operation ended. -/
theorem endAttempt (h : CensusLaws s) {l : Line} {o : LineOp} (ho : (s.line l).op = some o)
    (hwork : o.work = .attempt) (k : Calm s t) : CensusLaws (t.settle.endOp l) := by
  have hsame : ∀ m, (t.line m).census = (s.line m).census ∧ (t.line m).op = (s.line m).op := fun m => by
    obtain ⟨_, _, _, _, _, heq⟩ := k.line m
    rw [heq]
    exact ⟨rfl, rfl⟩
  have ht : CensusLaws t := h.of_same k.params (fun m => (hsame m).1) fun m => (hsame m).2
  refine ht.settle.endOp ?_
  obtain ⟨_, _, _, _, _, heq, -⟩ := lineSettled_eq t l
  rw [State.line_settle, heq]
  simp [LineState.slotInProgress, (hsame l).2, ho, LineOp.isSlot, hwork]

theorem attemptWindow (h : CensusLaws s) {l : Line} {x : Heard} (he : exec (.attemptWindow l x) s = .next t) :
    CensusLaws t := by
  rcases exec_attemptWindow he with rfl | ⟨o, ⟨ho, -⟩, hwork, -, rfl⟩
  · exact h
  · exact h.endAttempt ho hwork (.attemptHeard s l _)

theorem releaseWindow (h : CensusLaws s) {l : Line} {x : Heard} (he : exec (.releaseWindow l x) s = .next t) :
    CensusLaws t := by
  rcases exec_releaseWindow he with rfl | ⟨o, ⟨ho, -⟩, hwork, -, rfl⟩
  · exact h
  · exact h.endAttempt ho hwork (.releaseHeard s l _)

theorem inner {c : Instr} (h : CensusLaws s) (hc : Instr.inner c = true) (he : exec c s = .next t) : CensusLaws t := by
  cases c with
  | settlingExpiry l => exact h.settlingExpiry he
  | overcurrentTrip l => exact h.overcurrentTrip he
  | lineGrant l => exact h.lineGrant he
  | callSent l => exact h.callSent he
  | slotWindow l x => exact h.slotWindow he
  | claimWindow l x => exact h.claimWindow he
  | bindOutcome l x => exact h.bindOutcome he
  | hushWindow l x => exact h.hushWindow he
  | pollWindow l x => exact h.pollWindow he
  | pollDue l => exact h.pollDue he
  | attemptWindow l x => exact h.attemptWindow he
  | releaseWindow l x => exact h.releaseWindow he
  | quarantineExpiry l => exact h.quarantineExpiry he
  | hushExpiry => exact h.hushExpiry he
  | _ => exact nomatch hc

/-- A reset line holds no census (R55). -/
theorem of_reset {u : State} (hp : ParamLaw u) (hl : ∀ l, u.line l = .reset) : CensusLaws u :=
  ⟨hp, fun l => .of_idle (by rw [hl]; rfl) (by rw [hl]; exact fun c hc => nomatch hc)⟩

theorem setParam (h : CensusLaws s) (tag : Tag) {id v : Nat} (hnone : s.paramRefusal id v = none) :
    CensusLaws (s.setParam tag id v) := by
  have hstored : CensusLaws (s.stored tag id v) :=
    ⟨h.1.stored hnone, fun l => (h.2 l).congr (by cases l <;> rfl) (by cases l <;> rfl)⟩
  rw [State.setParam_eq]
  split
  · exact (hstored.claimed ((Claimed.refl _).limitSweep v)).settle
  · exact hstored

theorem coreLaw : CoreLaw CensusLaws where
  same h hs := h.of_same hs.params (fun l => by rw [hs.line]) fun l => by rw [hs.line]
  serveReset h tag := .of_reset (.of_default rfl h.1.hostRate) fun l => by cases l <;> rfl
  powerOn := .of_reset (.of_default (n := 2) rfl (by decide)) fun l => by cases l <;> rfl
  setParam h tag _ _ hnone := h.setParam tag hnone
  cancel h q _ _ := (h.haltRequest .cancel q).settle
  stop h tag _ _ _ := h.admitStop tag
  census h tag l policy _ _ _ _ _ hadm := h.withCensus tag l policy hadm
  txn h tag w i _ _ _ _ _ := h.admitTxn tag w.kind i w
  forget h tag e _ _ _ := h.admitForget tag e
  power h tag l d _ _ := (h.take _).actPower l d tag
  inner h hc he := h.inner hc he

end CensusLaws

end Sys2Proof.Machine

open Sys2Proof.Machine Sys2Proof.Statements

/-- Settles O59: a slot is counted once, in its opening window, and its spoiling or bind while its operation still runs. -/
theorem everyStepKeepsCensusCounters : Obligations.EveryStepKeepsCensusCounters := by
  intro s t ⟨hparams, hcensus⟩ hstep
  obtain ⟨hparams', hcensus'⟩ :=
    CensusLaws.coreLaw.keptByEveryStep s t ⟨hparams, onBothLines_iff.mp hcensus⟩ hstep
  exact ⟨hparams', onBothLines_iff.mpr hcensus'⟩

end

section
/-! The queues of the lines (R107, R110, R112), kept by every step. -/

namespace Sys2Proof.Machine

open Sys2Proof.Statements

/-! ## The law of one queue -/

/-- A queue in which only the head runs, `flying` telling whether an attempt holds the line. -/
def QueueOk (queue : List Txn) (flying : Bool) : Prop :=
  queue.length ≤ 16 ∧ (∀ r ∈ queue.tail, r.attempts = 0 ∧ r.inFlight = false) ∧
    ∀ r ∈ queue, r.attempts ≤ 8 ∧ (r.inFlight = false → r.attempts ≤ 7) ∧ (r.inFlight = true → flying = true)

/-- No record is in flight. -/
def Landed (queue : List Txn) : Prop := ∀ r ∈ queue, r.inFlight = false

theorem queueLaw_iff {s : State} {l : Line} : QueueLaw s l ↔ QueueOk (s.line l).queue (s.line l).attemptInFlight := Iff.rfl

theorem mem_tail_of_sublist {α : Type} {p q : List α} (h : p.Sublist q) : ∀ x ∈ p.tail, x ∈ q.tail :=
  fun _ hx => h.tail.subset hx

namespace QueueOk

variable {p q : List Txn} {b : Bool}

theorem sublist (h : QueueOk q b) (hs : p.Sublist q) : QueueOk p b := by
  obtain ⟨hlen, htail, hall⟩ := h
  exact ⟨hs.length_le.trans hlen, fun r hr => htail r (mem_tail_of_sublist hs r hr), fun r hr => hall r (hs.subset hr)⟩

theorem landed (h : QueueOk q false) : Landed q := fun r hr => by
  obtain ⟨-, -, hfly⟩ := h.2.2 r hr
  by_contra hin
  exact Bool.false_ne_true (hfly (by simpa using hin))

theorem of_landed (h : QueueOk q b) (hl : Landed q) (b' : Bool) : QueueOk q b' := by
  obtain ⟨hlen, htail, hall⟩ := h
  refine ⟨hlen, htail, fun r hr => ?_⟩
  obtain ⟨height, hseven, -⟩ := hall r hr
  exact ⟨height, hseven, fun hin => absurd hin (by simp [hl r hr])⟩

/-- Marks on records do not count. -/
theorem map (h : QueueOk q b) {f : Txn → Txn} (hf : ∀ r, (f r).attempts = r.attempts ∧ (f r).inFlight = r.inFlight) :
    QueueOk (q.map f) b := by
  obtain ⟨hlen, htail, hall⟩ := h
  refine ⟨by rwa [List.length_map], fun r hr => ?_, fun r hr => ?_⟩
  · rw [← List.map_tail] at hr
    obtain ⟨x, hx, rfl⟩ := List.mem_map.mp hr
    rw [(hf x).1, (hf x).2]
    exact htail x hx
  · obtain ⟨x, hx, rfl⟩ := List.mem_map.mp hr
    rw [(hf x).1, (hf x).2]
    exact hall x hx

/-- A fresh record joins the tail. -/
theorem append (h : QueueOk q b) {r : Txn} (hlen : q.length < 16) (ha : r.attempts = 0) (hf : r.inFlight = false) :
    QueueOk (q ++ [r]) b := by
  obtain ⟨-, htail, hall⟩ := h
  refine ⟨by rw [List.length_append, List.length_singleton]; exact hlen, fun x hx => ?_, fun x hx => ?_⟩
  · cases q with
    | nil => exact nomatch hx
    | cons y ys =>
      rcases List.mem_append.mp (show x ∈ ys ++ [r] from hx) with h | h
      · exact htail x h
      · rw [List.mem_singleton.mp h]; exact ⟨ha, hf⟩
  · rcases List.mem_append.mp hx with h | h
    · exact hall x h
    · rw [List.mem_singleton.mp h, ha, hf]
      exact ⟨by omega, fun _ => by omega, fun h => nomatch h⟩

/-- The head is replaced by itself, run on or between attempts. -/
theorem head {r x : Txn} (h : QueueOk (r :: q) b) (b' : Bool) (height : x.attempts ≤ 8)
    (hseven : x.inFlight = false → x.attempts ≤ 7) (hfly : x.inFlight = true → b' = true) : QueueOk (x :: q) b' := by
  obtain ⟨hlen, htail, hall⟩ := h
  refine ⟨hlen, htail, fun y hy => ?_⟩
  rcases List.mem_cons.mp hy with rfl | hy
  · exact ⟨height, hseven, hfly⟩
  · obtain ⟨hzero, hin⟩ := htail y hy
    exact ⟨by omega, fun _ => by omega, fun h => absurd h (by simp [hin])⟩

theorem landed_tail {r : Txn} (h : QueueOk (r :: q) b) : Landed q := fun x hx => (h.2.1 x hx).2

end QueueOk

theorem Landed.sublist {p q : List Txn} (h : Landed q) (hs : p.Sublist q) : Landed p := fun r hr => h r (hs.subset hr)

/-! ## The law as a law of the core -/

/-- The law of O56, both lines at once. -/
def QueueLaws (s : State) : Prop := ParamLaw s ∧ ∀ l, QueueOk (s.line l).queue (s.line l).attemptInFlight

namespace QueueLaws

variable {s t : State}

theorem of_lines (h : QueueLaws s) (hp : t.params = s.params)
    (hl : ∀ l, (t.line l).queue.Sublist (s.line l).queue ∧ (t.line l).op = (s.line l).op) : QueueLaws t := by
  refine ⟨h.1.congr hp, fun l => ?_⟩
  obtain ⟨hqueue, hop⟩ := hl l
  rw [LineState.attemptInFlight, hop]
  exact (h.2 l).sublist hqueue

theorem claimed (h : QueueLaws s) (k : Claimed s t) : QueueLaws t := by
  refine h.of_lines k.params fun l => ?_
  obtain ⟨_, _, _, _, _, heq, hq⟩ := k.line l
  rw [heq]
  exact ⟨hq, rfl⟩

theorem settle (h : QueueLaws s) : QueueLaws s.settle := by
  refine h.of_lines (by simp) fun l => ?_
  obtain ⟨_, _, _, _, _, heq, -⟩ := lineSettled_eq s l
  rw [State.line_settle, heq]
  exact ⟨.refl _, rfl⟩

/-- A claim that leaves one line's queue in order and touches the other as claims do. -/
theorem onLine (h : QueueLaws s) {l : Line} (hp : t.params = s.params)
    (hl : QueueOk (t.line l).queue (t.line l).attemptInFlight)
    (hother : ∀ m, m ≠ l → (s.line m).ClaimedTo (t.line m)) : QueueLaws t := by
  refine ⟨h.1.congr hp, fun m => ?_⟩
  by_cases hm : m = l
  · exact hm ▸ hl
  · obtain ⟨_, _, _, _, _, heq, hq⟩ := hother m hm
    rw [heq]
    exact (h.2 m).sublist hq

theorem modLine (h : QueueLaws s) (l : Line) {f : LineState → LineState}
    (hf : QueueOk (f (s.line l)).queue (f (s.line l)).attemptInFlight) : QueueLaws (s.modLine l f) := by
  refine h.onLine (l := l) (by simp) (by rwa [State.line_modLine]) fun m hm => ?_
  rw [State.line_modLine_of_ne _ hm]
  exact .refl _

/-- A change of a line that leaves its records and its operation. -/
theorem modLine_same (h : QueueLaws s) (l : Line) {f : LineState → LineState}
    (hq : (f (s.line l)).queue = (s.line l).queue) (ho : (f (s.line l)).op = (s.line l).op) :
    QueueLaws (s.modLine l f) :=
  h.modLine l (by rw [LineState.attemptInFlight, hq, ho]; exact h.2 l)

theorem setQueue (h : QueueLaws s) (l : Line) {q : List Txn} (hq : QueueOk q (s.line l).attemptInFlight) :
    QueueLaws (s.setQueue l q) := h.modLine l hq

theorem setReqState (h : QueueLaws s) (tag : Tag) (f : ReqState → ReqState) : QueueLaws (s.setReqState tag f) :=
  h.claimed ((Claimed.refl s).setReqState tag f)

theorem passTo (h : QueueLaws s) (x : Clock) : QueueLaws (s.passTo x) :=
  h.of_lines rfl fun l => by cases l <;> exact ⟨.refl _, rfl⟩

/-! ## Requests -/

theorem closeCensus (h : QueueLaws s) (l : Line) (o : CloseOutcome) : QueueLaws (s.closeCensus l o) := by
  obtain ⟨hself, hother⟩ := s.closeCensus_line l o
  refine h.onLine (l := l) (by rw [State.closeCensus_eq]; simp) (by rw [hself]; exact h.2 l) fun m hm => ?_
  rw [hother m hm]
  exact .refl _

theorem modCensus (h : QueueLaws s) (l : Line) (f : Census → Census) : QueueLaws (s.modCensus l f) :=
  h.modLine_same l rfl rfl

theorem haltCensus (h : QueueLaws s) (l : Line) (m : Halt) : QueueLaws (s.haltCensus l m) := by
  unfold State.haltCensus
  split
  · split
    · exact h
    · split
      · exact (h.modCensus l _).setReqState _ _
      · exact h.closeCensus l _
  · exact h

theorem haltTxn (h : QueueLaws s) (l : Line) (tag : Tag) (m : Halt) : QueueLaws (s.haltTxn l tag m) := by
  unfold State.haltTxn
  split
  · exact h
  · split
    · refine (h.setQueue l ((h.2 l).map fun r => ?_)).setReqState _ _
      split <;> exact ⟨rfl, rfl⟩
    · exact (h.setQueue l ((h.2 l).sublist List.filter_sublist)).claimed ((Claimed.refl _).closeTxn _ _ _ _)

theorem haltForget (h : QueueLaws s) (l : Line) (tag : Tag) (i : Ident) (m : Halt) :
    QueueLaws (s.haltForget l tag i m) := by
  unfold State.haltForget
  split
  · exact (h.setQueue l ((h.2 l).sublist List.filter_sublist)).claimed
      (((Claimed.refl _).updNamed i _).close _ _ _)
  · exact h

theorem haltRequest (h : QueueLaws s) (m : Halt) (r : Req) : QueueLaws (s.haltRequest m r) := by
  unfold State.haltRequest
  split
  · exact h.haltCensus _ m
  · exact h.haltTxn _ _ m
  · exact h.haltTxn _ _ m
  · exact h.haltForget _ _ _ m
  · exact h

theorem admitStop (h : QueueLaws s) (tag : Tag) : QueueLaws (s.admitStop tag) := by
  have hfold : ∀ (qs : List Req) {u : State}, QueueLaws u → QueueLaws (qs.foldl (fun t r => t.haltRequest .stop r) u) := by
    intro qs
    induction qs with
    | nil => exact fun hu => hu
    | cons q qs ih => exact fun hu => ih (hu.haltRequest .stop q)
  have hopen : QueueLaws { s.push tag (.taken .stop) with
      stop := some { tag := tag, openCount := s.table.length } } :=
    h.claimed ((Claimed.refl s).congr rfl rfl fun l => by cases l <;> rfl)
  exact ((hfold s.table hopen).claimed ((Claimed.refl _).settleStop)).settle

theorem take (h : QueueLaws s) (r : Req) : QueueLaws (s.take r) := h.claimed ((Claimed.refl s).take r)

theorem admitTxn (h : QueueLaws s) (tag : Tag) (k : LongKind) {i : Ident} {off len : Nat} (w : TxnWork)
    (hadm : s.txnRefusal i off len = none) : QueueLaws (s.admitTxn tag k i w) := by
  unfold State.admitTxn
  split
  · rename_i e he
    have hlen : (s.line e.line).queue.length < 16 := by
      simp only [State.txnRefusal, he] at hadm
      split at hadm
      · exact nomatch hadm
      split at hadm
      · exact nomatch hadm
      split at hadm
      · exact nomatch hadm
      split at hadm
      · exact nomatch hadm
      rename_i hroom
      simpa [Config.queueMax] using hroom
    refine ((h.take _).setQueue e.line ?_).claimed ((Claimed.refl _).updNamed _ _)
    rw [State.line_take]
    exact (h.2 e.line).append hlen rfl rfl
  · exact h

theorem length_notQueuedFor (q : List Txn) (i : Ident) :
    (notQueuedFor q i).length = q.length - (queuedFor q i).length := by
  have hsplit := List.length_eq_length_filter_add (l := q) fun r => r.target == i && r.attempts == 0
  simp only [notQueuedFor, queuedFor]
  omega

theorem admitForget (h : QueueLaws s) (tag : Tag) {e : Entry} (he : s.lookup e.identity = some e)
    (hadm : s.forgetRefusal e.identity = none) : QueueLaws (s.admitForget tag e) := by
  unfold State.admitForget
  dsimp only
  split
  · rename_i hbound
    have hlen : (notQueuedFor (s.line e.line).queue e.identity).length < 16 := by
      simp only [State.forgetRefusal, he, hbound] at hadm
      split at hadm
      · exact nomatch hadm
      split at hadm
      · exact nomatch hadm
      rename_i hroom
      rw [length_notQueuedFor]
      simpa [Config.queueMax] using hroom
    have hqueue : QueueOk (notQueuedFor (s.line e.line).queue e.identity) (s.line e.line).attemptInFlight :=
      (h.2 e.line).sublist List.filter_sublist
    refine (((h.take _).claimed ((Claimed.refl _).updNamed _ _)).setQueue e.line ?_).claimed ((Claimed.refl _).closeTxns _ _)
    rw [State.line_updNamed, State.line_take]
    exact hqueue.append hlen rfl rfl
  · exact (h.take _).claimed (((Claimed.refl _).removeEntry e).closeForget _ _ _)

/-! ## The supervisor -/

theorem closePower (h : QueueLaws s) (l : Line) (o : CloseOutcome) (p : LinePower) (n : Nat) :
    QueueLaws (s.closePower l o p n) := by
  obtain ⟨hparams, -, -, -, hself, hother⟩ := s.closePower_frame l o p n
  refine h.onLine (l := l) hparams (by rw [hself]; exact h.2 l) fun m hm => ?_
  rw [hother m hm]
  exact .refl _

theorem empty (b : Bool) : QueueOk [] b := ⟨by simp, by simp, by simp⟩

theorem goOff (h : QueueLaws s) (l : Line) : QueueLaws (s.goOff l) := by
  obtain ⟨hparams, -, hwent, hother⟩ := s.goOff_frame l
  exact h.onLine (l := l) hparams (by rw [hwent.queue]; exact empty _) hother

theorem actPower (h : QueueLaws s) (l : Line) (d : Direction) (tag : Tag) : QueueLaws (s.actPower l d tag) := by
  unfold State.actPower
  split
  · exact h.modLine_same l rfl rfl
  · exact h.modLine_same l rfl rfl
  · exact h.claimed ((Claimed.refl s).close _ _ _)
  · exact h.claimed ((Claimed.refl s).close _ _ _)
  · exact h.claimed ((Claimed.refl s).close _ _ _)
  · dsimp only
    split
    · exact h.modLine_same l rfl rfl
    · exact goOff (h.modLine_same l rfl rfl) l
  · exact (closePower (s := s.unpower l .off) (h.modLine_same l rfl rfl) l _ _ _).claimed
      ((Claimed.refl _).close _ _ _)
  · exact h.modLine_same l rfl rfl

theorem settlingExpiry (h : QueueLaws s) {l : Line} (he : exec (.settlingExpiry l) s = .next t) : QueueLaws t := by
  rcases exec_settlingExpiry he with rfl | ⟨x, -, -, rfl⟩
  · exact h
  · refine closePower ?_ l _ _ _
    rw [State.startCycle]
    exact modLine_same (modLine_same (h.passTo x) l rfl rfl) l rfl rfl

theorem overcurrentTrip (h : QueueLaws s) {l : Line} (he : exec (.overcurrentTrip l) s = .next t) : QueueLaws t := by
  rcases exec_overcurrentTrip he with rfl | ⟨-, rfl⟩ | ⟨-, rfl⟩
  · exact h
  · have hdown : QueueLaws ((s.unpower l .fault).lineDown l) := by
      obtain ⟨hparams, -, hswept, hother⟩ := (s.unpower l .fault).lineDown_frame l
      exact onLine (s := s.unpower l .fault) (h.modLine_same l rfl rfl) hparams
        (by rw [hswept.queue]; exact empty _) hother
    have htold := hdown.claimed ((Claimed.refl _).pushEvent 0 (.lineFault l s.clock (s.boundEntries l).length))
    unfold State.tripUp
    dsimp only
    split
    · exact htold.closePower l _ _ _
    · exact htold
  · exact closePower (s := s.unpower l .fault) (h.modLine_same l rfl rfl) l _ _ _

/-! ## Timers -/

theorem pollDue (h : QueueLaws s) {l : Line} (he : exec (.pollDue l) s = .next t) : QueueLaws t := by
  rcases exec_pollDue he with rfl | ⟨c, -, ⟨-, rfl⟩ | ⟨-, rfl⟩⟩
  · exact h
  · exact (h.passTo _).modLine_same l rfl rfl
  · rw [State.startCycle]
    exact (h.passTo _).modLine_same l rfl rfl

theorem quarantineExpiry (h : QueueLaws s) {l : Line} (he : exec (.quarantineExpiry l) s = .next t) : QueueLaws t := by
  rcases exec_quarantineExpiry he with rfl | ⟨x, rfl⟩
  · exact h
  · exact (h.passTo x).claimed ((Claimed.refl _).expireDue l)

theorem hushExpiry (h : QueueLaws s) (he : exec .hushExpiry s = .next t) : QueueLaws t := by
  rcases exec_hushExpiry he with rfl | ⟨x, rfl⟩
  · exact h
  · exact (h.passTo x).of_lines rfl fun l => by cases l <;> exact ⟨.refl _, rfl⟩

/-! ## Grants and calls -/

/-- On a line with no attempt in flight no record is (R110). -/
theorem landed (h : QueueLaws s) {l : Line} (hop : (s.line l).attemptInFlight = false) : Landed (s.line l).queue :=
  QueueOk.landed (hop ▸ h.2 l)

/-- An operation begins on a line that has no attempt in flight. -/
theorem beginOp (h : QueueLaws s) {l : Line} (hop : (s.line l).attemptInFlight = false) (w : OpWork) (c : Call) :
    QueueLaws (s.beginOp l w c) :=
  h.modLine l ((h.2 l).of_landed (h.landed hop) _)

theorem attemptBegun (h : QueueLaws s) {l : Line} {r : Txn} {rest : List Txn} (hop : (s.line l).op = none)
    (hq : (s.line l).queue = r :: rest) (a : Address) : QueueLaws (attemptBegun s l r rest a) := by
  have hfree : (s.line l).attemptInFlight = false := by simp [LineState.attemptInFlight, hop]
  have hqueue := hq ▸ h.2 l
  have hseven : r.attempts ≤ 7 :=
    (hqueue.2.2 r List.mem_cons_self).2.1 (h.landed hfree r (hq ▸ List.mem_cons_self))
  refine setReqState (h.onLine (l := l) (by simp [State.beginOp, State.setQueue]) ?_ fun m hm => ?_) _ _
  · rw [State.beginOp, State.line_modLine, State.setQueue, State.line_modLine]
    exact hqueue.head _ (by simp only; omega) (fun h => nomatch h) fun _ => rfl
  · rw [State.beginOp, State.line_modLine_of_ne _ hm, State.setQueue, State.line_modLine_of_ne _ hm]
    exact .refl _

theorem slotBegun (h : QueueLaws s) {l : Line} (hop : (s.line l).attemptInFlight = false) (c : Census) :
    QueueLaws (slotBegun s l c) := by
  unfold Machine.slotBegun
  split
  · refine setReqState (h.onLine (l := l) (by simp) ?_ fun m hm => ?_) _ _
    · rw [State.line_setLine]
      exact (h.2 l).of_landed (h.landed hop) _
    · rw [State.line_setLine_of_ne _ hm]; exact .refl _
  · exact (h.beginOp hop _ _).setReqState _ _

theorem lineGrant (h : QueueLaws s) {l : Line} (he : exec (.lineGrant l) s = .next t) : QueueLaws t := by
  rcases exec_lineGrant he with rfl | ⟨c, u, -, -, hop, -, hu, rfl⟩
  · exact h
  · have hfree : (s.line l).attemptInFlight = false := by simp [LineState.attemptInFlight, hop]
    refine modLine_same ?_ l rfl rfl
    cases c with
    | executor =>
      obtain ⟨r, rest, e, a, hq, -, -, rfl⟩ := beginAttempt_cases hu
      exact h.attemptBegun hop hq a
    | scheduler =>
      obtain ⟨c, n, rest, e, a, -, -, -, -, rfl⟩ := beginPoll_cases hu
      exact beginOp (h.modLine_same l rfl rfl) (by simpa [LineState.attemptInFlight] using hfree) _ _
    | sequencer =>
      obtain ⟨c, -, rfl⟩ := beginSlot_cases hu
      exact h.slotBegun hfree c

theorem callSent (h : QueueLaws s) {l : Line} (he : exec (.callSent l) s = .next t) : QueueLaws t := by
  rcases callSent_frame he with rfl | ⟨o, p, hs, q, k, ho, hp, rfl, -⟩
  · exact h
  · refine h.onLine (l := l) (by simp) ?_ fun m hm => ?_
    · have hflying : ({ s.line l with op := some p } : LineState).attemptInFlight = (s.line l).attemptInFlight := by
        simp only [LineState.attemptInFlight, ho, Option.any_some, hp.kinds.2.1]
      rw [State.line_setLine]
      exact hflying.symm ▸ h.2 l
    · rw [State.line_setLine_of_ne _ hm, State.line_with_hush]
      exact .refl _

/-! ## Windows -/

theorem notFlying {l : Line} {o : LineOp} (ho : (s.line l).op = some o) (hw : o.isAttempt = false) :
    (s.line l).attemptInFlight = false := by simpa [LineState.attemptInFlight, ho] using hw

theorem notFlying_of_claimed {l : Line} (hop : (s.line l).attemptInFlight = false) (k : Claimed s t) :
    (t.line l).attemptInFlight = false := by
  obtain ⟨_, _, _, _, _, heq, -⟩ := k.line l
  rw [heq]
  exact hop

/-- A line operation ends that has no record in flight. -/
theorem endOp (h : QueueLaws s) {l : Line} (hl : Landed (s.line l).queue) : QueueLaws (s.endOp l) := by
  obtain ⟨hparams, -, hself, hother⟩ := s.endOp_frame l
  refine h.onLine (l := l) hparams ?_ hother
  rcases hself with ⟨-, heq⟩ | ⟨-, hwent⟩
  · rw [heq, State.line_setLine]
    exact (h.2 l).of_landed hl _
  · rw [hwent.queue]
    exact empty _

/-- A slot operation ends: what the census takes is nothing to the queue (R61). -/
theorem finishSlot (h : QueueLaws s) {l : Line} (hop : (s.line l).attemptInFlight = false)
    (event : Option (Nat → Nat → Event)) : QueueLaws (s.finishSlot l event) := by
  obtain ⟨honly, c, hc⟩ := CensusOnly.slotEnd s l event
  refine endOp (h.onLine (l := l) honly.params ?_ fun m hm => ?_) ?_
  · rw [hc]; exact h.2 l
  · rw [honly.other m hm]; exact .refl _
  · rw [hc]; exact h.landed hop

/-- The operation in progress on a line, and no attempt, when claims have been taken. -/
theorem afterClaim (h : QueueLaws s) (k : Claimed s t) {l : Line} {o : LineOp} (ho : (s.line l).op = some o)
    (hw : o.isAttempt = false) : QueueLaws t ∧ (t.line l).attemptInFlight = false :=
  ⟨h.claimed k, notFlying_of_claimed (notFlying ho hw) k⟩

theorem endSlot (h : QueueLaws s) {l : Line} (hop : (s.line l).attemptInFlight = false) (f : Census → Census)
    (event : Option (Nat → Nat → Event)) : QueueLaws ((s.modCensus l f).finishSlot l event) :=
  (h.modCensus l f).finishSlot (by rw [State.modCensus, State.line_modLine]; exact hop) event

theorem slotWindow (h : QueueLaws s) {l : Line} {x : Heard} (he : exec (.slotWindow l x) s = .next t) :
    QueueLaws t := by
  rcases exec_slotWindow he with rfl | ⟨o, ⟨ho, -⟩, hwork, rfl⟩
  · exact h
  · generalize o.call.classify x = w
    obtain ⟨hcounted, hfree⟩ := h.afterClaim ((Claimed.refl s).countWindow l w) ho (by simp [LineOp.isAttempt, hwork])
    unfold State.openingWindow
    dsimp only
    split
    · exact hcounted.endSlot hfree _ _
    · exact (hcounted.modCensus l _).beginOp (by rw [State.modCensus, State.line_modLine]; exact hfree) _ _
    · exact hcounted.endSlot hfree _ _

theorem claimWindow (h : QueueLaws s) {l : Line} {x : Heard} (he : exec (.claimWindow l x) s = .next t) :
    QueueLaws t := by
  rcases exec_claimWindow he with rfl | ⟨o, ⟨ho, -⟩, hwork, rfl⟩
  · exact h
  · refine settle ?_
    generalize o.call.classify x = w
    have hw : o.isAttempt = false := by simp [LineOp.isAttempt, hwork]
    have hspoil : QueueLaws (((s.countWindow l w).modCensus l slotSpoiled).finishSlot l none) := by
      obtain ⟨hcounted, hfree⟩ := h.afterClaim ((Claimed.refl s).countWindow l w) ho hw
      exact hcounted.endSlot hfree _ _
    have hfind : ∀ i mem v k, QueueLaws (((s.countWindow l w).find l i mem).1.beginOp l v k) := fun i mem v k => by
      obtain ⟨hfound, hfree⟩ := h.afterClaim (((Claimed.refl s).countWindow l w).find l i mem) ho hw
      exact hfound.beginOp hfree v k
    unfold State.claimHeard
    dsimp only
    split
    · split
      · split
        · rename_i u n a lease v heq
          obtain rfl : _ = u := congrArg Prod.fst heq
          exact hfind _ _ _ _
        · rename_i u r v heq
          obtain rfl : _ = u := congrArg Prod.fst heq
          exact hfind _ _ _ _
      · exact hspoil
    · exact hspoil

theorem notFlying_settle {l : Line} (hop : (s.line l).attemptInFlight = false) :
    (s.settle.line l).attemptInFlight = false := by
  obtain ⟨_, _, _, _, _, heq, -⟩ := lineSettled_eq s l
  rw [State.line_settle, heq]
  exact hop

theorem bindOutcome (h : QueueLaws s) {l : Line} {x : Heard} (he : exec (.bindOutcome l x) s = .next t) :
    QueueLaws t := by
  rcases exec_bindOutcome he with rfl | ⟨o, n, i, mem, v, ⟨ho, -⟩, hwork, rfl⟩
  · exact h
  · generalize o.call.classify x = w
    have hheard := fun b => h.afterClaim
      ((((Claimed.refl s).countWindow l w).countMismatch l (mismatch w i)).bindOutcome n b) ho
      (by simp [LineOp.isAttempt, hwork])
    unfold State.bindHeard
    dsimp only
    split
    · exact (hheard true).1.settle.endSlot (notFlying_settle (hheard true).2) _ _
    · exact (hheard false).1.settle.endSlot (notFlying_settle (hheard false).2) _ _

theorem hushWindow (h : QueueLaws s) {l : Line} {x : Heard} (he : exec (.hushWindow l x) s = .next t) :
    QueueLaws t := by
  rcases exec_hushWindow he with rfl | ⟨o, i, r, v, m, ⟨ho, -⟩, hwork, rfl⟩
  · exact h
  · obtain ⟨hcounted, hfree⟩ := h.afterClaim ((Claimed.refl s).countWindow l (o.call.classify x)) ho
      (by simp [LineOp.isAttempt, hwork])
    exact hcounted.endSlot hfree _ _

theorem pollWindow (h : QueueLaws s) {l : Line} {x : Heard} (he : exec (.pollWindow l x) s = .next t) :
    QueueLaws t := by
  rcases exec_pollWindow he with rfl | ⟨o, n, i, ⟨ho, -⟩, hwork, rfl⟩
  · exact h
  · obtain ⟨hheard, hfree⟩ := h.afterClaim ((Claimed.refl s).pollHeard l n i o.call.address (o.call.classify x)) ho
      (by simp [LineOp.isAttempt, hwork])
    exact (hheard.endOp (hheard.landed hfree)).settle

/-! ## Attempts -/

/-- The law with no record of the line in flight. -/
def QueueLanded (s : State) (l : Line) : Prop := QueueLaws s ∧ Landed (s.line l).queue

theorem landed_claimed {l : Line} (h : QueueLanded s l) (k : Claimed s t) : QueueLanded t l := by
  obtain ⟨hlaws, hl⟩ := h
  obtain ⟨_, _, _, _, _, heq, hq⟩ := k.line l
  refine ⟨hlaws.claimed k, ?_⟩
  rw [heq]
  exact hl.sublist hq

/-- The head put back between attempts, or taken out. -/
theorem landed_setQueue (h : QueueLaws s) {l : Line} {r : Txn} {rest : List Txn} (hq : (s.line l).queue = r :: rest)
    (hr : r.attempts ≤ 7) (n : Nat) : QueueLanded (s.setQueue l (r.ended n :: rest)) l := by
  have hqueue := hq ▸ h.2 l
  refine ⟨h.setQueue l (hqueue.head _ (by simp only; omega) (fun _ => hr) fun hf => nomatch hf), ?_⟩
  rw [State.setQueue, State.line_modLine]
  intro x hx
  rcases List.mem_cons.mp hx with rfl | hx
  · rfl
  · exact hqueue.landed_tail x hx

theorem landed_dropHead (h : QueueLaws s) {l : Line} {r : Txn} {rest : List Txn} (hq : (s.line l).queue = r :: rest) :
    QueueLanded (s.setQueue l rest) l := by
  have hqueue := hq ▸ h.2 l
  refine ⟨h.setQueue l (hqueue.sublist (List.sublist_cons_self r rest)), ?_⟩
  rw [State.setQueue, State.line_modLine]
  exact hqueue.landed_tail

theorem retryLimit_le (h : QueueLaws s) : s.params.retryLimit ≤ 7 := (h.1.1 6 (by decide) _ rfl _ rfl).2

/-- The head of a queue that is not in flight leaves no record in flight. -/
theorem landed_of_head (h : QueueLaws s) {l : Line}
    (hhead : ∀ r rest, (s.line l).queue = r :: rest → r.inFlight = false) : QueueLanded s l := by
  refine ⟨h, fun r hr => ?_⟩
  cases hq : (s.line l).queue with
  | nil => rw [hq] at hr; exact nomatch hr
  | cons x xs =>
    have hqueue := hq ▸ h.2 l
    rw [hq] at hr
    rcases List.mem_cons.mp hr with rfl | hr
    · exact hhead r xs hq
    · exact hqueue.landed_tail r hr

theorem attemptHeard (h : QueueLaws s) (l : Line) (w : WindowClass) : QueueLanded (s.attemptHeard l w) l := by
  have hcounted := h.claimed ((Claimed.refl s).countWindow l w)
  have hqueue : ((s.countWindow l w).line l).queue = (s.line l).queue := by rw [State.countWindow_eq]; simp
  rcases attemptHeard_cases s l w with ⟨heq, hhead⟩ | ⟨r, rest, hq, -, heq⟩ <;> rw [heq]
  · exact hcounted.landed_of_head (hqueue.symm ▸ hhead)
  · obtain ⟨v, n, hv, ⟨hres, hretry⟩ | ⟨o, bs, c, hres⟩ | hres⟩ :=
      attemptJudged_cases (s.countWindow l w) l r rest w <;> rw [hres]
    all_goals
      have hclaim : Claimed (s.countWindow l w) v := hv.claimed
      have hvlaws := hcounted.claimed hclaim
      have hvq : (v.line l).queue = r :: rest := by
        obtain ⟨⟨k, hk⟩, -⟩ := hv.line
        rw [hk, ← hq, ← hqueue]
    · exact hvlaws.landed_setQueue hvq (hretry.trans hvlaws.retryLimit_le) n
    · exact landed_claimed (hvlaws.landed_dropHead hvq) ((Claimed.refl _).closeTxn _ _ _ _)
    · exact landed_claimed (hvlaws.landed_dropHead hvq) (((Claimed.refl _).closeTxn _ _ _ _).missNamed _ _)

theorem releaseHeard (h : QueueLaws s) (l : Line) (w : WindowClass) : QueueLanded (s.releaseHeard l w) l := by
  have hcounted := h.claimed ((Claimed.refl s).countWindow l w)
  have hqueue : ((s.countWindow l w).line l).queue = (s.line l).queue := by rw [State.countWindow_eq]; simp
  rcases releaseHeard_cases s l w with ⟨heq, hhead⟩ | ⟨r, rest, hq, -, heq⟩ <;> rw [heq]
  · exact hcounted.landed_of_head (hqueue.symm ▸ hhead)
  · have hvlaws := hcounted.claimed ((Claimed.refl _).countMismatch l (mismatch w r.target))
    have hvq : (((s.countWindow l w).countMismatch l (mismatch w r.target)).line l).queue = r :: rest := by
      rw [State.countMismatch_eq, State.line_setLine, ← hq, ← hqueue]
    obtain ⟨hres, hretry⟩ | ⟨b, hres⟩ := releaseJudged_cases (s.countWindow l w) l r rest w <;> rw [hres]
    · exact hvlaws.landed_setQueue hvq (hretry.trans hvlaws.retryLimit_le) _
    · exact landed_claimed (hvlaws.landed_dropHead hvq) ((Claimed.refl _).removal _ _ _)

theorem endAttempt {l : Line} (h : QueueLanded t l) : QueueLaws (t.settle.endOp l) := by
  refine endOp h.1.settle ?_
  obtain ⟨_, _, _, _, _, heq, -⟩ := lineSettled_eq t l
  rw [State.line_settle, heq]
  exact h.2

theorem attemptWindow (h : QueueLaws s) {l : Line} {x : Heard} (he : exec (.attemptWindow l x) s = .next t) :
    QueueLaws t := by
  rcases exec_attemptWindow he with rfl | ⟨o, -, -, -, rfl⟩
  · exact h
  · exact endAttempt (h.attemptHeard l _)

theorem releaseWindow (h : QueueLaws s) {l : Line} {x : Heard} (he : exec (.releaseWindow l x) s = .next t) :
    QueueLaws t := by
  rcases exec_releaseWindow he with rfl | ⟨o, -, -, -, rfl⟩
  · exact h
  · exact endAttempt (h.releaseHeard l _)

theorem inner {c : Instr} (h : QueueLaws s) (hc : Instr.inner c = true) (he : exec c s = .next t) : QueueLaws t := by
  cases c with
  | settlingExpiry l => exact h.settlingExpiry he
  | overcurrentTrip l => exact h.overcurrentTrip he
  | lineGrant l => exact h.lineGrant he
  | callSent l => exact h.callSent he
  | slotWindow l x => exact h.slotWindow he
  | claimWindow l x => exact h.claimWindow he
  | bindOutcome l x => exact h.bindOutcome he
  | hushWindow l x => exact h.hushWindow he
  | pollWindow l x => exact h.pollWindow he
  | pollDue l => exact h.pollDue he
  | attemptWindow l x => exact h.attemptWindow he
  | releaseWindow l x => exact h.releaseWindow he
  | quarantineExpiry l => exact h.quarantineExpiry he
  | hushExpiry => exact h.hushExpiry he
  | _ => exact nomatch hc

/-- A reset queue is empty. -/
theorem of_reset {u : State} (hp : ParamLaw u) (hl : ∀ l, u.line l = .reset) : QueueLaws u :=
  ⟨hp, fun l => by rw [hl]; exact empty _⟩

theorem setParam (h : QueueLaws s) (tag : Tag) {id v : Nat} (hnone : s.paramRefusal id v = none) :
    QueueLaws (s.setParam tag id v) := by
  have hstored : QueueLaws (s.stored tag id v) := ⟨h.1.stored hnone, fun l => by cases l; exacts [h.2 .A, h.2 .B]⟩
  rw [State.setParam_eq]
  split
  · exact (hstored.claimed ((Claimed.refl _).limitSweep v)).settle
  · exact hstored

theorem coreLaw : CoreLaw QueueLaws where
  same h hs := h.of_lines hs.params fun l => by rw [hs.line]; exact ⟨.refl _, rfl⟩
  serveReset h tag := .of_reset (.of_default rfl h.1.hostRate) fun l => by cases l <;> rfl
  powerOn := .of_reset (.of_default (n := 2) rfl (by decide)) fun l => by cases l <;> rfl
  setParam h tag _ _ hnone := h.setParam tag hnone
  cancel h q _ _ := (h.haltRequest .cancel q).settle
  stop h tag _ _ _ := h.admitStop tag
  census h tag l _ _ _ _ _ _ _ := (h.take _).modLine_same l rfl rfl
  txn h tag w _ _ _ _ _ hadm := h.admitTxn tag w.kind w hadm
  forget h tag _ _ he hadm := h.admitForget tag he hadm
  power h tag l d _ _ := (h.take _).actPower l d tag
  inner h hc he := h.inner hc he

end QueueLaws

end Sys2Proof.Machine

open Sys2Proof.Machine Sys2Proof.Statements

/-- Settles O56: only a grant sets a record running, at the head of a line that is free, and the end of an attempt lands
it. -/
theorem everyStepKeepsQueuesLegal : Obligations.EveryStepKeepsQueuesLegal := by
  intro s t ⟨hparams, hqueues⟩ hstep
  obtain ⟨hparams', hqueues'⟩ := QueueLaws.coreLaw.keptByEveryStep s t ⟨hparams, onBothLines_iff.mp hqueues⟩ hstep
  exact ⟨hparams', onBothLines_iff.mpr hqueues'⟩

end

section
/-! Laws that look at parameters, roster, pools and quarantine: the claims that touch these, and one induction over commands
for every such law. -/

namespace Sys2Proof.Machine

open Sys2Proof.Statements

/-- Two states with the same parameters, roster and addresses. -/
structure BookSame (s t : State) : Prop where
  params : t.params = s.params
  roster : t.roster = s.roster
  nextSerial : t.nextSerial = s.nextSerial
  pool : ∀ l, (t.line l).pool = (s.line l).pool
  quarantine : ∀ l, (t.line l).quarantine = (s.line l).quarantine

/-- What the records of an entry leave of it: its pending count falls or, BOUND, rises; it forgets to be forgotten or,
BOUND, is forgotten (R33, R36). -/
def Recorded (x y : Entry) : Prop :=
  ∃ n o, y = { x with pendingTx := n, forgetting := o } ∧
    (x.standing.isBound = true ∨ n ≤ x.pendingTx ∧ (o = x.forgetting ∨ o = none))

/-- A BOUND entry that has been heard from, or missed below the limit (R28). -/
def Heeded (limit : Nat) (x y : Entry) : Prop :=
  x.standing.isBound = true ∧ ∃ m a c, y = { x with misses := m, attention := a, lastSeen := c } ∧
    (m = 0 ∨ m < limit ∨ m = x.misses)

/-- A law of parameters, roster and addresses that every claim on them keeps, finds aside. -/
structure BookClaims (P : State → Prop) : Prop where
  same : ∀ {s t}, P s → BookSame s t → P t
  recorded : ∀ {s}, P s → ∀ g : Entry → Entry, (∀ x ∈ s.roster, Recorded x (g x)) →
    P { s with roster := s.roster.map g }
  heeded : ∀ {s}, P s → ∀ n (f : Entry → Entry),
    (∀ x ∈ s.roster, x.serial = n → f x = x ∨ Heeded s.params.missLimit x (f x)) → P (s.updEntry n f)
  countOut : ∀ {s}, P s → ∀ e ∈ s.roster, P (s.countOut e)
  removal : ∀ {s}, P s → ∀ i tag b, P (s.removal i tag b)
  removeEntry : ∀ {s}, P s → ∀ e ∈ s.roster, e.standing.isBound = false → P (s.removeEntry e)
  lineDown : ∀ {s}, P s → ∀ l, P (s.lineDown l)
  expireDue : ∀ {s}, P s → ∀ l, P (s.expireDue l)
  extend : ∀ {s}, P s → ∀ l q, (q.map QuarantineRec.place).Perm ((s.line l).quarantine.map QuarantineRec.place) →
    P (s.setLine l { s.line l with quarantine := q })
  setParam : ∀ {s}, P s → ∀ tag id v, s.paramRefusal id v = none → P (s.setParam tag id v)
  serveReset : ∀ {s}, P s → ∀ tag, P (s.serveReset tag)
  powerOn : P State.reset
  rosterLaw : ∀ {s}, P s → RosterLaw s

/-- A law of parameters, roster and addresses that every claim on them keeps. -/
structure BookLaw (P : State → Prop) : Prop extends BookClaims P where
  find : ∀ {s}, P s → ∀ l i mem, P (s.find l i mem).1

namespace BookSame

theorem of_host {s t : State} (h : HostOnly s t) : BookSame s t :=
  ⟨h.params, h.roster, h.nextSerial, fun l => by rw [h.line], fun l => by rw [h.line]⟩

theorem modLine (s : State) (l : Line) {f : LineState → LineState} (hp : (f (s.line l)).pool = (s.line l).pool)
    (hq : (f (s.line l)).quarantine = (s.line l).quarantine) : BookSame s (s.modLine l f) := by
  refine ⟨by simp, by simp, by simp, fun m => ?_, fun m => ?_⟩ <;>
  · by_cases hm : m = l
    · subst hm
      rw [State.line_modLine]
      assumption
    · rw [State.line_modLine_of_ne _ hm]

theorem of_lineOnly {s t : State} {l : Line} (h : LineOnly s t l) (hp : (t.line l).pool = (s.line l).pool)
    (hq : (t.line l).quarantine = (s.line l).quarantine) : BookSame s t := by
  refine ⟨h.params, h.roster, h.nextSerial, fun m => ?_, fun m => ?_⟩ <;>
  · by_cases hm : m = l
    · subst hm
      assumption
    · rw [h.other m hm]

theorem of_censusOnly {s t : State} {l : Line} (h : CensusOnly s t l) : BookSame s t := by
  obtain ⟨honly, c, hc⟩ := h
  exact .of_lineOnly honly (by rw [hc]) (by rw [hc])

theorem settle (s : State) : BookSame s s.settle := by
  refine ⟨by simp, by simp, by simp, fun l => ?_, fun l => ?_⟩ <;>
  · obtain ⟨_, _, _, _, _, heq, -⟩ := lineSettled_eq s l
    rw [State.line_settle, heq]

theorem closePower (s : State) (l : Line) (o : CloseOutcome) (p : LinePower) (n : Nat) :
    BookSame s (s.closePower l o p n) := by
  obtain ⟨hparams, hclock, hroster, hserial, hself, hother⟩ := s.closePower_frame l o p n
  exact .of_lineOnly (l := l) ⟨hparams, hclock, hroster, hserial, hother⟩ (by rw [hself]) (by rw [hself])

/-- Nothing but the blocks named differs when a field beside them is written. -/
theorem of_lines {s t : State} (hp : t.params = s.params) (hr : t.roster = s.roster) (hn : t.nextSerial = s.nextSerial)
    (hl : ∀ l, t.line l = s.line l) : BookSame s t :=
  ⟨hp, hr, hn, fun l => by rw [hl], fun l => by rw [hl]⟩

end BookSame

theorem Recorded.refl (x : Entry) : Recorded x x := ⟨x.pendingTx, x.forgetting, rfl, .inr ⟨le_rfl, .inl rfl⟩⟩

theorem Recorded.less (x : Entry) (n : Nat) : Recorded x { x with pendingTx := x.pendingTx - n } :=
  ⟨_, _, rfl, .inr ⟨Nat.sub_le _ _, .inl rfl⟩⟩

theorem State.mem_of_entryOf {s : State} {n : Nat} {e : Entry} (h : s.entryOf n = some e) :
    e ∈ s.roster ∧ e.serial = n :=
  ⟨List.mem_of_find?_eq_some h, by simpa using List.find?_some h⟩

namespace BookClaims

variable {P : State → Prop} {s t : State} {l : Line}

/-! ## Records and requests -/

theorem modLine (hP : BookClaims P) (h : P s) (l : Line) {f : LineState → LineState}
    (hp : (f (s.line l)).pool = (s.line l).pool) (hq : (f (s.line l)).quarantine = (s.line l).quarantine) :
    P (s.modLine l f) := hP.same h (.modLine s l hp hq)

theorem host (hP : BookClaims P) (h : P s) (k : HostOnly s t) : P t := hP.same h (.of_host k)

theorem close (hP : BookClaims P) (h : P s) (tag : Tag) (o : CloseOutcome) (x : CloseResult) : P (s.close tag o x) :=
  hP.host h (HostOnly.closeAll s [report tag (.closed o x)])

theorem updNamed (hP : BookClaims P) (h : P s) (i : Ident) {f : Entry → Entry}
    (hf : ∀ x ∈ s.roster, x.identity = i → Recorded x (f x)) : P (s.updNamed i f) := by
  refine hP.recorded h _ fun x hx => ?_
  split
  · exact hf x hx ‹_›
  · exact .refl x

theorem closeTxn (hP : BookClaims P) (h : P s) (r : Txn) (o : CloseOutcome) (bs : Option (List Byte))
    (c : Option RefusalCode) : P (s.closeTxn r o bs c) := by
  have hless := hP.updNamed h r.target (f := fun e => { e with pendingTx := e.pendingTx - 1 }) fun x _ _ => .less x 1
  unfold State.closeTxn
  cases r.work with
  | read off len => exact hP.close hless _ _ _
  | write off bytes => exact hP.close hless _ _ _
  | release => exact hless

theorem setQueue (hP : BookClaims P) (h : P s) (l : Line) (q : List Txn) : P (s.setQueue l q) := hP.modLine h l rfl rfl

theorem closeTxns (hP : BookClaims P) (h : P s) (rs : List Txn) (o : CloseOutcome) : P (s.closeTxns rs o) := by
  unfold State.closeTxns
  induction rs generalizing s with
  | nil => exact h
  | cons r rs ih => exact ih (hP.closeTxn h r o none none)

theorem haltRequest (hP : BookClaims P) (h : P s) (m : Halt) (r : Req) : P (s.haltRequest m r) := by
  unfold State.haltRequest
  split
  · unfold State.haltCensus
    split
    · split
      · exact h
      · split
        · exact hP.host (hP.modLine h _ rfl rfl) (.setReqState _ _ _)
        · exact hP.same h (.of_censusOnly (.closeCensus _ _ _))
    · exact h
  iterate 2
    · unfold State.haltTxn
      split
      · exact h
      · split
        · exact hP.host (hP.setQueue h _ _) (.setReqState _ _ _)
        · exact hP.closeTxn (hP.setQueue h _ _) _ _ _ _
  · unfold State.haltForget
    split
    · refine hP.close (hP.updNamed (hP.setQueue h _ _) _ fun x _ _ => ?_) _ _ _
      exact ⟨_, _, rfl, .inr ⟨Nat.sub_le _ _, .inr rfl⟩⟩
    · exact h
  · exact h

theorem admitStop (hP : BookClaims P) (h : P s) (tag : Tag) : P (s.admitStop tag) := by
  have hfold : ∀ (qs : List Req) {u : State}, P u → P (qs.foldl (fun t r => t.haltRequest .stop r) u) := by
    intro qs
    induction qs with
    | nil => exact fun hu => hu
    | cons q qs ih => exact fun hu => ih (hP.haltRequest hu .stop q)
  have hopen : P { s.push tag (.taken .stop) with stop := some { tag := tag, openCount := s.table.length } } :=
    hP.same h (.of_lines rfl rfl rfl fun l => by cases l <;> rfl)
  exact hP.same (hP.host (hfold s.table hopen) (.settleStop _)) (.settle _)

theorem admitTxn (hP : BookClaims P) (h : P s) (tag : Tag) (k : LongKind) {i : Ident} {off len : Nat} (w : TxnWork)
    (hadm : s.txnRefusal i off len = none) : P (s.admitTxn tag k i w) := by
  unfold State.admitTxn
  split
  · rename_i e he
    have hbound : e.standing.isBound = true := by
      simp only [State.txnRefusal, he] at hadm
      split at hadm
      · exact nomatch hadm
      · rename_i hb
        simpa using hb
    refine hP.updNamed (hP.setQueue (hP.host h (.take s _)) _ _) i fun x hx hxi => ?_
    simp only [State.setQueue, State.modLine_roster] at hx
    obtain ⟨hmem, hi⟩ := State.mem_of_lookup he
    obtain rfl := (hP.rosterLaw h).identity_inj hx hmem (hxi.trans hi.symm)
    exact ⟨_, _, rfl, .inl hbound⟩
  · exact h

theorem admitForget (hP : BookClaims P) (h : P s) (tag : Tag) {e : Entry} (he : s.lookup e.identity = some e) :
    P (s.admitForget tag e) := by
  obtain ⟨hmem, -⟩ := State.mem_of_lookup he
  unfold State.admitForget
  dsimp only
  split
  · rename_i hbound
    refine hP.closeTxns (hP.setQueue (hP.updNamed (hP.host h (.take s _)) _ fun x hx hxi => ?_) _ _) _ _
    obtain rfl := (hP.rosterLaw h).identity_inj hx hmem hxi
    exact ⟨_, _, rfl, .inl hbound⟩
  · rename_i hnot
    exact hP.close (hP.removeEntry (hP.host h (.take s _)) e hmem (by simpa using hnot)) _ _ _

/-! ## The supervisor -/

theorem goOff (hP : BookClaims P) (h : P s) (l : Line) : P (s.goOff l) :=
  hP.same (hP.lineDown (s := s.unpower l .off) (hP.modLine h l rfl rfl) l) (.closePower _ _ _ _ _)

theorem endOp (hP : BookClaims P) (h : P s) (l : Line) : P (s.endOp l) := by
  have hop : P (s.modLine l fun L => { L with op := none }) := hP.modLine h l rfl rfl
  unfold State.endOp
  dsimp only
  split
  · exact hP.goOff hop l
  · exact hop

theorem actPower (hP : BookClaims P) (h : P s) (l : Line) (d : Direction) (tag : Tag) : P (s.actPower l d tag) := by
  unfold State.actPower
  split
  · exact hP.modLine h l rfl rfl
  · exact hP.modLine h l rfl rfl
  · exact hP.close h _ _ _
  · exact hP.close h _ _ _
  · exact hP.close h _ _ _
  · dsimp only
    split
    · exact hP.modLine h l rfl rfl
    · exact hP.goOff (hP.modLine h l rfl rfl) l
  · exact hP.close (hP.same (s := s.unpower l .off) (hP.modLine h l rfl rfl) (.closePower _ _ _ _ _)) _ _ _
  · exact hP.modLine h l rfl rfl

/-! ## Windows -/

theorem counted (hP : BookClaims P) (h : P s) (l : Line) (w : WindowClass) (b : Bool) :
    P ((s.countWindow l w).countMismatch l b) := by
  rw [State.countMismatch_eq, State.countWindow_eq]
  exact hP.modLine (hP.modLine h l (f := fun L => { L with counters := classCounted w L.counters }) rfl rfl) l
    (f := fun L => { L with counters := _ }) rfl rfl

theorem answered (hP : BookClaims P) (h : P s) (n : Nat) (flag : Option Bool) : P (s.answered n flag) := by
  refine hP.heeded h n _ fun x _ _ => ?_
  split
  · exact .inr ⟨‹_›, _, _, _, rfl, .inl rfl⟩
  · exact .inl rfl

theorem answeredNamed (hP : BookClaims P) (h : P s) (i : Ident) : P (s.answeredNamed i) := by
  unfold State.answeredNamed
  split
  · exact hP.answered h _ _
  · exact h

theorem miss (hP : BookClaims P) (h : P s) (n : Nat) (c : LossCause) : P (s.miss n c) := by
  unfold State.miss
  split
  · rename_i e he
    obtain ⟨hmem, hserial⟩ := State.mem_of_entryOf he
    split
    · rename_i hbound
      split
      · exact hP.host (hP.countOut h e hmem) (.pushLineEvents _ _)
      · rename_i hlimit
        refine hP.heeded h n _ fun x hx hxn => .inr ?_
        obtain rfl := (hP.rosterLaw h).serial_inj hx hmem (hxn.trans hserial.symm)
        exact ⟨hbound, _, _, _, rfl, .inr (.inl (Nat.lt_of_not_le hlimit))⟩
    · exact h
  · exact h

theorem missNamed (hP : BookClaims P) (h : P s) (i : Ident) (c : LossCause) : P (s.missNamed i c) := by
  unfold State.missNamed
  split
  · exact hP.miss h _ _
  · exact h

theorem pollHeard (hP : BookClaims P) (h : P s) (l : Line) (n : Nat) (i : Ident) (a : Address) (w : WindowClass) :
    P (s.pollHeard l n i a w) := by
  have hc := hP.counted h l w (mismatch w i)
  unfold State.pollHeard
  dsimp only
  split
  · split
    · split
      · split
        · unfold State.reportAttention
          split
          · exact hP.host (hP.answered hc _ _) (.pushEvent _ _ _)
          · exact hP.answered hc _ _
        · exact hc
      · exact hc
    · exact hP.miss hc _ _
  · exact hP.miss hc _ _

theorem bindOutcome (hP : BookClaims P) (h : P s) (n : Nat) (b : Bool) : P (s.bindOutcome n b) := by
  unfold State.bindOutcome
  split
  · rename_i e he
    obtain ⟨hmem, hserial⟩ := State.mem_of_entryOf he
    split
    · rename_i hbound
      split
      · refine hP.heeded h n _ fun x hx hxn => .inr ?_
        obtain rfl := (hP.rosterLaw h).serial_inj hx hmem (hxn.trans hserial.symm)
        exact ⟨hbound, _, _, _, rfl, .inr (.inr rfl)⟩
      · exact hP.countOut h e hmem
    · exact h
  · exact h

theorem judgedFrom (hP : BookClaims P) (h : P s) {w : WindowClass} {i : Ident} {v : State}
    (hv : JudgedFrom (s.countWindow l w) l w i v) : P v := by
  have hc := hP.counted h l w (mismatch w i)
  rcases hv with rfl | rfl
  · exact hc
  · exact hP.answeredNamed hc i

theorem countWindow (hP : BookClaims P) (h : P s) (l : Line) (w : WindowClass) : P (s.countWindow l w) := by
  rw [State.countWindow_eq]
  exact hP.modLine h l (f := fun L => { L with counters := classCounted w L.counters }) rfl rfl

theorem attemptHeard (hP : BookClaims P) (h : P s) (l : Line) (w : WindowClass) : P (s.attemptHeard l w) := by
  rcases attemptHeard_cases s l w with ⟨heq, -⟩ | ⟨r, rest, -, -, heq⟩ <;> rw [heq]
  · exact hP.countWindow h l w
  · obtain ⟨v, n, hv, ⟨hres, -⟩ | ⟨o, bs, c, hres⟩ | hres⟩ :=
      attemptJudged_cases (s.countWindow l w) l r rest w <;> rw [hres]
    · exact hP.setQueue (hP.judgedFrom h hv) _ _
    · exact hP.closeTxn (hP.setQueue (hP.judgedFrom h hv) _ _) _ _ _ _
    · exact hP.missNamed (hP.closeTxn (hP.setQueue (hP.judgedFrom h hv) _ _) _ _ _ _) _ _

theorem releaseHeard (hP : BookClaims P) (h : P s) (l : Line) (w : WindowClass) : P (s.releaseHeard l w) := by
  rcases releaseHeard_cases s l w with ⟨heq, -⟩ | ⟨r, rest, -, -, heq⟩ <;> rw [heq]
  · exact hP.countWindow h l w
  · have hc := hP.counted h l w (mismatch w r.target)
    obtain ⟨hres, -⟩ | ⟨b, hres⟩ := releaseJudged_cases (s.countWindow l w) l r rest w <;> rw [hres]
    · exact hP.setQueue hc _ _
    · exact hP.removal (hP.setQueue hc _ _) _ _ _

/-! ## Commands -/

theorem passTo (hP : BookClaims P) (h : P s) (x : Clock) : P (s.passTo x) :=
  hP.same h (.of_lines rfl rfl rfl fun l => by cases l <;> rfl)

theorem startCycle (hP : BookClaims P) (h : P s) (l : Line) : P (s.startCycle l) := by
  unfold State.startCycle
  exact hP.modLine h l rfl rfl

theorem beginOp (hP : BookClaims P) (h : P s) (l : Line) (w : OpWork) (c : Call) : P (s.beginOp l w c) :=
  hP.modLine h l rfl rfl

theorem finishSlot (hP : BookClaims P) (h : P s) (l : Line) (event : Option (Nat → Nat → Event)) :
    P (s.finishSlot l event) := hP.endOp (hP.same h (.of_censusOnly (.slotEnd s l event))) l

theorem endSlot (hP : BookClaims P) (h : P s) (l : Line) (f : Census → Census) (event : Option (Nat → Nat → Event)) :
    P ((s.modCensus l f).finishSlot l event) := hP.finishSlot (hP.same h (.of_censusOnly (.modCensus s l f))) l event

theorem lineGrant (hP : BookClaims P) (h : P s) (he : exec (.lineGrant l) s = .next t) : P t := by
  rcases exec_lineGrant he with rfl | ⟨c, u, -, -, -, -, hu, rfl⟩
  · exact h
  · unfold State.countGrant
    refine hP.modLine ?_ l rfl rfl
    cases c with
    | executor =>
      obtain ⟨r, rest, e, a, -, -, -, rfl⟩ := beginAttempt_cases hu
      exact hP.host (hP.beginOp (hP.setQueue h l _) l _ _) (.setReqState _ _ _)
    | scheduler =>
      obtain ⟨c, n, rest, e, a, -, -, -, -, rfl⟩ := beginPoll_cases hu
      exact hP.beginOp (hP.modLine h l rfl rfl) l _ _
    | sequencer =>
      obtain ⟨c, -, rfl⟩ := beginSlot_cases hu
      unfold slotBegun
      split
      · refine hP.host (hP.same h (.of_lineOnly (.setLine s l _) ?_ ?_)) (.setReqState _ _ _) <;>
          rw [State.line_setLine]
      · exact hP.host (hP.beginOp h l _ _) (.setReqState _ _ _)

theorem callSent (hP : BookClaims P) (h : P s) (he : exec (.callSent l) s = .next t) : P t := by
  rcases callSent_frame he with rfl | ⟨o, p, hs, q, k, -, -, rfl, hq⟩
  · exact h
  · refine hP.same (hP.extend h l q hq) (.of_lineOnly (l := l) ⟨?_, ?_, ?_, ?_, fun m hm => ?_⟩ ?_ ?_)
    iterate 4 simp
    · rw [State.line_setLine_of_ne _ hm, State.line_setLine_of_ne _ hm, State.line_with_hush]
    · simp
    · simp

theorem claimHeard (hP : BookClaims P) (h : P s) {l : Line} (hfind : ∀ {u} i mem, P u → P (u.find l i mem).1)
    (k : Handle) (w : WindowClass) : P (s.claimHeard l k w) := by
  have hc := hP.countWindow h l w
  unfold State.claimHeard
  dsimp only
  split
  · split
    · split
      · rename_i u n a lease v heq
        obtain rfl : _ = u := congrArg Prod.fst heq
        exact hP.beginOp (hfind _ _ hc) l _ _
      · rename_i u r v heq
        obtain rfl : _ = u := congrArg Prod.fst heq
        exact hP.beginOp (hfind _ _ hc) l _ _
    · exact hP.endSlot hc l _ _
  · exact hP.endSlot hc l _ _

theorem bindHeard (hP : BookClaims P) (h : P s) (l : Line) (n : Nat) (i : Ident) (mem : Nat) (v : FindEvent) (a : Address)
    (w : WindowClass) : P (s.bindHeard l n i mem v a w) := by
  have hc := hP.counted h l w (mismatch w i)
  unfold State.bindHeard
  dsimp only
  split
  · exact hP.endSlot (hP.same (hP.bindOutcome hc n true) (.settle _)) l _ _
  · exact hP.endSlot (hP.same (hP.bindOutcome hc n false) (.settle _)) l _ _

theorem openingWindow (hP : BookClaims P) (h : P s) (l : Line) (w : WindowClass) : P (s.openingWindow l w) := by
  have hc := hP.countWindow h l w
  unfold State.openingWindow
  dsimp only
  split
  · exact hP.endSlot hc l _ _
  · exact hP.beginOp (hP.modLine hc l rfl rfl) l _ _
  · exact hP.endSlot hc l _ _

theorem overcurrentTrip (hP : BookClaims P) (h : P s) (he : exec (.overcurrentTrip l) s = .next t) : P t := by
  rcases exec_overcurrentTrip he with rfl | ⟨-, rfl⟩ | ⟨-, rfl⟩
  · exact h
  · have htold := hP.host (hP.lineDown (s := s.unpower l .fault) (hP.modLine h l rfl rfl) l)
      (.pushEvent _ 0 (.lineFault l s.clock (s.boundEntries l).length))
    unfold State.tripUp
    dsimp only
    split
    · exact hP.same htold (.closePower _ _ _ _ _)
    · exact htold
  · exact hP.same (s := s.unpower l .fault) (hP.modLine h l rfl rfl) (.closePower _ _ _ _ _)

theorem inner {c : Instr} (hP : BookClaims P) (h : P s) (hc : Instr.inner c = true) (he : exec c s = .next t)
    (hfind : ∀ l o, (s.line l).op = some o → ∀ {u} i mem, P u → P (u.find l i mem).1) : P t := by
  cases c with
  | settlingExpiry l =>
    rcases exec_settlingExpiry he with rfl | ⟨x, -, -, rfl⟩
    · exact h
    · exact hP.same (hP.startCycle (hP.modLine (hP.passTo h x) l rfl rfl) l) (.closePower _ _ _ _ _)
  | overcurrentTrip l => exact hP.overcurrentTrip h he
  | lineGrant l => exact hP.lineGrant h he
  | callSent l => exact hP.callSent h he
  | slotWindow l x =>
    rcases exec_slotWindow he with rfl | ⟨o, -, -, rfl⟩
    · exact h
    · exact hP.openingWindow h l _
  | claimWindow l x =>
    rcases exec_claimWindow he with rfl | ⟨o, ho, -, rfl⟩
    · exact h
    · exact hP.same (hP.claimHeard h (hfind l o ho.1) _ _) (.settle _)
  | bindOutcome l x =>
    rcases exec_bindOutcome he with rfl | ⟨o, n, i, mem, v, -, -, rfl⟩
    · exact h
    · exact hP.bindHeard h l n i mem v _ _
  | hushWindow l x =>
    rcases exec_hushWindow he with rfl | ⟨o, i, r, v, m, -, -, rfl⟩
    · exact h
    · exact hP.endSlot (hP.countWindow h l _) l _ _
  | pollWindow l x =>
    rcases exec_pollWindow he with rfl | ⟨o, n, i, -, -, rfl⟩
    · exact h
    · exact hP.same (hP.endOp (hP.pollHeard h l n i _ _) l) (.settle _)
  | pollDue l =>
    rcases exec_pollDue he with rfl | ⟨c, -, ⟨-, rfl⟩ | ⟨-, rfl⟩⟩
    · exact h
    · exact hP.modLine (hP.passTo h _) l rfl rfl
    · exact hP.startCycle (hP.passTo h _) l
  | attemptWindow l x =>
    rcases exec_attemptWindow he with rfl | ⟨o, -, -, -, rfl⟩
    · exact h
    · exact hP.endOp (hP.same (hP.attemptHeard h l _) (.settle _)) l
  | releaseWindow l x =>
    rcases exec_releaseWindow he with rfl | ⟨o, -, -, -, rfl⟩
    · exact h
    · exact hP.endOp (hP.same (hP.releaseHeard h l _) (.settle _)) l
  | quarantineExpiry l =>
    rcases exec_quarantineExpiry he with rfl | ⟨x, rfl⟩
    · exact h
    · exact hP.expireDue (hP.passTo h x) l
  | hushExpiry =>
    rcases exec_hushExpiry he with rfl | ⟨x, rfl⟩
    · exact h
    · exact hP.same (hP.passTo h x) (.of_lines rfl rfl rfl fun l => by cases l <;> rfl)
  | _ => exact nomatch hc

end BookClaims

/-- A law of the book is a law of the core. -/
theorem BookLaw.coreLaw {P : State → Prop} (hP : BookLaw P) : CoreLaw P where
  same h hs := hP.same h (.of_lines hs.params hs.roster hs.nextSerial hs.line)
  serveReset h tag := hP.serveReset h tag
  powerOn := hP.powerOn
  setParam h tag id v hnone := hP.setParam h tag id v hnone
  cancel h q _ _ := hP.same (hP.haltRequest h .cancel q) (.settle _)
  stop h tag _ _ _ := hP.admitStop h tag
  census h _ l _ _ _ _ _ _ _ := hP.modLine (hP.host h (.take _ _)) l rfl rfl
  txn h tag w _ _ _ _ _ hadm := hP.admitTxn h tag w.kind w hadm
  forget h tag _ _ he _ := hP.admitForget h tag he
  power h tag l d _ _ := hP.actPower (hP.host h (.take _ _)) l d tag
  inner h hc he := hP.inner h hc he fun l _ _ _ i mem hu => hP.find hu l i mem

end Sys2Proof.Machine
end

section
/-! The roster and its entries (R17 to R19, R28, R29), kept by every step. -/

namespace Sys2Proof.Machine

open Sys2Proof.Statements

/-! ## A roster that loses or changes entries -/

theorem sublist_map_filterMap {α β : Type} {f : α → Option α} {g : α → β} (hf : ∀ x y, f x = some y → g y = g x)
    (xs : List α) : ((xs.filterMap f).map g).Sublist (xs.map g) := by
  induction xs with
  | nil => exact .slnil
  | cons x xs ih =>
    rw [List.filterMap_cons, List.map_cons]
    cases hx : f x with
    | none => exact ih.cons _
    | some y =>
      rw [List.map_cons, hf x y hx]
      exact ih.cons_cons _

/-- A change of entries that leaves their identities and serials. -/
def KeepsIds (f : Entry → Option Entry) : Prop := ∀ x y, f x = some y → y.serial = x.serial ∧ y.identity = x.identity

theorem RosterLaw.filterMap {s t : State} (h : RosterLaw s) {f : Entry → Option Entry} (hf : KeepsIds f)
    (hr : t.roster = s.roster.filterMap f) (hn : s.nextSerial ≤ t.nextSerial) : RosterLaw t := by
  obtain ⟨hlen, hident, hserial, hnext⟩ := h
  refine ⟨?_, ?_, ?_, ?_⟩
  · rw [hr]; exact (List.length_filterMap_le f _).trans hlen
  · rw [hr]; exact (sublist_map_filterMap (fun x y hx => (hf x y hx).2) _).nodup hident
  · rw [hr]; exact (sublist_map_filterMap (fun x y hx => (hf x y hx).1) _).nodup hserial
  · rw [hr]
    intro e he
    obtain ⟨x, hx, hxe⟩ := List.mem_filterMap.mp he
    rw [(hf x e hxe).1]
    exact (hnext x hx).trans_le hn

theorem RosterLaw.of_eq {s t : State} (h : RosterLaw s) (hr : t.roster = s.roster) (hn : t.nextSerial = s.nextSerial) :
    RosterLaw t := by
  simpa only [RosterLaw, hr, hn] using h

theorem RosterLaw.map {s t : State} (h : RosterLaw s) {f : Entry → Entry}
    (hf : ∀ x, (f x).serial = x.serial ∧ (f x).identity = x.identity) (hr : t.roster = s.roster.map f)
    (hn : t.nextSerial = s.nextSerial) : RosterLaw t := by
  refine h.filterMap (f := some ∘ f) (fun x y hxy => ?_) ?_ hn.ge
  · obtain rfl := Option.some.inj hxy
    exact hf x
  · rw [hr, List.filterMap_eq_map]

theorem RosterLaw.filter {s t : State} (h : RosterLaw s) {p : Entry → Bool} (hr : t.roster = s.roster.filter p)
    (hn : t.nextSerial = s.nextSerial) : RosterLaw t := by
  refine h.filterMap (f := Option.guard p) (fun x y hxy => ?_) ?_ hn.ge
  · obtain ⟨rfl, -⟩ := Option.guard_eq_some_iff.mp hxy
    exact ⟨rfl, rfl⟩
  · rw [hr, List.filterMap_eq_filter]

/-- An entry with the next serial joins a roster that has room and does not know its identity (R22). -/
theorem RosterLaw.append {s t : State} (h : RosterLaw s) {e : Entry} (hlen : s.roster.length < 256)
    (hi : ∀ x ∈ s.roster, x.identity ≠ e.identity) (he : e.serial = s.nextSerial) (hr : t.roster = s.roster ++ [e])
    (hn : t.nextSerial = s.nextSerial + 1) : RosterLaw t := by
  obtain ⟨-, hident, hserial, hnext⟩ := h
  refine ⟨?_, ?_, ?_, ?_⟩
  · rw [hr, List.length_append, List.length_singleton]; exact hlen
  · rw [hr, List.map_append, List.nodup_append]
    exact ⟨hident, by simp, by simpa using hi⟩
  · rw [hr, List.map_append, List.nodup_append]
    refine ⟨hserial, by simp, ?_⟩
    simp only [List.mem_map, List.map_cons, List.map_nil, List.mem_singleton]
    rintro _ ⟨x, hx, rfl⟩ _ rfl
    exact he ▸ (hnext x hx).ne
  · rw [hr, hn]
    intro x hx
    rcases List.mem_append.mp hx with hx | hx
    · exact (hnext x hx).trans (Nat.lt_succ_self _)
    · rw [List.mem_singleton.mp hx, he]; exact Nat.lt_succ_self _

/-! ## The roster after a claim -/

theorem State.purge_roster (s : State) (l : Line) (i : Ident) :
    (s.purge l i).roster = lessPendingBy ((s.line l).queue.filter (·.target == i)) s.roster ∧
      (s.purge l i).nextSerial = s.nextSerial ∧ (s.purge l i).params = s.params := by
  rw [State.purge_eq_closeAll]
  simp

theorem State.removeEntry_roster (s : State) (e : Entry) :
    (s.removeEntry e).roster = s.roster.filter (·.serial != e.serial) ∧
      (s.removeEntry e).nextSerial = s.nextSerial ∧ (s.removeEntry e).params = s.params := by
  rw [State.removeEntry_eq]
  simp

theorem State.releaseHeld_roster (s : State) (l : Line) (x : Option Address) :
    (s.releaseHeld l x).roster = s.roster ∧ (s.releaseHeld l x).nextSerial = s.nextSerial ∧
      (s.releaseHeld l x).params = s.params := by
  cases x with
  | none => exact ⟨rfl, rfl, rfl⟩
  | some a => rw [State.releaseHeld, State.releaseEarly_eq]; simp

/-- The roster with an entry counted out, entry by entry (R29). -/
theorem mem_countedOut {es : List Entry} {e y : Entry} {a : Address} (hn : (es.map (·.identity)).Nodup) (he : e ∈ es)
    (hy : y ∈ countedOut e a es) :
    (y ∈ es ∧ y.identity ≠ e.identity) ∨
      (e.forgetting = none ∧ y = { e with standing := .lost (some a), misses := 0, pendingTx := 0 }) := by
  unfold countedOut at hy
  split at hy
  · rename_i hf
    obtain ⟨x, hx, hxy⟩ := List.mem_map.mp hy
    split at hxy
    · rename_i hi
      obtain rfl := List.inj_on_of_nodup_map hn hx he hi
      exact .inr ⟨hf, hxy.symm⟩
    · rename_i hi
      exact .inl (hxy ▸ ⟨hx, hi⟩)
  · obtain ⟨hx, hi⟩ := List.mem_filter.mp hy
    exact .inl ⟨hx, by simpa using hi⟩

theorem mem_countedOut_of_ne {es : List Entry} {e y : Entry} {a : Address} (hy : y ∈ es) (hi : y.identity ≠ e.identity) :
    y ∈ countedOut e a es := by
  unfold countedOut
  split
  · exact List.mem_map.mpr ⟨y, hy, if_neg hi⟩
  · exact List.mem_filter.mpr ⟨hy, by simpa using hi⟩

theorem countedOut_filterMap (e : Entry) (a : Address) (es : List Entry) :
    ∃ f, KeepsIds f ∧ countedOut e a es = es.filterMap f := by
  unfold countedOut
  split
  · refine ⟨_, fun x y hxy => ?_, (congrFun List.filterMap_eq_map es).symm⟩
    obtain rfl := Option.some.inj hxy
    dsimp only
    split <;> exact ⟨rfl, rfl⟩
  · refine ⟨_, fun x y hxy => ?_, (congrFun List.filterMap_eq_filter es).symm⟩
    obtain ⟨rfl, -⟩ := Option.guard_eq_some_iff.mp hxy
    exact ⟨rfl, rfl⟩

/-- An entry that is not BOUND is not counted out. -/
theorem State.countOut_of_not_bound (s : State) {e : Entry} (h : e.standing.isBound = false) : s.countOut e = s := by
  unfold State.countOut
  split
  · rename_i hb
    rw [hb] at h
    exact nomatch h
  · rfl

theorem Standing.exists_of_isBound {x : Standing} (h : x.isBound = true) : ∃ a lease, x = .bound a lease := by
  cases x with
  | bound a lease => exact ⟨a, lease, rfl⟩
  | lost => exact nomatch h
  | unbound => exact nomatch h

theorem RosterLaw.countOut {s : State} (h : RosterLaw s) {e : Entry} (he : e ∈ s.roster) : RosterLaw (s.countOut e) := by
  cases hb : e.standing.isBound with
  | false => rwa [s.countOut_of_not_bound hb]
  | true =>
    obtain ⟨a, lease, hst⟩ := Standing.exists_of_isBound hb
    obtain ⟨f, hf, hroster⟩ := countedOut_filterMap e a s.roster
    rw [State.countOut_of_bound h he hst]
    exact h.filterMap hf (by simpa using hroster) (by simp)

/-- An entry of another identity stands as it is when one is counted out. -/
theorem mem_countOut_of_ne {s : State} (h : RosterLaw s) {e x : Entry} (he : e ∈ s.roster) (hx : x ∈ s.roster)
    (hi : x.identity ≠ e.identity) : x ∈ (s.countOut e).roster := by
  cases hb : e.standing.isBound with
  | false => rwa [s.countOut_of_not_bound hb]
  | true =>
    obtain ⟨a, lease, hst⟩ := Standing.exists_of_isBound hb
    rw [State.countOut_of_bound h he hst]
    simpa using mem_countedOut_of_ne hx hi

/-- What each counting out keeps, several keep one after another (R30). -/
theorem countOut_foldl {P : List Entry → State → Prop} (hroster : ∀ {es s}, P es s → RosterLaw s)
    (hstep : ∀ {e es s}, P (e :: es) s → e ∈ s.roster → P es (s.countOut e)) {es : List Entry} {s : State} (h : P es s)
    (hmem : ∀ e ∈ es, e ∈ s.roster) (hn : (es.map (·.identity)).Nodup) : P [] (es.foldl State.countOut s) := by
  induction es generalizing s with
  | nil => exact h
  | cons e es ih =>
    rw [List.map_cons, List.nodup_cons] at hn
    obtain ⟨hfresh, hn⟩ := hn
    have he := hmem e List.mem_cons_self
    refine ih (hstep h he) (fun x hx => ?_) hn
    refine mem_countOut_of_ne (hroster h) he (hmem x (List.mem_cons_of_mem e hx)) fun hi => hfresh ?_
    exact hi ▸ List.mem_map_of_mem hx

/-- The entries that a lowered miss_limit takes out (R30). -/
abbrev overLimit (s : State) (limit : Nat) : List Entry := s.roster.filter fun e => e.standing.isBound && limit ≤ e.misses

theorem limitSweep_keeps {P : List Entry → State → Prop} (hroster : ∀ {es s}, P es s → RosterLaw s)
    (hstep : ∀ {e es s}, P (e :: es) s → e ∈ s.roster → P es (s.countOut e))
    (hhost : ∀ {s t}, P [] s → HostOnly s t → P [] t) {s : State} {limit : Nat} (h : P (overLimit s limit) s) :
    P [] (s.limitSweep limit) := by
  refine hhost (countOut_foldl (P := P) hroster hstep h (fun e he => (List.mem_filter.mp he).1) ?_) (.pushLineEvents _ _)
  exact (List.filter_sublist.map _).nodup (hroster h).2.1

/-! ## The fields of an entry (R19, R28) -/

/-- An entry whose fields agree with its state, for a miss_limit. -/
def EntryOk (limit : Nat) (e : Entry) : Prop :=
  e.returns ≤ 255 ∧ (e.standing.isBound = true → e.misses < limit) ∧
    (e.standing.isBound = false → e.misses = 0 ∧ e.pendingTx = 0 ∧ e.forgetting = none)

theorem EntryOk.lost {limit : Nat} {e : Entry} (h : EntryOk limit e) (hf : e.forgetting = none) (a : Option Address) :
    EntryOk limit { e with standing := .lost a, misses := 0, pendingTx := 0 } :=
  ⟨h.1, fun h => (nomatch h), fun _ => ⟨rfl, rfl, hf⟩⟩

theorem EntryOk.recorded {limit : Nat} {x y : Entry} (h : EntryOk limit x) (hxy : Recorded x y) : EntryOk limit y := by
  obtain ⟨hret, hbound, hnot⟩ := h
  obtain ⟨n, o, rfl, hor⟩ := hxy
  refine ⟨hret, hbound, fun hb => ?_⟩
  obtain ⟨hmiss, hpend, hforget⟩ := hnot hb
  obtain ⟨hn, ho⟩ := hor.resolve_left (by simpa using hb)
  exact ⟨hmiss, by simp only; omega, by rcases ho with rfl | rfl <;> first | exact hforget | rfl⟩

theorem EntryOk.heeded {limit : Nat} (hl : 1 ≤ limit) {x y : Entry} (h : EntryOk limit x) (hxy : Heeded limit x y) :
    EntryOk limit y := by
  obtain ⟨hret, hbound, -⟩ := h
  obtain ⟨hb, m, a, c, rfl, hm⟩ := hxy
  have hx := hbound hb
  refine ⟨hret, fun _ => ?_, fun hn => absurd (hb.symm.trans hn) (by decide)⟩
  rcases hm with rfl | hm | rfl
  · exact hl
  · exact hm
  · exact hx

/-- The laws of O53. -/
def EntryLaws (s : State) : Prop := RosterLaw s ∧ ParamLaw s ∧ ∀ e ∈ s.roster, EntryOk s.params.missLimit e

namespace EntryLaws

variable {s t : State}

theorem missLimit_pos (h : EntryLaws s) : 1 ≤ s.params.missLimit := (h.2.1.1 2 (by decide) _ rfl _ rfl).1

theorem of_eq (h : EntryLaws s) (hp : t.params = s.params) (hr : t.roster = s.roster)
    (hn : t.nextSerial = s.nextSerial) : EntryLaws t := by
  obtain ⟨hroster, hparams, hentries⟩ := h
  exact ⟨hroster.of_eq hr hn, hparams.congr hp, by rw [hr, hp]; exact hentries⟩

theorem host (h : EntryLaws s) (k : HostOnly s t) : EntryLaws t := h.of_eq k.params k.roster k.nextSerial

/-- Entries changed one by one, each staying legal. -/
theorem map (h : EntryLaws s) {f : Entry → Entry} (hf : ∀ x, (f x).serial = x.serial ∧ (f x).identity = x.identity)
    (hok : ∀ x ∈ s.roster, EntryOk s.params.missLimit (f x)) (hp : t.params = s.params) (hr : t.roster = s.roster.map f)
    (hn : t.nextSerial = s.nextSerial) : EntryLaws t := by
  obtain ⟨hroster, hparams, -⟩ := h
  refine ⟨hroster.map hf hr hn, hparams.congr hp, fun e he => ?_⟩
  rw [hr] at he
  obtain ⟨x, hx, rfl⟩ := List.mem_map.mp he
  exact hp ▸ hok x hx

theorem filter (h : EntryLaws s) {p : Entry → Bool} (hp : t.params = s.params) (hr : t.roster = s.roster.filter p)
    (hn : t.nextSerial = s.nextSerial) : EntryLaws t := by
  obtain ⟨hroster, hparams, hentries⟩ := h
  refine ⟨hroster.filter hr hn, hparams.congr hp, fun e he => ?_⟩
  rw [hr] at he
  exact hp ▸ hentries e (List.mem_of_mem_filter he)

theorem purge (h : EntryLaws s) (l : Line) (i : Ident) : EntryLaws (s.purge l i) := by
  obtain ⟨hroster, hserial, hparams⟩ := s.purge_roster l i
  exact h.map (f := fun x => { x with pendingTx := x.pendingTx - _ }) (fun x => ⟨rfl, rfl⟩)
    (fun x hx => (h.2.2 x hx).recorded (.less x _)) hparams hroster hserial

theorem removeEntry (h : EntryLaws s) (e : Entry) : EntryLaws (s.removeEntry e) := by
  obtain ⟨hroster, hserial, hparams⟩ := s.removeEntry_roster e
  exact h.filter hparams hroster hserial

theorem setLine (h : EntryLaws s) (l : Line) (L : LineState) : EntryLaws (s.setLine l L) :=
  h.of_eq (by simp) (by simp) (by simp)

theorem modLine (h : EntryLaws s) (l : Line) (f : LineState → LineState) : EntryLaws (s.modLine l f) :=
  h.of_eq (by simp) (by simp) (by simp)

theorem closeAll (h : EntryLaws s) (rs : List Report) : EntryLaws (s.closeAll rs) := h.host (.closeAll s rs)

theorem updEntry (h : EntryLaws s) (n : Nat) {f : Entry → Entry}
    (hf : ∀ x, (f x).serial = x.serial ∧ (f x).identity = x.identity)
    (hok : ∀ x ∈ s.roster, x.serial = n → EntryOk s.params.missLimit (f x)) : EntryLaws (s.updEntry n f) := by
  refine h.map (f := fun x => if x.serial = n then f x else x) (fun x => ?_) (fun x hx => ?_) rfl rfl rfl
  · split
    · exact hf x
    · exact ⟨rfl, rfl⟩
  · split
    · exact hok x hx ‹_›
    · exact h.2.2 x hx

/-- The laws with some entries still to be counted out for a lowered miss_limit (R30). -/
def But (es : List Entry) (s : State) : Prop :=
  RosterLaw s ∧ ParamLaw s ∧ ∀ e ∈ s.roster, EntryOk s.params.missLimit e ∨
    e ∈ es ∧ e.standing.isBound = true ∧ e.returns ≤ 255

theorem But.countOut {e : Entry} {es : List Entry} (h : But (e :: es) s) (he : e ∈ s.roster) :
    But es (s.countOut e) := by
  obtain ⟨hroster, hparams, hentries⟩ := h
  cases hb : e.standing.isBound with
  | false =>
    rw [s.countOut_of_not_bound hb]
    refine ⟨hroster, hparams, fun x hx => (hentries x hx).imp_right fun ⟨hmem, hbound, hret⟩ => ⟨?_, hbound, hret⟩⟩
    exact (List.mem_cons.mp hmem).resolve_left fun h => absurd (h ▸ hbound) (by simp [hb])
  | true =>
    obtain ⟨a, lease, hst⟩ := Standing.exists_of_isBound hb
    refine ⟨hroster.countOut he, ?_, fun x hx => ?_⟩
    · rw [State.countOut_of_bound hroster he hst]
      exact hparams.congr (by simp)
    · rw [State.countOut_of_bound hroster he hst] at hx ⊢
      simp only [State.closeAll_roster, State.setLine_roster, State.closeAll_params, State.setLine_params] at hx ⊢
      rcases mem_countedOut hroster.2.1 he hx with ⟨hx, hi⟩ | ⟨hf, rfl⟩
      · refine (hentries x hx).imp_right fun ⟨hmem, hrest⟩ => ⟨?_, hrest⟩
        exact (List.mem_cons.mp hmem).resolve_left fun h => hi (h ▸ rfl)
      · refine .inl ⟨?_, fun h => (nomatch h), fun _ => ⟨rfl, rfl, hf⟩⟩
        rcases hentries e he with h | ⟨-, -, h⟩
        · exact h.1
        · exact h

end EntryLaws

end Sys2Proof.Machine
end

section
/-! Entries stay legal (R17 to R19, R28, R29): each claim on the roster, and every step. -/

namespace Sys2Proof.Machine

open Sys2Proof.Statements

theorem Standing.isBound_eq_false {x : Standing} (h : ∀ a lease, x ≠ .bound a lease) : x.isBound = false := by
  cases x with
  | bound a lease => exact absurd rfl (h a lease)
  | lost => rfl
  | unbound => rfl

/-- An entry made by a find (R22). -/
abbrev newEntry (s : State) (l : Line) (i : Ident) (mem : Nat) (x : Standing) : Entry :=
  { serial := s.nextSerial, identity := i, line := l, standing := x, misses := 0, attention := false,
    memorySize := mem, returns := 0, lastSeen := s.clock, forgetting := none, pendingTx := 0 }

theorem EntryOk.mono {m n : Nat} {e : Entry} (h : EntryOk m e) (hmn : m ≤ n) : EntryOk n e :=
  ⟨h.1, fun hb => (h.2.1 hb).trans_le hmn, h.2.2⟩

/-- A stored parameter that is no lower miss_limit leaves miss_limit or raises it. -/
theorem missLimit_le_store {p : Params} {id v : Nat} (h : ¬(id = 2 ∧ v < p.missLimit)) :
    p.missLimit ≤ (p.store id v).missLimit := by
  unfold Params.store
  split
  case h_2 => exact Nat.le_of_not_lt fun hlt => h ⟨rfl, hlt⟩
  all_goals exact le_rfl

/-- What the line-down claim leaves of an entry (R31, R51). -/
def unpoweredEntry (l : Line) (e : Entry) : Option Entry :=
  if e.line = l then
    match e.standing, e.forgetting with
    | .bound _ _, none => some { e with standing := .lost none, misses := 0, pendingTx := 0 }
    | .bound _ _, some _ => none
    | .lost _, _ => some { e with standing := .lost none }
    | .unbound, _ => some e
  else some e

theorem unpoweredRoster_eq (l : Line) (es : List Entry) : unpoweredRoster l es = es.filterMap (unpoweredEntry l) := rfl

theorem unpoweredEntry_cases {l : Line} {x y : Entry} (h : unpoweredEntry l x = some y) :
    (y = x ∧ (x.line = l → x.standing = .unbound)) ∨
      (x.forgetting = none ∧ x.boundOn l = true ∧ y = { x with standing := .lost none, misses := 0, pendingTx := 0 }) ∨
      ∃ o, x.standing = .lost o ∧ x.line = l ∧ y = { x with standing := .lost none } := by
  unfold unpoweredEntry at h
  split at h
  · rename_i hl
    split at h
    · rename_i hst hf
      exact .inr (.inl ⟨hf, by simp [Entry.boundOn, hl, hst, Standing.isBound], (Option.some.inj h).symm⟩)
    · exact nomatch h
    · rename_i o hst
      exact .inr (.inr ⟨o, hst, hl, (Option.some.inj h).symm⟩)
    · rename_i hst
      exact .inl ⟨(Option.some.inj h).symm, fun _ => hst⟩
  · rename_i hl
    exact .inl ⟨(Option.some.inj h).symm, fun h => absurd h hl⟩

theorem unpoweredEntry_keepsIds (l : Line) : KeepsIds (unpoweredEntry l) := by
  intro x y hxy
  rcases unpoweredEntry_cases hxy with ⟨rfl, -⟩ | ⟨-, -, rfl⟩ | ⟨_, -, -, rfl⟩ <;> exact ⟨rfl, rfl⟩

theorem RosterLaw.map_of_mem {s t : State} (h : RosterLaw s) {f : Entry → Entry}
    (hf : ∀ x ∈ s.roster, (f x).serial = x.serial ∧ (f x).identity = x.identity) (hr : t.roster = s.roster.map f)
    (hn : t.nextSerial = s.nextSerial) : RosterLaw t := by
  refine h.map (f := fun x => if x ∈ s.roster then f x else x) (fun x => ?_) ?_ hn
  · split
    · exact hf x ‹_›
    · exact ⟨rfl, rfl⟩
  · rw [hr]
    exact List.map_congr_left fun x hx => (if_pos hx).symm

namespace EntryLaws

variable {s t : State}

theorem updNamed (h : EntryLaws s) (i : Ident) {f : Entry → Entry}
    (hf : ∀ x, (f x).serial = x.serial ∧ (f x).identity = x.identity)
    (hok : ∀ x ∈ s.roster, x.identity = i → EntryOk s.params.missLimit (f x)) : EntryLaws (s.updNamed i f) := by
  refine h.map (f := fun x => if x.identity = i then f x else x) (fun x => ?_) (fun x hx => ?_) rfl rfl rfl
  · split
    · exact hf x
    · exact ⟨rfl, rfl⟩
  · split
    · exact hok x hx ‹_›
    · exact h.2.2 x hx

theorem but (h : EntryLaws s) (es : List Entry) : But es s := ⟨h.1, h.2.1, fun e he => .inl (h.2.2 e he)⟩

theorem of_but (h : But [] s) : EntryLaws s :=
  ⟨h.1, h.2.1, fun e he => (h.2.2 e he).resolve_right fun ⟨hmem, _⟩ => nomatch hmem⟩

theorem But.of_eq {es : List Entry} (h : But es s) (hp : t.params = s.params) (hr : t.roster = s.roster)
    (hn : t.nextSerial = s.nextSerial) : But es t := by
  obtain ⟨hroster, hparams, hentries⟩ := h
  exact ⟨hroster.of_eq hr hn, hparams.congr hp, by rw [hr, hp]; exact hentries⟩

theorem countOut (h : EntryLaws s) {e : Entry} (he : e ∈ s.roster) : EntryLaws (s.countOut e) :=
  of_but ((h.but [e]).countOut he)

theorem map_of_mem (h : EntryLaws s) {f : Entry → Entry}
    (hf : ∀ x ∈ s.roster, (f x).serial = x.serial ∧ (f x).identity = x.identity)
    (hok : ∀ x ∈ s.roster, EntryOk s.params.missLimit (f x)) : EntryLaws { s with roster := s.roster.map f } := by
  refine ⟨h.1.map_of_mem hf rfl rfl, h.2.1, fun y hy => ?_⟩
  obtain ⟨x, hx, rfl⟩ := List.mem_map.mp hy
  exact hok x hx

/-- A new entry, BOUND or UNBOUND (R22). -/
theorem append (h : EntryLaws s) {l : Line} {i : Ident} {mem : Nat} {x : Standing} (hlen : s.roster.length < 256)
    (hi : s.lookup i = none) (hp : t.params = s.params) (hr : t.roster = s.roster ++ [newEntry s l i mem x])
    (hn : t.nextSerial = s.nextSerial + 1) : EntryLaws t := by
  have hpos := h.missLimit_pos
  obtain ⟨hroster, hparams, hentries⟩ := h
  refine ⟨hroster.append hlen (State.lookup_eq_none.mp hi) rfl hr hn, hparams.congr hp, fun e he => ?_⟩
  rw [hr] at he
  rw [hp]
  rcases List.mem_append.mp he with he | he
  · exact hentries e he
  · obtain rfl := List.mem_singleton.mp he
    exact ⟨Nat.zero_le _, fun _ => hpos, fun _ => ⟨rfl, rfl, rfl⟩⟩

theorem createEntry (h : EntryLaws s) {l : Line} {i : Ident} {mem : Nat} (hlen : s.roster.length < 256)
    (hi : s.lookup i = none) : EntryLaws (s.createEntry l i mem).1 := by
  unfold State.createEntry
  dsimp only
  split
  · rename_i a _ _
    refine h.append (l := l) (i := i) (mem := mem) (x := .bound a s.params.nodeLease) hlen hi ?_ ?_ ?_ <;>
      simp only [State.hushRemove, State.dropHead, State.modLine_params, State.modLine_roster, State.modLine_nextSerial]
  · exact h.append (t := { s with roster := s.roster ++ [_], nextSerial := s.nextSerial + 1 }) hlen hi rfl rfl rfl

/-- An entry that is found again (R23, R24): it is BOUND, or it was not BOUND and finds the pool empty. -/
theorem bindEntry (h : EntryLaws s) {e : Entry} (he : e ∈ s.roster) {l : Line} (mem : Nat)
    (event : Address → Nat → FindEvent) (hcan : e.standing.isBound = false ∨ (s.line l).pool ≠ []) :
    EntryLaws (s.bindEntry e l mem event).1 := by
  have hpos := h.missLimit_pos
  unfold State.bindEntry
  split
  · have hdropped : EntryLaws (s.dropHead l) := h.modLine l _
    refine EntryLaws.of_eq (s := (s.dropHead l).updEntry e.serial _) ?_ rfl rfl rfl
    refine hdropped.updEntry e.serial (fun x => ⟨rfl, rfl⟩) fun x _ _ => ?_
    exact ⟨Nat.min_le_left _ _, fun _ => by rw [State.dropHead, State.modLine_params]; exact hpos, fun hb => (nomatch hb)⟩
  · rename_i hpool
    have hnot := hcan.resolve_right fun hne => hne hpool
    refine h.updEntry e.serial (fun x => ⟨rfl, rfl⟩) fun x hx hxe => ?_
    obtain rfl := h.1.serial_inj hx he hxe
    obtain ⟨hret, -, hrest⟩ := h.2.2 x hx
    exact ⟨hret, fun hb => (nomatch hb), fun _ => hrest hnot⟩

theorem close (h : EntryLaws s) (tag : Tag) (o : CloseOutcome) (x : CloseResult) : EntryLaws (s.close tag o x) :=
  h.closeAll [report tag (.closed o x)]

theorem find (h : EntryLaws s) (l : Line) (i : Ident) (mem : Nat) : EntryLaws (s.find l i mem).1 := by
  unfold State.find
  split
  · rename_i hi
    split
    · exact h.createEntry ‹_› hi
    · exact h
  · rename_i e he
    obtain ⟨hmem, -⟩ := State.mem_of_lookup he
    split
    · split
      · split
        · exact ((h.modLine _ _).purge _ _).removeEntry e |>.close _ _ _
        · refine (h.modLine l _).bindEntry (by simpa [State.giveBack] using hmem) mem _ (.inr ?_)
          rw [State.line_modLine]
          simp
      · exact h
    · rename_i hnot
      have hfree := Standing.isBound_eq_false hnot
      obtain ⟨hroster, hserial, hparams⟩ := s.releaseHeld_roster e.line e.held
      have hreleased : EntryLaws (s.releaseHeld e.line e.held) := h.of_eq hparams hroster hserial
      dsimp only
      split <;> exact hreleased.bindEntry (hroster ▸ hmem) mem _ (.inl hfree)

theorem removal (h : EntryLaws s) (i : Ident) (tag : Tag) (b : Bool) : EntryLaws (s.removal i tag b) := by
  unfold State.removal
  split
  · split
    · split <;> exact ((h.modLine _ _).removeEntry _).close _ _ _
    · exact h
  · exact h

/-- What the sweep of a line leaves of its entries is legal (R31). -/
theorem lineDown (h : EntryLaws s) (l : Line) : EntryLaws (s.lineDown l) := by
  obtain ⟨hroster, hparams, hentries⟩ := h
  rw [State.lineDown_eq hroster]
  refine EntryLaws.closeAll (EntryLaws.setLine ?_ _ _) _
  have hdown : EntryLaws { s with roster := unpoweredRoster l s.roster } := by
    refine ⟨hroster.filterMap (unpoweredEntry_keepsIds l) rfl le_rfl, hparams, fun y hy => ?_⟩
    obtain ⟨x, hx, hxy⟩ := List.mem_filterMap.mp hy
    have hok := hentries x hx
    rcases unpoweredEntry_cases hxy with ⟨rfl, -⟩ | ⟨hf, -, rfl⟩ | ⟨o, hst, -, rfl⟩
    · exact hok
    · exact hok.lost hf none
    · exact ⟨hok.1, fun hb => (nomatch hb), fun _ => hok.2.2 (by rw [hst]; rfl)⟩
  exact hdown.map (f := fun x => { x with pendingTx := x.pendingTx - _ }) (fun x => ⟨rfl, rfl⟩)
    (fun x hx => (hdown.2.2 x hx).recorded (.less x _)) rfl rfl rfl

theorem expiryClaim (h : EntryLaws s) (l : Line) (r : QuarantineRec) : EntryLaws (s.expiryClaim l r) := by
  unfold State.expiryClaim
  split
  · refine h.updNamed _ (fun x => ?_) fun x hx _ => ?_
    · split <;> exact ⟨rfl, rfl⟩
    · have hok := h.2.2 x hx
      split
      · rename_i hc
        exact ⟨hok.1, fun hb => (nomatch hb), fun _ => hok.2.2 (by rw [hc.2]; rfl)⟩
      · exact hok
  · exact h

theorem expireDue (h : EntryLaws s) (l : Line) : EntryLaws (s.expireDue l) := by
  have hfold : ∀ (rs : List QuarantineRec) {u : State}, EntryLaws u →
      EntryLaws (rs.foldl (fun u r => u.expiryClaim l r) u) := by
    intro rs
    induction rs with
    | nil => exact fun hu => hu
    | cons r rs ih => exact fun hu => ih (hu.expiryClaim l r)
  exact hfold _ (h.modLine l _)

theorem setParam (h : EntryLaws s) (tag : Tag) {id v : Nat} (hadm : s.paramRefusal id v = none) :
    EntryLaws (s.setParam tag id v) := by
  obtain ⟨hroster, hparams, hentries⟩ := h
  have hlaw : ParamLaw (s.stored tag id v) := hparams.stored hadm
  rw [State.setParam_eq]
  split
  · rename_i hlow
    obtain ⟨rfl, hlt⟩ := hlow
    have hbut : But (overLimit (s.stored tag 2 v) v) (s.stored tag 2 v) := by
      refine ⟨hroster, hlaw, fun e he => ?_⟩
      obtain ⟨hret, hbound, hnot⟩ := hentries e he
      by_cases hover : e.standing.isBound = true ∧ v ≤ e.misses
      · exact .inr ⟨List.mem_filter.mpr ⟨he, by simpa using hover⟩, hover.1, hret⟩
      · exact .inl ⟨hret, fun hb => Nat.lt_of_not_le fun hle => hover ⟨hb, hle⟩, hnot⟩
    have hswept : But [] ((s.stored tag 2 v).limitSweep v) := limitSweep_keeps (P := But) (fun h => h.1)
      (fun h he => h.countOut he) (fun h k => h.of_eq k.params k.roster k.nextSerial) hbut
    exact (of_but hswept).of_eq (by simp) (by simp) (by simp)
  · rename_i hkept
    refine ⟨hroster, hlaw, fun e he => (hentries e he).mono ?_⟩
    exact missLimit_le_store hkept

theorem of_reset (hp : ParamLaw s) (hr : s.roster = []) : EntryLaws s :=
  ⟨by simp [RosterLaw, hr], hp, by rw [hr]; exact fun e he => (nomatch he)⟩

end EntryLaws

theorem EntryLaws.bookLaw : BookLaw EntryLaws where
  same h hs := h.of_eq hs.params hs.roster hs.nextSerial
  recorded h g hg := h.map_of_mem
    (fun x hx => by obtain ⟨n, o, heq, -⟩ := hg x hx; rw [heq]; exact ⟨rfl, rfl⟩)
    fun x hx => (h.2.2 x hx).recorded (hg x hx)
  heeded h n f hf := h.map_of_mem
    (fun x hx => by
      split
      · rcases hf x hx ‹_› with heq | ⟨-, m, a, c, heq, -⟩ <;> rw [heq] <;> exact ⟨rfl, rfl⟩
      · exact ⟨rfl, rfl⟩)
    fun x hx => by
      have hok := h.2.2 x hx
      split
      · rcases hf x hx ‹_› with heq | hheeded
        · rwa [heq]
        · exact hok.heeded h.missLimit_pos hheeded
      · exact hok
  countOut h e he := h.countOut he
  find h l i mem := h.find l i mem
  removal h i tag b := h.removal i tag b
  removeEntry h e _ _ := h.removeEntry e
  lineDown h l := h.lineDown l
  expireDue h l := h.expireDue l
  extend h l q _ := h.setLine l _
  setParam h tag _ _ hadm := h.setParam tag hadm
  serveReset h tag := .of_reset (.of_default rfl h.2.1.hostRate) rfl
  powerOn := .of_reset (.of_default (n := 2) rfl (by decide)) rfl
  rosterLaw h := h.1

end Sys2Proof.Machine

open Sys2Proof.Machine

/-- Settles O53: every claim on the roster leaves its entries legal, a lowered miss_limit after the entries at or above it
have been counted out. -/
theorem everyStepKeepsEntriesLegal : Obligations.EveryStepKeepsEntriesLegal :=
  EntryLaws.bookLaw.coreLaw.keptByEveryStep

end

section
/-! Where the addresses of a line stand (R42, R43, R19): the pool, the BOUND entries and the quarantine records, and how an
entry that takes, gives up or loses its address moves one of them. -/

namespace Sys2Proof.Machine

open Sys2Proof.Statements

/-- The address of an entry BOUND on a line. -/
def Entry.addressOn (l : Line) (e : Entry) : Option Address := if e.line = l then e.address else none

/-- The address and the origin of each quarantine record. -/
abbrev LineState.places (L : LineState) : List (Address × Option Ident) := L.quarantine.map QuarantineRec.place

/-- Each address of a line in exactly one place (R43), and each held address in quarantine for its entry (R19). -/
structure Placed (l : Line) (p : List Address) (es : List Entry) (q : List (Address × Option Ident)) : Prop where
  whole : (p ++ es.filterMap (Entry.addressOn l) ++ q.map Prod.fst).Perm (List.range' 1 240)
  held : ∀ e ∈ es, e.line = l → ∀ a ∈ e.held, (a, some e.identity) ∈ q

/-- An entry that neither holds nor keeps an address of the line. -/
def Entry.Apart (l : Line) (e : Entry) : Prop := e.line = l → e.standing = .unbound ∨ e.standing = .lost none

namespace Placed

variable {l : Line} {p : List Address} {es : List Entry} {q : List (Address × Option Ident)} {e : Entry} {a : Address}

theorem addressOn_of_bound {lease : Nat} (hl : e.line = l) (hb : e.standing = .bound a lease) :
    e.addressOn l = some a := by
  simp [Entry.addressOn, hl, Entry.address, hb]

theorem addressOn_of_apart (h : e.Apart l) : e.addressOn l = none := by
  unfold Entry.addressOn
  split
  · rcases h ‹_› with hs | hs <;> simp [Entry.address, hs]
  · rfl

theorem addressOn_of_held (h : a ∈ e.held) : e.addressOn l = none := by
  have hs : e.address = none := by
    cases hst : e.standing <;> simp [Entry.held, Entry.address, hst] at h ⊢
  simp [Entry.addressOn, hs]

theorem held_of_apart (h : e.Apart l) (hl : e.line = l) : e.held = none := by
  rcases h hl with hs | hs <;> simp [Entry.held, hs]

theorem perm (h : Placed l p es q) {es' : List Entry} (hes : es.Perm es') : Placed l p es' q :=
  ⟨(((hes.filterMap _).symm.append_left p).append_right _).trans h.whole, fun e he => h.held e (hes.mem_iff.mpr he)⟩

/-- Nothing but the order of the pool and of the records differs. -/
theorem congr (h : Placed l p es q) {p' : List Address} {q' : List (Address × Option Ident)} (hp : p'.Perm p)
    (hq : q'.Perm q) : Placed l p' es q' :=
  ⟨((hp.append_right _).append (hq.map _)).trans h.whole, fun e he hl a ha => hq.mem_iff.mpr (h.held e he hl a ha)⟩

/-- Entries that change other fields stand where they stood. -/
theorem map (h : Placed l p es q) {g : Entry → Entry}
    (hg : ∀ x ∈ es, (g x).line = x.line ∧ (g x).standing = x.standing ∧ (g x).identity = x.identity) :
    Placed l p (es.map g) q := by
  have hsame : (es.map g).filterMap (Entry.addressOn l) = es.filterMap (Entry.addressOn l) := by
    rw [List.filterMap_map]
    refine List.filterMap_congr fun x hx => ?_
    obtain ⟨hline, hst, -⟩ := hg x hx
    simp only [Function.comp, Entry.addressOn, Entry.address, hline, hst]
  refine ⟨by rw [hsame]; exact h.whole, fun y hy hl a ha => ?_⟩
  obtain ⟨x, hx, rfl⟩ := List.mem_map.mp hy
  obtain ⟨hline, hst, hid⟩ := hg x hx
  rw [hid]
  exact h.held x hx (hline.symm.trans hl) a (by rwa [Entry.held, hst] at ha)

theorem nodup (h : Placed l p es q) : (q.map Prod.fst).Nodup :=
  (List.sublist_append_right _ _).nodup (h.whole.nodup_iff.mpr List.nodup_range')

/-- An address names its record. -/
theorem eq_of_mem (h : Placed l p es q) {x y : Address × Option Ident} (hx : x ∈ q) (hy : y ∈ q) (hxy : x.1 = y.1) :
    x = y := List.inj_on_of_nodup_map h.nodup hx hy hxy

/-- An entry apart from the line joins or leaves. -/
theorem cons_apart (h : e.Apart l) : Placed l p (e :: es) q ↔ Placed l p es q := by
  have hwhole : (e :: es).filterMap (Entry.addressOn l) = es.filterMap (Entry.addressOn l) :=
    List.filterMap_cons_none (addressOn_of_apart h)
  constructor
  · exact fun hp => ⟨hwhole ▸ hp.whole, fun x hx => hp.held x (List.mem_cons_of_mem e hx)⟩
  · refine fun hp => ⟨hwhole ▸ hp.whole, fun x hx hl a ha => ?_⟩
    rcases List.mem_cons.mp hx with rfl | hx
    · rw [held_of_apart h hl] at ha
      exact nomatch ha
    · exact hp.held x hx hl a ha

/-- An entry takes the head of the pool (R44). -/
theorem bind (h : Placed l (a :: p) es q) {lease : Nat} (hl : e.line = l) (hb : e.standing = .bound a lease) :
    Placed l p (e :: es) q := by
  refine ⟨List.Perm.trans ?_ h.whole, fun x hx hxl b hbx => ?_⟩
  · rw [List.filterMap_cons_some (addressOn_of_bound hl hb)]
    exact (List.perm_middle.append_right _)
  · rcases List.mem_cons.mp hx with rfl | hx
    · rw [Entry.held, hb] at hbx
      exact nomatch hbx
    · exact h.held x hx hxl b hbx

/-- The address of a BOUND entry goes to the tail of the pool (R45). -/
theorem unbind (h : Placed l p (e :: es) q) {lease : Nat} (hl : e.line = l) (hb : e.standing = .bound a lease) :
    Placed l (p ++ [a]) es q := by
  refine ⟨List.Perm.trans ?_ h.whole, fun x hx => h.held x (List.mem_cons_of_mem e hx)⟩
  rw [List.filterMap_cons_some (addressOn_of_bound hl hb), List.append_assoc p]
  exact .rfl

/-- The address of a BOUND entry enters quarantine (R47). -/
theorem quarantine (h : Placed l p (e :: es) q) {lease : Nat} (hl : e.line = l) (hb : e.standing = .bound a lease)
    {o : Option Ident} {q' : List (Address × Option Ident)} (hq : q'.Perm ((a, o) :: q)) : Placed l p es q' := by
  refine ⟨List.Perm.trans ?_ h.whole, fun x hx hxl b hbx => ?_⟩
  · rw [List.filterMap_cons_some (addressOn_of_bound hl hb)]
    refine ((hq.map Prod.fst).append_left _).trans ?_
    refine List.Perm.trans ?_ (List.perm_middle.append_right _).symm
    exact List.perm_middle
  · exact hq.mem_iff.mpr (List.mem_cons_of_mem _ (h.held x (List.mem_cons_of_mem e hx) hxl b hbx))

/-- An entry whose held address stands in quarantine for it. -/
theorem lost (h : Placed l p es q) (hb : e.standing = .lost (some a)) (hq : (a, some e.identity) ∈ q) :
    Placed l p (e :: es) q := by
  have ha : a ∈ e.held := by simp [Entry.held, hb]
  refine ⟨?_, fun x hx hxl b hbx => ?_⟩
  · rw [List.filterMap_cons_none (addressOn_of_held ha)]
    exact h.whole
  · rcases List.mem_cons.mp hx with rfl | hx
    · rw [Entry.held, hb] at hbx
      exact Option.some.inj hbx ▸ hq
    · exact h.held x hx hxl b hbx

/-- A held address leaves quarantine early (R50). -/
theorem release (h : Placed l p (e :: es) q) (hl : e.line = l) (ha : a ∈ e.held)
    (hn : ∀ x ∈ es, x.identity ≠ e.identity) : Placed l (p ++ [a]) es (q.filter (·.1 != a)) := by
  have hmem := h.held e List.mem_cons_self hl a ha
  have hpart : q.filter (·.1 == a) = [(a, some e.identity)] := by
    refine List.perm_singleton.mp ((List.perm_ext_iff_of_nodup ?_ (List.nodup_singleton _)).mpr fun x => ?_)
    · exact h.nodup.of_map.filter _
    · rw [List.mem_filter, beq_iff_eq, List.mem_singleton]
      exact ⟨fun ⟨hx, hxa⟩ => h.eq_of_mem hx hmem hxa, fun hx => by rw [hx]; exact ⟨hmem, rfl⟩⟩
  have hperm : q.Perm ((a, some e.identity) :: q.filter (·.1 != a)) := by
    have hsplit := (List.filter_append_perm (fun x : Address × Option Ident => x.1 == a) q).symm
    rwa [hpart] at hsplit
  refine ⟨List.Perm.trans ?_ h.whole, fun x hx hxl b hb => ?_⟩
  · rw [List.filterMap_cons_none (addressOn_of_held ha)]
    refine List.Perm.trans ?_ ((hperm.map Prod.fst).append_left _).symm
    simp only [List.map_cons, List.append_assoc, List.cons_append, List.nil_append]
    exact List.perm_middle.symm.append_left p
  · have hxq := h.held x (List.mem_cons_of_mem e hx) hxl b hb
    refine List.mem_filter.mpr ⟨hxq, bne_iff_ne.mpr fun hba => hn x hx ?_⟩
    exact Option.some.inj (congrArg Prod.snd (h.eq_of_mem hxq hmem hba))

/-- The record of a held address loses its origin as the entry goes (R53). -/
theorem clear (h : Placed l p (e :: es) q) (hl : e.line = l) (ha : a ∈ e.held)
    (hn : ∀ x ∈ es, x.identity ≠ e.identity) :
    Placed l p es (q.map fun x => if a = x.1 then (x.1, none) else x) := by
  have hmem := h.held e List.mem_cons_self hl a ha
  refine ⟨?_, fun x hx hxl b hb => ?_⟩
  · have hfst : (q.map fun x => if a = x.1 then (x.1, none) else x).map Prod.fst = q.map Prod.fst := by
      rw [List.map_map]
      refine List.map_congr_left fun x _ => ?_
      simp only [Function.comp]
      split <;> rfl
    rw [hfst, ← List.filterMap_cons_none (l := es) (addressOn_of_held ha)]
    exact h.whole
  · have hxq := h.held x (List.mem_cons_of_mem e hx) hxl b hb
    refine List.mem_map.mpr ⟨_, hxq, if_neg fun hab => hn x hx ?_⟩
    exact Option.some.inj (congrArg Prod.snd (h.eq_of_mem hxq hmem hab.symm))

/-- What happens to entries of the other line. -/
theorem elsewhere (h : Placed l p es q) {f : Entry → Option Entry} (hsame : ∀ x ∈ es, x.line = l → f x = some x)
    (hline : ∀ x ∈ es, ∀ y, f x = some y → y.line = x.line) : Placed l p (es.filterMap f) q := by
  have hon : (es.filterMap f).filterMap (Entry.addressOn l) = es.filterMap (Entry.addressOn l) := by
    rw [List.filterMap_filterMap]
    refine List.filterMap_congr fun x hx => ?_
    by_cases hl : x.line = l
    · rw [hsame x hx hl, Option.bind_some]
    · rw [Entry.addressOn, if_neg hl]
      cases hf : f x with
      | none => rfl
      | some y => rw [Option.bind_some, Entry.addressOn, if_neg (hline x hx y hf ▸ hl)]
  refine ⟨hon ▸ h.whole, fun y hy hl a ha => ?_⟩
  obtain ⟨x, hx, hxy⟩ := List.mem_filterMap.mp hy
  have hxl : x.line = l := (hline x hx y hxy).symm.trans hl
  obtain rfl := Option.some.inj ((hsame x hx hxl).symm.trans hxy)
  exact h.held x hx hl a ha

/-- A line with all its addresses in the pool (R51). -/
theorem emptied (h : Placed l p es q) {p' : List Address} {es' : List Entry} (hes : ∀ e ∈ es', e.Apart l)
    (hp : p'.Perm (p ++ es.filterMap (Entry.addressOn l) ++ q.map Prod.fst)) : Placed l p' es' [] := by
  have hnone : es'.filterMap (Entry.addressOn l) = [] :=
    List.filterMap_eq_nil_iff.mpr fun e he => addressOn_of_apart (hes e he)
  refine ⟨?_, fun e he hl a ha => ?_⟩
  · rw [hnone, List.map_nil, List.append_nil, List.append_nil]
    exact hp.trans h.whole
  · rw [held_of_apart (hes e he) hl] at ha
    exact nomatch ha

end Placed

/-! ## Expiries (R32, R49) -/

/-- An entry when some records of its line have come to their expiry (R32). -/
def expiredFrom (l : Line) (rs : List QuarantineRec) (e : Entry) : Entry :=
  if e.line = l ∧ ∃ r ∈ rs, r.origin = some e.identity ∧ e.standing = .lost (some r.address) then
    { e with standing := .lost none }
  else e

theorem expiredFrom_cons (l : Line) (r : QuarantineRec) (rs : List QuarantineRec) (e : Entry) :
    expiredFrom l (r :: rs) e = expiredFrom l rs (expiredFrom l [r] e) := by
  unfold expiredFrom
  by_cases hr : e.line = l ∧ r.origin = some e.identity ∧ e.standing = .lost (some r.address)
  · obtain ⟨hl, ho, hst⟩ := hr
    simp [hl, ho, hst]
  · have hone : ¬(e.line = l ∧ ∃ x ∈ [r], x.origin = some e.identity ∧ e.standing = .lost (some x.address)) := by
      simpa using hr
    rw [if_neg hone]
    refine if_congr (and_congr_right fun hl => ?_) rfl rfl
    simp only [List.mem_cons, exists_eq_or_imp, or_iff_right_iff_imp]
    exact fun h => absurd ⟨hl, h⟩ hr

theorem State.expiryClaim_eq (s : State) (l : Line) (r : QuarantineRec) :
    s.expiryClaim l r = { s with roster := s.roster.map (expiredFrom l [r]) } := by
  unfold State.expiryClaim
  cases ho : r.origin with
  | none =>
    have hsame : s.roster.map (expiredFrom l [r]) = s.roster :=
      (List.map_congr_left fun e _ => if_neg (by simp [ho])).trans (List.map_id _)
    rw [hsame]
  | some i =>
    refine congrArg (fun es => ({ s with roster := es } : State)) (List.map_congr_left fun e _ => ?_)
    simp only [expiredFrom, ho, List.mem_singleton, exists_eq_left, Option.some.injEq]
    by_cases hi : e.identity = i
    · simp [hi]
    · simp [hi, Ne.symm hi]

/-- The expiry claims of several records at once. -/
theorem State.expiryClaim_foldl (s : State) (l : Line) (rs : List QuarantineRec) :
    rs.foldl (fun s r => s.expiryClaim l r) s = { s with roster := s.roster.map (expiredFrom l rs) } := by
  induction rs generalizing s with
  | nil =>
    have hsame : s.roster.map (expiredFrom l []) = s.roster :=
      (List.map_congr_left fun e _ => if_neg (by simp)).trans (List.map_id _)
    rw [hsame, List.foldl_nil]
  | cons r rs ih =>
    rw [List.foldl_cons, ih, State.expiryClaim_eq, List.map_map]
    exact congrArg (fun es => ({ s with roster := es } : State))
      (List.map_congr_left fun e _ => (expiredFrom_cons l r rs e).symm)

/-- The records of a line that are due (R49). -/
abbrev State.dueRecords (s : State) (l : Line) : List QuarantineRec :=
  (s.line l).quarantine.filter fun r => timeLeft s.clock r.expiry == 0

/-- The records that are due leave, their addresses go to the pool and their origins hold them no more (R49). -/
theorem State.expireDue_eq (s : State) (l : Line) :
    s.expireDue l = ({ s with roster := s.roster.map (expiredFrom l (s.dueRecords l)) } : State).setLine l
      { s.line l with
        quarantine := (s.line l).quarantine.filter fun r => timeLeft s.clock r.expiry != 0
        pool := (s.line l).pool ++ (s.dueRecords l).map (·.address) } := by
  unfold State.expireDue
  dsimp only
  rw [State.expiryClaim_foldl, State.modLine_roster, State.modLine_eq_setLine, State.setLine_with_roster]

/-- Records that are due leave for the pool (R49). -/
theorem Placed.expired {l : Line} {pool : List Address} {es : List Entry} {q : List QuarantineRec}
    (h : Placed l pool es (q.map QuarantineRec.place)) (p : QuarantineRec → Bool) :
    Placed l (pool ++ (q.filter p).map (·.address)) (es.map (expiredFrom l (q.filter p)))
      ((q.filter fun r => !p r).map QuarantineRec.place) := by
  have hon : (es.map (expiredFrom l (q.filter p))).filterMap (Entry.addressOn l) = es.filterMap (Entry.addressOn l) := by
    rw [List.filterMap_map]
    refine List.filterMap_congr fun x _ => ?_
    simp only [Function.comp, expiredFrom]
    split
    · rename_i hc
      obtain ⟨-, r, -, -, hst⟩ := hc
      simp [Entry.addressOn, Entry.address, hst]
    · rfl
  refine ⟨List.Perm.trans ?_ h.whole, fun y hy hl a ha => ?_⟩
  · have hsplit := (List.filter_append_perm p q).map (·.address)
    rw [hon, List.map_map, List.map_map]
    refine List.Perm.trans ?_ (hsplit.append_left _)
    rw [List.map_append]
    simp only [List.append_assoc]
    exact (List.perm_append_comm_assoc ..).append_left pool
  · obtain ⟨x, hx, rfl⟩ := List.mem_map.mp hy
    unfold expiredFrom at hl ha ⊢
    split at ha
    · exact nomatch ha
    · rename_i hc
      rw [if_neg hc] at hl ⊢
      obtain ⟨r, hr, hra⟩ := List.mem_map.mp (h.held x hx hl a ha)
      have haddr : r.address = a := congrArg Prod.fst hra
      have horigin : r.origin = some x.identity := congrArg Prod.snd hra
      refine List.mem_map.mpr ⟨r, List.mem_filter.mpr ⟨hr, ?_⟩, hra⟩
      rw [Bool.not_eq_true']
      refine Bool.eq_false_iff.mpr fun hp => hc ⟨hl, r, List.mem_filter.mpr ⟨hr, hp⟩, horigin, ?_⟩
      cases hst : x.standing with
      | lost o => rw [haddr]; rw [Entry.held, hst] at ha; exact congrArg _ ha
      | bound => rw [Entry.held, hst] at ha; exact nomatch ha
      | unbound => rw [Entry.held, hst] at ha; exact nomatch ha

end Sys2Proof.Machine
end

section
/-! The index law (R17, R18) by itself, kept by every claim. -/

namespace Sys2Proof.Machine

open Sys2Proof.Statements

theorem BookSame.rosterLaw {s t : State} (k : BookSame s t) (h : RosterLaw s) : RosterLaw t :=
  h.of_eq k.roster k.nextSerial

namespace RosterLaw

variable {s t : State}

theorem modLine (h : RosterLaw s) (l : Line) (f : LineState → LineState) : RosterLaw (s.modLine l f) :=
  h.of_eq (by simp) (by simp)

theorem closeAll (h : RosterLaw s) (rs : List Report) : RosterLaw (s.closeAll rs) := h.of_eq (by simp) (by simp)

theorem close (h : RosterLaw s) (tag : Tag) (o : CloseOutcome) (x : CloseResult) : RosterLaw (s.close tag o x) :=
  h.closeAll [report tag (.closed o x)]

theorem recorded (h : RosterLaw s) {g : Entry → Entry} (hg : ∀ x ∈ s.roster, Recorded x (g x)) :
    RosterLaw { s with roster := s.roster.map g } :=
  h.map_of_mem (fun x hx => by obtain ⟨n, o, heq, -⟩ := hg x hx; rw [heq]; exact ⟨rfl, rfl⟩) rfl rfl

/-- One entry changed, its serial and identity left. -/
theorem updEntry (h : RosterLaw s) (n : Nat) {f : Entry → Entry}
    (hf : ∀ x ∈ s.roster, x.serial = n → (f x).serial = x.serial ∧ (f x).identity = x.identity) :
    RosterLaw (s.updEntry n f) := by
  refine h.map_of_mem (f := fun x => if x.serial = n then f x else x) (fun x hx => ?_) rfl rfl
  split
  · exact hf x hx ‹_›
  · exact ⟨rfl, rfl⟩

theorem updNamed (h : RosterLaw s) (i : Ident) {f : Entry → Entry}
    (hf : ∀ x, (f x).serial = x.serial ∧ (f x).identity = x.identity) : RosterLaw (s.updNamed i f) := by
  refine h.map (f := fun x => if x.identity = i then f x else x) (fun x => ?_) rfl rfl
  split
  · exact hf x
  · exact ⟨rfl, rfl⟩

theorem purge (h : RosterLaw s) (l : Line) (i : Ident) : RosterLaw (s.purge l i) := by
  obtain ⟨hroster, hserial, -⟩ := s.purge_roster l i
  exact h.map (f := fun x => { x with pendingTx := x.pendingTx - _ }) (fun x => ⟨rfl, rfl⟩) hroster hserial

theorem removeEntry (h : RosterLaw s) (e : Entry) : RosterLaw (s.removeEntry e) := by
  obtain ⟨hroster, hserial, -⟩ := s.removeEntry_roster e
  exact h.filter hroster hserial

theorem createEntry (h : RosterLaw s) {l : Line} {i : Ident} {mem : Nat} (hlen : s.roster.length < 256)
    (hi : s.lookup i = none) : RosterLaw (s.createEntry l i mem).1 := by
  unfold State.createEntry
  dsimp only
  split
  · rename_i a _ _
    refine h.append (e := newEntry s l i mem (.bound a s.params.nodeLease)) hlen (State.lookup_eq_none.mp hi) rfl ?_ ?_ <;>
      simp only [State.hushRemove, State.dropHead, State.modLine_params, State.modLine_roster, State.modLine_nextSerial]
  · exact h.append hlen (State.lookup_eq_none.mp hi) rfl rfl rfl

theorem bindEntry (h : RosterLaw s) (e : Entry) (l : Line) (mem : Nat) (event : Address → Nat → FindEvent) :
    RosterLaw (s.bindEntry e l mem event).1 := by
  unfold State.bindEntry
  split
  · refine RosterLaw.of_eq (s := (s.dropHead l).updEntry e.serial _) ?_ rfl rfl
    exact (h.modLine l _).updEntry e.serial fun x _ _ => ⟨rfl, rfl⟩
  · exact h.updEntry e.serial fun x _ _ => ⟨rfl, rfl⟩

theorem find (h : RosterLaw s) (l : Line) (i : Ident) (mem : Nat) : RosterLaw (s.find l i mem).1 := by
  unfold State.find
  split
  · split
    · exact h.createEntry ‹_› ‹_›
    · exact h
  · rename_i e _
    split
    · split
      · split
        · exact (((h.modLine _ _).purge _ _).removeEntry _).close _ _ _
        · exact (h.modLine l _).bindEntry _ _ _ _
      · exact h
    · obtain ⟨hroster, hserial, -⟩ := s.releaseHeld_roster e.line e.held
      have hreleased : RosterLaw (s.releaseHeld e.line e.held) := h.of_eq hroster hserial
      dsimp only
      split <;> exact hreleased.bindEntry _ _ _ _

theorem removal (h : RosterLaw s) (i : Ident) (tag : Tag) (b : Bool) : RosterLaw (s.removal i tag b) := by
  unfold State.removal
  split
  · split
    · split <;> exact ((h.modLine _ _).removeEntry _).close _ _ _
    · exact h
  · exact h

theorem lineDown (h : RosterLaw s) (l : Line) : RosterLaw (s.lineDown l) := by
  rw [State.lineDown_eq h]
  have hdown : RosterLaw { s with roster := unpoweredRoster l s.roster } :=
    h.filterMap (unpoweredEntry_keepsIds l) rfl le_rfl
  have hless : RosterLaw { s with roster := lessPendingBy (s.line l).queue (unpoweredRoster l s.roster) } :=
    hdown.map (f := fun x => { x with pendingTx := x.pendingTx - _ }) (fun x => ⟨rfl, rfl⟩) rfl rfl
  exact closeAll (hless.of_eq (by simp) (by simp)) _

theorem expireDue (h : RosterLaw s) (l : Line) : RosterLaw (s.expireDue l) := by
  rw [State.expireDue_eq]
  refine h.map (fun x => ?_) (State.setLine_roster _ _ _) (State.setLine_nextSerial _ _ _)
  unfold expiredFrom
  split <;> exact ⟨rfl, rfl⟩

theorem limitSweep (h : RosterLaw s) (limit : Nat) : RosterLaw (s.limitSweep limit) :=
  limitSweep_keeps (P := fun _ => RosterLaw) (fun h => h) (fun h he => h.countOut he)
    (fun h k => h.of_eq k.roster k.nextSerial) h

theorem setParam (h : RosterLaw s) (tag : Tag) (id v : Nat) : RosterLaw (s.setParam tag id v) := by
  have hstored : RosterLaw (s.stored tag id v) := h
  rw [State.setParam_eq]
  split
  · exact (BookSame.settle _).rosterLaw (hstored.limitSweep v)
  · exact hstored

theorem of_nil (hr : s.roster = []) : RosterLaw s := by simp [RosterLaw, hr]

theorem heeded (h : RosterLaw s) (n : Nat) {f : Entry → Entry}
    (hf : ∀ x ∈ s.roster, x.serial = n → f x = x ∨ Heeded s.params.missLimit x (f x)) : RosterLaw (s.updEntry n f) :=
  h.updEntry n fun x hx hxn => by
    rcases hf x hx hxn with heq | ⟨-, m, a, c, heq, -⟩ <;> rw [heq] <;> exact ⟨rfl, rfl⟩

theorem bookLaw : BookLaw RosterLaw where
  same h hs := hs.rosterLaw h
  recorded h g hg := h.recorded hg
  heeded h n f hf := h.heeded n hf
  countOut h e he := h.countOut he
  find h l i mem := h.find l i mem
  removal h i tag b := h.removal i tag b
  removeEntry h e _ _ := h.removeEntry e
  lineDown h l := h.lineDown l
  expireDue h l := h.expireDue l
  extend h l q _ := h.of_eq (by simp) (by simp)
  setParam h tag id v _ := h.setParam tag id v
  serveReset h tag := .of_nil rfl
  powerOn := .of_nil rfl
  rosterLaw h := h

end RosterLaw

end Sys2Proof.Machine
end

section
/-! The address law (R42, R43) and the held address law (R19), kept by every claim and every step. -/

namespace Sys2Proof.Machine

open Sys2Proof.Statements

/-- The laws of O54. -/
def AddressLaws (s : State) : Prop := RosterLaw s ∧ ∀ l, Placed l (s.line l).pool s.roster (s.line l).places

/-- The laws while an entry, told by its serial, is between two places: its address, if it had one, is back in its pool or
in quarantine. -/
def AddressLaws.Beside (n : Nat) (s : State) : Prop :=
  RosterLaw s ∧ ∀ l, Placed l (s.line l).pool (s.roster.filter (·.serial != n)) (s.line l).places

theorem addressLaws_iff {s : State} :
    AddressLaws s ↔ RosterLaw s ∧ HeldLaw s ∧ OnBothLines AddressLaw s := by
  have hfst : ∀ l, (s.line l).places.map Prod.fst = (s.line l).quarantined := fun l => by
    rw [LineState.places, List.map_map]
    rfl
  rw [onBothLines_iff]
  refine and_congr_right fun _ => ⟨fun h => ⟨fun e he a ha => ?_, fun l => ?_⟩, fun ⟨hheld, hwhole⟩ l => ⟨?_, ?_⟩⟩
  · obtain ⟨r, hr, hra⟩ := List.mem_map.mp ((h e.line).held e he rfl a ha)
    exact ⟨r, hr, congrArg Prod.fst hra, congrArg Prod.snd hra⟩
  · have := (h l).whole
    rw [hfst] at this
    exact this
  · rw [hfst]
    exact hwhole l
  · rintro e he rfl a ha
    obtain ⟨r, hr, rfl, ho⟩ := hheld e he a ha
    exact List.mem_map.mpr ⟨r, hr, by rw [QuarantineRec.place, ho]⟩

/-- A roster and one of its entries apart. -/
theorem RosterLaw.roster_perm {s : State} (h : RosterLaw s) {e : Entry} (he : e ∈ s.roster) :
    s.roster.Perm (e :: s.roster.filter (·.serial != e.serial)) ∧
      (∀ x ∈ s.roster.filter (·.serial != e.serial), x.identity ≠ e.identity) ∧
      ∀ f : Entry → Entry, (s.roster.map fun x => if x.serial = e.serial then f x else x).Perm
        (f e :: s.roster.filter (·.serial != e.serial)) := by
  have hperm : s.roster.Perm (e :: s.roster.filter (·.serial != e.serial)) := by
    have hsplit := (List.filter_append_perm (fun x : Entry => x.serial == e.serial) s.roster).symm
    have hone : s.roster.filter (·.serial == e.serial) = [e] := by
      refine List.perm_singleton.mp ((List.perm_ext_iff_of_nodup ?_ (List.nodup_singleton _)).mpr fun x => ?_)
      · exact h.2.2.1.of_map.filter _
      · rw [List.mem_filter, beq_iff_eq, List.mem_singleton]
        exact ⟨fun ⟨hx, hxe⟩ => h.serial_inj hx he hxe, fun hx => by rw [hx]; exact ⟨he, rfl⟩⟩
    rwa [hone] at hsplit
  refine ⟨hperm, fun x hx => ?_, fun f => ?_⟩
  · rw [h.filter_serial he] at hx
    simpa using (List.mem_filter.mp hx).2
  · refine (hperm.map _).trans (.of_eq ?_)
    rw [List.map_cons, if_pos rfl]
    congr 1
    refine (List.map_congr_left fun x hx => if_neg ?_).trans (List.map_id _)
    simpa using (List.mem_filter.mp hx).2

theorem State.mem_purge {s : State} {e : Entry} (he : e ∈ s.roster) (l : Line) (i : Ident) :
    ∃ k, { e with pendingTx := k } ∈ (s.purge l i).roster := by
  obtain ⟨hroster, -⟩ := s.purge_roster l i
  rw [hroster]
  exact ⟨_, List.mem_map_of_mem he⟩

namespace AddressLaws

variable {s t : State}

theorem of_eq (h : AddressLaws s) (hr : t.roster = s.roster) (hn : t.nextSerial = s.nextSerial)
    (hp : ∀ l, (t.line l).pool = (s.line l).pool) (hq : ∀ l, (t.line l).quarantine = (s.line l).quarantine) :
    AddressLaws t :=
  ⟨h.1.of_eq hr hn, fun l => by rw [hr, hp, LineState.places, hq]; exact h.2 l⟩

theorem same (h : AddressLaws s) (hs : BookSame s t) : AddressLaws t :=
  h.of_eq hs.roster hs.nextSerial hs.pool hs.quarantine

/-- Entries that change, in the same place. -/
theorem map (h : AddressLaws s) {g : Entry → Entry}
    (hg : ∀ x ∈ s.roster, (g x).serial = x.serial ∧ (g x).identity = x.identity ∧ (g x).line = x.line ∧
      (g x).standing = x.standing) : AddressLaws { s with roster := s.roster.map g } := by
  refine ⟨h.1.map_of_mem (fun x hx => ⟨(hg x hx).1, (hg x hx).2.1⟩) rfl rfl, fun l => ?_⟩
  rw [State.line_with_roster]
  exact (h.2 l).map fun x hx => ⟨(hg x hx).2.2.1, (hg x hx).2.2.2, (hg x hx).2.1⟩

namespace Beside

variable {n : Nat}

theorem same (h : Beside n s) (hs : BookSame s t) : Beside n t :=
  ⟨hs.rosterLaw h.1, fun l => by rw [hs.roster, hs.pool, LineState.places, hs.quarantine]; exact h.2 l⟩

/-- The entry goes. -/
theorem gone (h : Beside n s) (hr : t.roster = s.roster.filter (·.serial != n)) (hn : t.nextSerial = s.nextSerial)
    (hp : ∀ l, (t.line l).pool = (s.line l).pool) (hq : ∀ l, (t.line l).quarantine = (s.line l).quarantine) :
    AddressLaws t :=
  ⟨h.1.filter hr hn, fun l => by rw [hr, hp, LineState.places, hq]; exact h.2 l⟩

/-- The other entries change, in the same place. -/
theorem map (h : Beside n s) {g : Entry → Entry}
    (hg : ∀ x ∈ s.roster, (g x).serial = x.serial ∧ (g x).identity = x.identity ∧ (g x).line = x.line ∧
      (g x).standing = x.standing) : Beside n { s with roster := s.roster.map g } := by
  refine ⟨h.1.map_of_mem (fun x hx => ⟨(hg x hx).1, (hg x hx).2.1⟩) rfl rfl, fun l => ?_⟩
  rw [State.line_with_roster, List.filter_map]
  have hsame : s.roster.filter ((fun x : Entry => x.serial != n) ∘ g) = s.roster.filter (·.serial != n) :=
    List.filter_congr fun x hx => by simp only [Function.comp, (hg x hx).1]
  rw [hsame]
  exact (h.2 l).map fun x hx => by
    have hx' := List.mem_of_mem_filter hx
    exact ⟨(hg x hx').2.2.1, (hg x hx').2.2.2, (hg x hx').2.1⟩

theorem purge (h : Beside n s) (l : Line) (i : Ident) : Beside n (s.purge l i) := by
  rw [State.purge_eq_closeAll]
  refine same (s := { s with roster := lessPendingBy ((s.line l).queue.filter (·.target == i)) s.roster }) ?_ ?_
  · exact h.map fun x _ => ⟨rfl, rfl, rfl, rfl⟩
  · refine .of_lineOnly (l := l) ⟨by simp, by simp, by simp, by simp, fun m hm => ?_⟩ ?_ ?_
    · rw [State.line_closeAll, State.line_setLine_of_ne _ hm]
    · rw [State.line_closeAll]; cases l <;> rfl
    · rw [State.line_closeAll]; cases l <;> rfl

/-- The entry takes its place again, changed. -/
theorem placed {e : Entry} (h : Beside e.serial s) (he : e ∈ s.roster) {f : Entry → Entry}
    (hf : (f e).serial = e.serial ∧ (f e).identity = e.identity)
    (hp : ∀ l, Placed l (t.line l).pool (f e :: s.roster.filter (·.serial != e.serial)) (t.line l).places)
    (hr : t.roster = (s.updEntry e.serial f).roster) (hn : t.nextSerial = s.nextSerial) : AddressLaws t := by
  obtain ⟨-, -, hperm⟩ := h.1.roster_perm he
  refine ⟨RosterLaw.of_eq (s := s.updEntry e.serial f) (h.1.updEntry e.serial fun x hx hxe => ?_) hr hn, fun l => ?_⟩
  · exact h.1.serial_inj hx he hxe ▸ hf
  · rw [hr]
    exact (hp l).perm (hperm f).symm

/-- The rest of a rebind or move: the entry takes the head of a pool, or it becomes UNBOUND (R23, R24). -/
theorem bindEntry {e : Entry} (h : Beside e.serial s) (he : e ∈ s.roster) (l : Line) (mem : Nat)
    (event : Address → Nat → FindEvent) : AddressLaws (s.bindEntry e l mem event).1 := by
  unfold State.bindEntry
  split
  · rename_i a rest hpool
    refine h.placed he (f := fun x => { x with
      line := l, standing := .bound a s.params.nodeLease, misses := 0, returns := min 255 (e.returns + 1),
      memorySize := mem, lastSeen := s.clock }) ⟨rfl, rfl⟩ (fun m => ?_) (by cases l <;> rfl) (by cases l <;> rfl)
    change Placed m ((s.dropHead l).line m).pool _ ((s.dropHead l).line m).places
    have hm := h.2 m
    by_cases hl : m = l
    · subst hl
      rw [hpool] at hm
      rw [State.dropHead, State.line_modLine, hpool]
      exact hm.bind rfl rfl
    · rw [State.dropHead, State.line_modLine_of_ne _ hl]
      exact (Placed.cons_apart fun hlm => absurd hlm.symm hl).mpr hm
  · exact h.placed he (f := fun x => { x with line := l, standing := .unbound, memorySize := mem, lastSeen := s.clock })
      ⟨rfl, rfl⟩ (fun m => (Placed.cons_apart fun _ => .inl rfl).mpr (h.2 m)) rfl rfl

/-- The entry is LOST with its address held in quarantine (R29). -/
theorem lost {e : Entry} (h : Beside e.serial s) (he : e ∈ s.roster) {a : Address} {f : Entry → Entry}
    (hq : (a, some e.identity) ∈ (s.line e.line).places)
    (hf : (f e).serial = e.serial ∧ (f e).identity = e.identity) (hl : (f e).line = e.line)
    (hst : (f e).standing = .lost (some a)) : AddressLaws (s.updEntry e.serial f) := by
  refine h.placed he hf (fun m => ?_) rfl rfl
  rw [show (s.updEntry e.serial f).line m = s.line m by cases m <;> rfl]
  by_cases hm : m = e.line
  · subst hm
    exact (h.2 _).lost hst (hf.2 ▸ hq)
  · exact (Placed.cons_apart fun hlm => absurd (hlm.symm.trans hl) hm).mpr (h.2 m)

end Beside

/-! ## An entry leaves its place -/

theorem perLine {p : Line → List Address} {q : Line → List (Address × Option Ident)} {es rest : List Entry} {e : Entry}
    (h : ∀ l, Placed l (p l) es (q l)) (hperm : es.Perm (e :: rest)) (m : Line) (hm : e.line ≠ m ∨ e.Apart m) :
    Placed m (p m) rest (q m) :=
  (Placed.cons_apart fun hl => hm.elim (fun hne => absurd hl hne) fun ha => ha hl).mp ((h m).perm hperm)

theorem giveBack (h : AddressLaws s) {e : Entry} (he : e ∈ s.roster) {a lease : Nat} (hb : e.standing = .bound a lease) :
    Beside e.serial (s.giveBack e.line [a]) := by
  obtain ⟨hperm, -⟩ := h.1.roster_perm he
  refine ⟨h.1.modLine _ _, fun m => ?_⟩
  rw [State.giveBack_eq, State.setLine_roster]
  by_cases hm : m = e.line
  · subst hm
    rw [State.line_setLine]
    exact ((h.2 _).perm hperm).unbind rfl hb
  · rw [State.line_setLine_of_ne _ hm]
    exact perLine h.2 hperm m (.inl (Ne.symm hm))

theorem quarantineAddress (h : AddressLaws s) {e : Entry} (he : e ∈ s.roster) {a lease : Nat}
    (hb : e.standing = .bound a lease) (o : Option Ident) :
    Beside e.serial (s.quarantineAddress e.line a lease o) ∧
      (a, o) ∈ ((s.quarantineAddress e.line a lease o).line e.line).places := by
  obtain ⟨hperm, -⟩ := h.1.roster_perm he
  obtain ⟨q, r, heq, hq, ha, ho, -⟩ := State.quarantineAddress_eq s e.line a lease o
  have hplaces : (q.map QuarantineRec.place).Perm ((a, o) :: (s.line e.line).places) := by
    refine (hq.map _).trans (.of_eq ?_)
    rw [List.map_cons, QuarantineRec.place, ha, ho]
  rw [heq]
  refine ⟨⟨h.1.of_eq (by simp) (by simp), fun m => ?_⟩, ?_⟩
  · rw [State.setLine_roster]
    by_cases hm : m = e.line
    · subst hm
      rw [State.line_setLine]
      exact ((h.2 _).perm hperm).quarantine rfl hb hplaces
    · rw [State.line_setLine_of_ne _ hm]
      exact perLine h.2 hperm m (.inl (Ne.symm hm))
  · rw [State.line_setLine]
    exact hplaces.mem_iff.mpr List.mem_cons_self

theorem releaseHeld (h : AddressLaws s) {e : Entry} (he : e ∈ s.roster) (hb : e.standing.isBound = false) :
    Beside e.serial (s.releaseHeld e.line e.held) := by
  obtain ⟨hperm, hrest, -⟩ := h.1.roster_perm he
  cases hh : e.held with
  | none =>
    have hapart : ∀ m, e.Apart m := fun m _ => by
      cases hst : e.standing <;> simp_all [Standing.isBound, Entry.held]
    exact ⟨h.1, fun m => perLine h.2 hperm m (.inr (hapart m))⟩
  | some a =>
    rw [State.releaseHeld, State.releaseEarly_eq]
    refine ⟨h.1.of_eq (by simp) (by simp), fun m => ?_⟩
    rw [State.setLine_roster]
    by_cases hm : m = e.line
    · subst hm
      rw [State.line_setLine]
      have hreleased := ((h.2 _).perm hperm).release rfl hh hrest
      rwa [LineState.places, List.filter_map] at hreleased
    · rw [State.line_setLine_of_ne _ hm]
      exact perLine h.2 hperm m (.inl (Ne.symm hm))

/-- An entry that is not BOUND is removed (R35, R53). -/
theorem removeEntry (h : AddressLaws s) {e : Entry} (he : e ∈ s.roster) (hb : e.standing.isBound = false) :
    AddressLaws (s.removeEntry e) := by
  obtain ⟨hperm, hrest, -⟩ := h.1.roster_perm he
  refine ⟨h.1.removeEntry e, fun m => ?_⟩
  rw [State.removeEntry_eq, State.setLine_roster]
  by_cases hm : m = e.line
  · subst hm
    rw [State.line_setLine]
    have hplaces : (s.line e.line).places.map (fun x => if e.held = some x.1 then (x.1, none) else x) =
        ((s.line e.line).quarantine.map fun r =>
          if e.held = some r.address then { r with origin := none } else r).map QuarantineRec.place := by
      rw [LineState.places, List.map_map, List.map_map]
      refine List.map_congr_left fun r _ => ?_
      simp only [Function.comp]
      by_cases hr : e.held = some r.address
      · rw [if_pos (show e.held = some r.place.1 from hr), if_pos hr]; rfl
      · rw [if_neg (show ¬e.held = some r.place.1 from hr), if_neg hr]
    rw [LineState.places, ← hplaces]
    cases hh : e.held with
    | none =>
      have hapart : e.Apart e.line := fun _ => by
        cases hst : e.standing <;> simp_all [Standing.isBound, Entry.held]
      simp only [reduceCtorEq, if_false, List.map_id']
      exact perLine h.2 hperm _ (.inr hapart)
    | some a =>
      simp only [Option.some.injEq]
      exact ((h.2 _).perm hperm).clear rfl hh hrest
  · rw [State.line_setLine_of_ne _ hm, State.line_with_roster]
    exact perLine h.2 hperm m (.inl (Ne.symm hm))

theorem close (h : AddressLaws s) (tag : Tag) (o : CloseOutcome) (x : CloseResult) : AddressLaws (s.close tag o x) :=
  h.same (.of_host (.closeAll s [report tag (.closed o x)]))

/-- A BOUND entry that has given up its address is removed. -/
theorem Beside.removeEntry {e : Entry} (h : Beside e.serial s) {a lease : Nat} (hb : e.standing = .bound a lease) :
    AddressLaws (s.removeEntry e) := by
  rw [State.removeEntry_of_bound _ hb]
  exact h.gone rfl rfl (fun l => by cases l <;> rfl) fun l => by cases l <;> rfl

/-! ## The claims -/

theorem countOut (h : AddressLaws s) {e : Entry} (he : e ∈ s.roster) : AddressLaws (s.countOut e) := by
  unfold State.countOut
  split
  · rename_i a lease hb
    split
    · obtain ⟨hbeside, hplace⟩ := h.quarantineAddress he hb (some e.identity)
      obtain ⟨k, hk⟩ := State.mem_purge (s := s.quarantineAddress e.line a lease (some e.identity)) (e := e)
        (by simpa [State.quarantineAddress] using he) e.line e.identity
      refine Beside.lost (e := { e with pendingTx := k }) (a := a) (hbeside.purge e.line e.identity) hk ?_
        ⟨rfl, rfl⟩ rfl rfl
      · rw [State.purge_eq_closeAll, State.line_closeAll, State.line_setLine]
        exact hplace
    · exact ((h.quarantineAddress he hb none).1.purge _ _).removeEntry hb |>.close _ _ _
  · exact h

theorem createEntry (h : AddressLaws s) {l : Line} {i : Ident} {mem : Nat} (hlen : s.roster.length < 256)
    (hi : s.lookup i = none) : AddressLaws (s.createEntry l i mem).1 := by
  refine ⟨h.1.createEntry hlen hi, fun m => ?_⟩
  have hm := h.2 m
  unfold State.createEntry
  dsimp only
  split
  · rename_i a rest hpool
    change Placed m ((s.dropHead l).line m).pool ((s.dropHead l).roster ++ [_]) ((s.dropHead l).line m).places
    refine Placed.perm ?_ (List.perm_append_singleton _ _).symm
    rw [State.dropHead, State.modLine_roster]
    by_cases hl : m = l
    · subst hl
      rw [hpool] at hm
      rw [State.line_modLine, hpool]
      exact hm.bind rfl rfl
    · rw [State.line_modLine_of_ne _ hl]
      exact (Placed.cons_apart fun hlm => absurd hlm.symm hl).mpr hm
  · change Placed m (s.line m).pool (s.roster ++ [_]) (s.line m).places
    exact ((Placed.cons_apart fun _ => .inl rfl).mpr hm).perm (List.perm_append_singleton _ _).symm

theorem find (h : AddressLaws s) (l : Line) (i : Ident) (mem : Nat) : AddressLaws (s.find l i mem).1 := by
  unfold State.find
  split
  · split
    · exact h.createEntry ‹_› ‹_›
    · exact h
  · rename_i e he
    obtain ⟨hmem, -⟩ := State.mem_of_lookup he
    split
    · rename_i a lease hb
      split
      · rename_i hl
        split
        · exact (((h.giveBack hmem hb).purge _ _).removeEntry hb).close _ _ _
        · refine Beside.bindEntry ?_ (by simpa [State.giveBack] using hmem) l mem _
          exact hl ▸ h.giveBack hmem hb
      · exact h
    · rename_i hnot
      have hbeside := h.releaseHeld hmem (Standing.isBound_eq_false hnot)
      obtain ⟨hroster, -⟩ := s.releaseHeld_roster e.line e.held
      dsimp only
      split <;> exact hbeside.bindEntry (hroster ▸ hmem) l mem _

theorem removal (h : AddressLaws s) (i : Ident) (tag : Tag) (b : Bool) : AddressLaws (s.removal i tag b) := by
  unfold State.removal
  split
  · rename_i e he
    obtain ⟨hmem, -⟩ := State.mem_of_lookup he
    split
    · rename_i a lease hb
      split
      · exact ((h.giveBack hmem hb).removeEntry hb).close _ _ _
      · exact ((h.quarantineAddress hmem hb none).1.removeEntry hb).close _ _ _
    · exact h
  · exact h

theorem lineDown (h : AddressLaws s) (l : Line) : AddressLaws (s.lineDown l) := by
  refine ⟨h.1.lineDown l, fun m => ?_⟩
  rw [State.lineDown_eq h.1, State.line_closeAll, State.closeAll_roster, State.setLine_roster]
  refine Placed.map (g := fun x => { x with pendingTx := x.pendingTx - _ }) ?_ fun x _ => ⟨rfl, rfl, rfl⟩
  by_cases hm : m = l
  · subst hm
    rw [State.line_setLine]
    refine (h.2 m).emptied (fun y hy _ => ?_) ?_
    · obtain ⟨x, hx, hxy⟩ := List.mem_filterMap.mp hy
      rcases unpoweredEntry_cases hxy with ⟨rfl, hun⟩ | ⟨-, -, rfl⟩ | ⟨_, -, -, rfl⟩
      · exact .inl (hun ‹_›)
      · exact .inr rfl
      · exact .inr rfl
    · rw [LineState.places, List.map_map]
      exact (ascending_perm _).append_left _
  · rw [State.line_setLine_of_ne _ hm, State.line_with_roster]
    refine (h.2 m).elsewhere (f := unpoweredEntry l) (fun x _ hx => ?_) fun x _ y hxy => ?_
    · exact if_neg fun hl => hm (hx.symm.trans hl)
    · rcases unpoweredEntry_cases hxy with ⟨rfl, -⟩ | ⟨-, -, rfl⟩ | ⟨_, -, -, rfl⟩ <;> rfl

theorem expireDue (h : AddressLaws s) (l : Line) : AddressLaws (s.expireDue l) := by
  refine ⟨h.1.expireDue l, fun m => ?_⟩
  rw [State.expireDue_eq, State.setLine_roster]
  by_cases hm : m = l
  · subst hm
    rw [State.line_setLine]
    exact (h.2 m).expired _
  · rw [State.line_setLine_of_ne _ hm, State.line_with_roster, ← List.filterMap_eq_map]
    refine (h.2 m).elsewhere (fun x _ hx => ?_) fun x _ y hxy => ?_
    · exact congrArg some (if_neg fun hc => hm (hx.symm.trans hc.1))
    · obtain rfl := Option.some.inj hxy
      simp only [expiredFrom]
      split <;> rfl

theorem limitSweep (h : AddressLaws s) (limit : Nat) : AddressLaws (s.limitSweep limit) :=
  limitSweep_keeps (P := fun _ => AddressLaws) (fun h => h.1) (fun h he => h.countOut he)
    (fun h k => h.same (.of_host k)) h

theorem setParam (h : AddressLaws s) (tag : Tag) (id v : Nat) : AddressLaws (s.setParam tag id v) := by
  have hstored : AddressLaws (s.stored tag id v) :=
    h.of_eq rfl rfl (fun l => by cases l <;> rfl) fun l => by cases l <;> rfl
  rw [State.setParam_eq]
  split
  · exact (hstored.limitSweep v).same (.settle _)
  · exact hstored

/-- At a reset every address is in its pool. -/
theorem of_reset (hr : s.roster = []) (hl : ∀ l, s.line l = .reset) : AddressLaws s := by
  refine ⟨.of_nil hr, fun l => ?_⟩
  rw [hl, hr]
  refine ⟨?_, fun e he => (nomatch he)⟩
  rw [LineState.reset, LineState.places, List.filterMap_nil, List.map_nil, List.map_nil, List.append_nil, List.append_nil]

theorem bookLaw : BookLaw AddressLaws where
  same h hs := h.same hs
  recorded h g hg := h.map fun x hx => by
    obtain ⟨n, o, heq, -⟩ := hg x hx
    rw [heq]
    exact ⟨rfl, rfl, rfl, rfl⟩
  heeded h n f hf := h.map (g := fun x => if x.serial = n then f x else x) fun x hx => by
    split
    · rcases hf x hx ‹_› with heq | ⟨-, m, a, c, heq, -⟩ <;> rw [heq] <;> exact ⟨rfl, rfl, rfl, rfl⟩
    · exact ⟨rfl, rfl, rfl, rfl⟩
  countOut h e he := h.countOut he
  find h l i mem := h.find l i mem
  removal h i tag b := h.removal i tag b
  removeEntry h e he hb := h.removeEntry he hb
  lineDown h l := h.lineDown l
  expireDue h l := h.expireDue l
  extend h l q hq := by
    refine ⟨h.1.of_eq (by simp) (by simp), fun m => ?_⟩
    rw [State.setLine_roster]
    by_cases hm : m = l
    · subst hm
      rw [State.line_setLine]
      exact (h.2 m).congr .rfl hq
    · rw [State.line_setLine_of_ne _ hm]
      exact h.2 m
  setParam h tag id v _ := h.setParam tag id v
  serveReset h tag := .of_reset rfl fun l => by cases l <;> rfl
  powerOn := .of_reset rfl fun l => by cases l <;> rfl
  rosterLaw h := h.1

end AddressLaws

end Sys2Proof.Machine

open Sys2Proof.Machine

/-- Settles O54: each claim moves an address from one place to another, and a held address enters and leaves quarantine
with the entry that holds it. -/
theorem everyStepKeepsAddressLaw : Obligations.EveryStepKeepsAddressLaw := by
  intro s t hs hstep
  exact addressLaws_iff.mp
    (AddressLaws.bookLaw.coreLaw.keptByEveryStep s t (addressLaws_iff.mpr hs) hstep)

end

section
/-! Lines without an address in use (R52, R137): no quarantine and no entry BOUND on them. Every claim but a find leaves such
lines so, and a line that goes down becomes one. -/

namespace Sys2Proof.Machine

open Sys2Proof.Statements

/-- The lines of a set hold no quarantine and no BOUND entry (R137). -/
def Bare (X : Line → Prop) (s : State) : Prop :=
  RosterLaw s ∧ ∀ l, X l → (s.line l).quarantine = [] ∧ ∀ e ∈ s.roster, e.boundOn l = false

theorem Entry.boundOn_of_bound {e : Entry} {a lease : Nat} (h : e.standing = .bound a lease) : e.boundOn e.line = true := by
  simp [Entry.boundOn, h, Standing.isBound]

namespace Bare

variable {X : Line → Prop} {s t : State}

/-- No entry becomes BOUND and nothing enters quarantine. -/
theorem of_le (h : Bare X s) (hr : RosterLaw t)
    (hb : ∀ y ∈ t.roster, ∀ l, X l → y.boundOn l = true → ∃ x ∈ s.roster, x.boundOn l = true)
    (hq : ∀ l, X l → (s.line l).quarantine = [] → (t.line l).quarantine = []) : Bare X t := by
  refine ⟨hr, fun l hl => ?_⟩
  obtain ⟨hquarantine, hbound⟩ := h.2 l hl
  refine ⟨hq l hl hquarantine, fun y hy => Bool.eq_false_iff.mpr fun hy' => ?_⟩
  obtain ⟨x, hx, hxb⟩ := hb y hy l hl hy'
  exact absurd (hbound x hx) (by rw [hxb]; decide)

theorem same (h : Bare X s) (k : BookSame s t) : Bare X t :=
  h.of_le (k.rosterLaw h.1) (fun y hy _ _ hb => ⟨y, k.roster ▸ hy, hb⟩) fun l _ hq => (k.quarantine l).trans hq

theorem map (h : Bare X s) {g : Entry → Entry} (hr : RosterLaw { s with roster := s.roster.map g })
    (hg : ∀ x ∈ s.roster, (g x).line = x.line ∧ (g x).standing = x.standing) :
    Bare X { s with roster := s.roster.map g } := by
  refine h.of_le hr (fun y hy l _ hb => ?_) fun l _ hq => by rwa [State.line_with_roster]
  obtain ⟨x, hx, rfl⟩ := List.mem_map.mp hy
  obtain ⟨hline, hst⟩ := hg x hx
  exact ⟨x, hx, by rwa [Entry.boundOn, hline, hst] at hb⟩

/-- A line with a BOUND entry is none of these. -/
theorem not_of_bound (h : Bare X s) {e : Entry} (he : e ∈ s.roster) {a lease : Nat} (hb : e.standing = .bound a lease) :
    ¬X e.line := fun hx =>
  absurd ((h.2 e.line hx).2 e he) (by rw [Entry.boundOn_of_bound hb]; decide)

theorem countOut (h : Bare X s) {e : Entry} (he : e ∈ s.roster) : Bare X (s.countOut e) := by
  cases hb : e.standing.isBound with
  | false => rwa [s.countOut_of_not_bound hb]
  | true =>
    obtain ⟨a, lease, hst⟩ := Standing.exists_of_isBound hb
    refine h.of_le (h.1.countOut he) ?_ ?_ <;> rw [State.countOut_of_bound h.1 he hst]
    · intro y hy l _ hyb
      simp only [State.closeAll_roster, State.setLine_roster] at hy
      rcases mem_countedOut h.1.2.1 he hy with ⟨hy, -⟩ | ⟨-, rfl⟩
      · exact ⟨y, hy, hyb⟩
      · simp [Entry.boundOn, Standing.isBound] at hyb
    · intro l hl hq
      have hne : l ≠ e.line := fun heq => h.not_of_bound he hst (heq ▸ hl)
      rwa [State.line_closeAll, State.line_setLine_of_ne _ hne, State.line_with_roster]

theorem close (h : Bare X s) (tag : Tag) (o : CloseOutcome) (x : CloseResult) : Bare X (s.close tag o x) :=
  h.same (.of_host (.closeAll s [report tag (.closed o x)]))

theorem removeEntry (h : Bare X s) (e : Entry) : Bare X (s.removeEntry e) := by
  refine h.of_le (h.1.removeEntry e) ?_ ?_ <;> rw [State.removeEntry_eq]
  · intro y hy l _ hyb
    rw [State.setLine_roster] at hy
    exact ⟨y, List.mem_of_mem_filter hy, hyb⟩
  · intro l _ hq
    by_cases hl : l = e.line
    · subst hl
      rw [State.line_setLine, hq, List.map_nil]
    · rwa [State.line_setLine_of_ne _ hl, State.line_with_roster]

/-- The pools are of no matter. -/
theorem modLine (h : Bare X s) (l : Line) {f : LineState → LineState}
    (hf : (s.line l).quarantine = [] → (f (s.line l)).quarantine = []) : Bare X (s.modLine l f) := by
  refine h.of_le (h.1.modLine l f) (fun y hy m _ hb => ⟨y, by simpa using hy, hb⟩) fun m _ hq => ?_
  by_cases hm : m = l
  · subst hm
    rw [State.line_modLine]
    exact hf hq
  · rwa [State.line_modLine_of_ne _ hm]

theorem giveBack (h : Bare X s) (l : Line) (addrs : List Address) : Bare X (s.giveBack l addrs) :=
  h.modLine l fun hq => hq

theorem purge (h : Bare X s) (l : Line) (i : Ident) : Bare X (s.purge l i) := by
  obtain ⟨hroster, -⟩ := s.purge_roster l i
  refine h.of_le (h.1.purge l i) (fun y hy m _ hb => ?_) fun m _ hq => ?_
  · rw [hroster] at hy
    obtain ⟨x, hx, rfl⟩ := List.mem_map.mp hy
    exact ⟨x, hx, hb⟩
  · rw [State.purge_eq_closeAll, State.line_closeAll]
    by_cases hm : m = l
    · subst hm
      rw [State.line_setLine]
      exact hq
    · rwa [State.line_setLine_of_ne _ hm, State.line_with_roster]

theorem removal (h : Bare X s) (i : Ident) (tag : Tag) (b : Bool) : Bare X (s.removal i tag b) := by
  unfold State.removal
  split
  · rename_i e he
    obtain ⟨hmem, -⟩ := State.mem_of_lookup he
    split
    · rename_i a lease hb
      split
      · exact ((h.giveBack e.line [a]).removeEntry e).close _ _ _
      · have hquarantined : Bare X (s.quarantineAddress e.line a lease none) := by
          refine h.of_le (h.1.modLine _ _) (fun y hy l _ hyb => ⟨y, ?_, hyb⟩) fun l hl hq => ?_
          · simpa [State.quarantineAddress] using hy
          · have hne : l ≠ e.line := fun heq => h.not_of_bound hmem hb (heq ▸ hl)
            rwa [State.quarantineAddress, State.line_modLine_of_ne _ hne]
        exact (hquarantined.removeEntry e).close _ _ _
    · exact h
  · exact h

/-- The entries that the sweep of a line leaves: none BOUND there, and no more than before on the other (R31). -/
theorem boundOn_unpowered {l m : Line} {es : List Entry} {y : Entry} (hy : y ∈ unpoweredRoster l es)
    (hb : y.boundOn m = true) : m ≠ l ∧ y ∈ es := by
  obtain ⟨x, hx, hxy⟩ := List.mem_filterMap.mp hy
  have hyl : y.line = m := by
    simp only [Entry.boundOn, Bool.and_eq_true, beq_iff_eq] at hb
    exact hb.1
  rcases unpoweredEntry_cases hxy with ⟨rfl, hun⟩ | ⟨-, -, rfl⟩ | ⟨_, -, -, rfl⟩
  · refine ⟨fun hml => ?_, hx⟩
    simp [Entry.boundOn, hun (hyl.trans hml), Standing.isBound] at hb
  · simp [Entry.boundOn, Standing.isBound] at hb
  · simp [Entry.boundOn, Standing.isBound] at hb

theorem mem_lineDown_roster {l m : Line} (hr : RosterLaw s) {y : Entry} (hy : y ∈ (s.lineDown l).roster)
    (hb : y.boundOn m = true) : m ≠ l ∧ ∃ x ∈ s.roster, x.boundOn m = true := by
  rw [State.lineDown_eq hr, State.closeAll_roster, State.setLine_roster] at hy
  obtain ⟨x, hx, rfl⟩ := List.mem_map.mp hy
  obtain ⟨hne, hmem⟩ := boundOn_unpowered hx hb
  exact ⟨hne, x, hmem, hb⟩

/-- A line that goes down becomes one without addresses in use (R31, R51). -/
theorem lineDown (h : Bare X s) (l : Line) : Bare (fun m => X m ∨ m = l) (s.lineDown l) := by
  refine ⟨h.1.lineDown l, fun m hm => ⟨?_, fun y hy => Bool.eq_false_iff.mpr fun hb => ?_⟩⟩
  · rw [State.lineDown_eq h.1, State.line_closeAll]
    by_cases hml : m = l
    · subst hml
      rw [State.line_setLine]
    · rw [State.line_setLine_of_ne _ hml, State.line_with_roster]
      exact (h.2 m (hm.resolve_right hml)).1
  · obtain ⟨hne, x, hx, hxb⟩ := mem_lineDown_roster h.1 hy hb
    exact absurd ((h.2 m (hm.resolve_right hne)).2 x hx) (by rw [hxb]; decide)

theorem mono {Y : Line → Prop} (h : Bare X s) (hxy : ∀ l, Y l → X l) : Bare Y s := ⟨h.1, fun l hl => h.2 l (hxy l hl)⟩

theorem expireDue (h : Bare X s) (l : Line) : Bare X (s.expireDue l) := by
  refine h.of_le (h.1.expireDue l) ?_ ?_ <;> rw [State.expireDue_eq]
  · intro y hy m _ hb
    rw [State.setLine_roster] at hy
    obtain ⟨x, hx, rfl⟩ := List.mem_map.mp hy
    refine ⟨x, hx, ?_⟩
    unfold expiredFrom at hb
    split at hb
    · simp [Entry.boundOn, Standing.isBound] at hb
    · exact hb
  · intro m _ hq
    by_cases hm : m = l
    · subst hm
      rw [State.line_setLine, hq, List.filter_nil]
    · rwa [State.line_setLine_of_ne _ hm, State.line_with_roster]

theorem setParam (h : Bare X s) (tag : Tag) (id v : Nat) : Bare X (s.setParam tag id v) := by
  have hstored : Bare X (s.stored tag id v) := h.of_le h.1 (fun y hy _ _ hb => ⟨y, hy, hb⟩) fun l _ hq => by cases l <;> exact hq
  rw [State.setParam_eq]
  split
  · exact (limitSweep_keeps (P := fun _ => Bare X) (fun h => h.1) (fun h he => h.countOut he)
      (fun h k => h.same (.of_host k)) hstored).same (.settle _)
  · exact hstored

theorem of_reset (hr : s.roster = []) (hl : ∀ l, s.line l = .reset) : Bare X s :=
  ⟨.of_nil hr, fun l _ => ⟨by rw [hl]; rfl, by rw [hr]; exact fun e he => (nomatch he)⟩⟩

theorem bookClaims (X : Line → Prop) : BookClaims (Bare X) where
  same h hs := h.same hs
  recorded h g hg := h.map (h.1.recorded hg) fun x hx => by
    obtain ⟨n, o, heq, -⟩ := hg x hx
    rw [heq]
    exact ⟨rfl, rfl⟩
  heeded h n f hf := h.map (g := fun x => if x.serial = n then f x else x) (h.1.heeded n hf) fun x hx => by
    split
    · rcases hf x hx ‹_› with heq | ⟨-, m, a, c, heq, -⟩ <;> rw [heq] <;> exact ⟨rfl, rfl⟩
    · exact ⟨rfl, rfl⟩
  countOut h e he := h.countOut he
  removal h i tag b := h.removal i tag b
  removeEntry h e _ _ := h.removeEntry e
  lineDown h l := (h.lineDown l).mono fun _ hx => .inl hx
  expireDue h l := h.expireDue l
  extend h l q hq := by
    refine h.of_le (h.1.of_eq (by simp) (by simp)) (fun y hy m _ hb => ⟨y, by simpa using hy, hb⟩) fun m _ hm => ?_
    by_cases hml : m = l
    · subst hml
      rw [hm, List.map_nil] at hq
      rw [State.line_setLine]
      exact List.map_eq_nil_iff.mp (List.perm_nil.mp hq)
    · rwa [State.line_setLine_of_ne _ hml]
  setParam h tag id v _ := h.setParam tag id v
  serveReset h tag := .of_reset rfl fun l => by cases l <;> rfl
  powerOn := .of_reset rfl fun l => by cases l <;> rfl
  rosterLaw h := h.1

theorem createEntry (h : Bare X s) {l : Line} (hl : ¬X l) {i : Ident} (mem : Nat) (hlen : s.roster.length < 256)
    (hi : s.lookup i = none) : Bare X (s.createEntry l i mem).1 := by
  have hnew : ∀ {es : List Entry} (x : Standing), es = s.roster ++ [newEntry s l i mem x] → ∀ y ∈ es, ∀ m, X m →
      y.boundOn m = true → ∃ z ∈ s.roster, z.boundOn m = true := by
    rintro _ x rfl y hy m hm hb
    rcases List.mem_append.mp hy with hy | hy
    · exact ⟨y, hy, hb⟩
    · obtain rfl := List.mem_singleton.mp hy
      simp only [Entry.boundOn, Bool.and_eq_true, beq_iff_eq] at hb
      exact absurd (hb.1 ▸ hm) hl
  refine h.of_le (h.1.createEntry hlen hi) ?_ fun m hm hq => ?_
  · unfold State.createEntry
    dsimp only
    split
    · rename_i a _ _
      refine hnew (.bound a s.params.nodeLease) ?_
      simp only [State.hushRemove, State.dropHead, State.modLine_roster, State.modLine_nextSerial]
    · exact hnew _ rfl
  · unfold State.createEntry
    dsimp only
    have hne : m ≠ l := fun heq => hl (heq ▸ hm)
    split
    · change ((s.dropHead l).line m).quarantine = []
      rwa [State.dropHead, State.line_modLine_of_ne _ hne]
    · change (s.line m).quarantine = []
      exact hq

theorem bindEntry (h : Bare X s) {e : Entry} {l : Line} (hl : ¬X l) (mem : Nat) (event : Address → Nat → FindEvent) :
    Bare X (s.bindEntry e l mem event).1 := by
  have hupd : ∀ {f : Entry → Entry}, (∀ x, (f x).line = l) → ∀ y ∈ (s.updEntry e.serial f).roster, ∀ m, X m →
      y.boundOn m = true → ∃ z ∈ s.roster, z.boundOn m = true := by
    intro f hf y hy m hm hb
    obtain ⟨x, hx, rfl⟩ := List.mem_map.mp hy
    split at hb
    · simp only [Entry.boundOn, Bool.and_eq_true, beq_iff_eq, hf] at hb
      exact absurd (hb.1 ▸ hm) hl
    · exact ⟨x, hx, hb⟩
  refine h.of_le (h.1.bindEntry e l mem event) ?_ fun m hm hq => ?_
  · unfold State.bindEntry
    split
    · simp only [State.hushRemove, State.updEntry, State.dropHead, State.modLine_roster]
      exact hupd fun _ => rfl
    · exact hupd fun _ => rfl
  · unfold State.bindEntry
    have hne : m ≠ l := fun heq => hl (heq ▸ hm)
    split
    · change ((s.dropHead l).line m).quarantine = []
      rwa [State.dropHead, State.line_modLine_of_ne _ hne]
    · exact (State.line_updEntry ..).symm ▸ hq

/-- A find of a line that may have BOUND entries. -/
theorem find (h : Bare X s) {l : Line} (hl : ¬X l) (i : Ident) (mem : Nat) : Bare X (s.find l i mem).1 := by
  unfold State.find
  split
  · split
    · exact h.createEntry hl mem ‹_› ‹_›
    · exact h
  · rename_i e _
    split
    · split
      · split
        · exact (((h.giveBack _ _).purge _ _).removeEntry _).close _ _ _
        · exact (h.giveBack _ _).bindEntry hl _ _
      · exact h
    · have hreleased : Bare X (s.releaseHeld e.line e.held) := by
        cases e.held with
        | none => exact h
        | some a => exact h.modLine _ fun hq => by rw [hq]; rfl
      dsimp only
      split <;> exact hreleased.bindEntry hl _ _

end Bare

end Sys2Proof.Machine
end

section
/-! The supervisor's side of a line (R127, R128, R130, R134, R137): what its fields agree in, and that a line that is not UP
holds no work; kept by claims, by settling and by the end of an operation. -/

namespace Sys2Proof.Machine

open Sys2Proof.Statements

/-! ## Claims that touch queues and censuses -/

/-- Two states of a line that differ in addresses, counters, records and census; an empty queue stays empty and a line
without a census stays so. -/
def LineState.WorkedTo (L M : LineState) : Prop :=
  ∃ pool quarantine n queue counters census, M = { L with
    pool := pool, quarantine := quarantine, nextSeq := n, queue := queue, counters := counters, census := census } ∧
      (L.queue = [] → queue = []) ∧ (L.census = none → census = none)

theorem LineState.WorkedTo.refl (L : LineState) : L.WorkedTo L := ⟨_, _, _, _, _, _, rfl, id, id⟩

theorem LineState.WorkedTo.trans {L M N : LineState} (h : L.WorkedTo M) (k : M.WorkedTo N) : L.WorkedTo N := by
  obtain ⟨_, _, _, _, _, _, rfl, hq, hc⟩ := h
  obtain ⟨_, _, _, _, _, _, rfl, kq, kc⟩ := k
  exact ⟨_, _, _, _, _, _, rfl, fun h => kq (hq h), fun h => kc (hc h)⟩

theorem LineState.ClaimedTo.workedTo {L M : LineState} (h : L.ClaimedTo M) : L.WorkedTo M := by
  obtain ⟨_, _, _, _, _, rfl, hq⟩ := h
  exact ⟨_, _, _, _, _, L.census, rfl, fun h => List.sublist_nil.mp (h ▸ hq), id⟩

/-- Every line is one that claims have worked on. -/
def Worked (s t : State) : Prop := ∀ l, (s.line l).WorkedTo (t.line l)

namespace Worked

variable {s t u : State}

theorem refl (s : State) : Worked s s := fun _ => .refl _

theorem trans (h : Worked s t) (k : Worked t u) : Worked s u := fun l => (h l).trans (k l)

theorem claimed (h : Worked s t) (k : Claimed t u) : Worked s u := h.trans fun l => (k.line l).workedTo

theorem power (h : Worked s t) (l : Line) : (t.line l).power = (s.line l).power := by
  obtain ⟨_, _, _, _, _, _, heq, -⟩ := h l
  rw [heq]

theorem op (h : Worked s t) (l : Line) : (t.line l).op = (s.line l).op := by
  obtain ⟨_, _, _, _, _, _, heq, -⟩ := h l
  rw [heq]

theorem modLine (h : Worked s t) {l : Line} {f : LineState → LineState} (hf : (t.line l).WorkedTo (f (t.line l))) :
    Worked s (t.modLine l f) := by
  refine h.trans fun m => ?_
  by_cases hm : m = l
  · subst hm; rwa [State.line_modLine]
  · rw [State.line_modLine_of_ne _ hm]; exact .refl _

theorem setQueue (h : Worked s t) (l : Line) {q : List Txn} (hq : (t.line l).queue = [] → q = []) :
    Worked s (t.setQueue l q) := h.modLine ⟨_, _, _, _, _, _, rfl, hq, id⟩

theorem censusOnly (h : Worked s t) {l : Line} (k : CensusOnly t u l)
    (hc : (t.line l).census = none → (u.line l).census = none) : Worked s u := by
  refine h.trans fun m => ?_
  obtain ⟨honly, c, heq⟩ := k
  by_cases hm : m = l
  · subst hm
    rw [heq] at hc ⊢
    exact ⟨_, _, _, _, _, c, rfl, id, hc⟩
  · rw [honly.other m hm]; exact .refl _

theorem haltRequest (h : Worked s t) (m : Halt) (r : Req) : Worked s (t.haltRequest m r) := by
  unfold State.haltRequest
  split
  · unfold State.haltCensus
    split
    · split
      · exact h
      · split
        · refine claimed (h.modLine ⟨_, _, _, _, _, _, rfl, id, fun hc => ?_⟩) ((Claimed.refl _).setReqState _ _)
          simp [hc]
        · refine h.censusOnly (.closeCensus t r.line _) fun _ => ?_
          rw [(t.closeCensus_line r.line _).1]
    · exact h
  iterate 2
    · unfold State.haltTxn
      split
      · exact h
      · split
        · exact (h.setQueue _ fun hq => by rw [hq]; rfl).claimed ((Claimed.refl _).setReqState _ _)
        · exact (h.setQueue _ fun hq => by rw [hq]; rfl).claimed ((Claimed.refl _).closeTxn _ _ _ _)
  · unfold State.haltForget
    split
    · exact (h.setQueue _ fun hq => by rw [hq]; rfl).claimed (((Claimed.refl _).updNamed _ _).close _ _ _)
    · exact h
  · exact h

theorem haltAll (h : Worked s t) (m : Halt) (qs : List Req) : Worked s (qs.foldl (fun u r => u.haltRequest m r) t) := by
  induction qs generalizing t with
  | nil => exact h
  | cons q qs ih => exact ih (h.haltRequest m q)

theorem attemptHeard (s : State) (l : Line) (w : WindowClass) : Worked s (s.attemptHeard l w) := by
  have hc := (refl s).claimed ((Claimed.refl s).countWindow l w)
  rcases attemptHeard_cases s l w with ⟨heq, -⟩ | ⟨r, rest, hq, -, heq⟩
  · exact heq ▸ hc
  · have hqueue : ((s.countWindow l w).line l).queue = r :: rest := by
      rw [State.countWindow_eq, State.line_setLine]
      exact hq
    rw [heq]
    obtain ⟨v, n, hv, ⟨h, -⟩ | ⟨o, bs, c, h⟩ | h⟩ := attemptJudged_cases (s.countWindow l w) l r rest w <;> rw [h] <;>
      obtain ⟨⟨k, hline⟩, -⟩ := hv.line <;>
      have hnil : (v.line l).queue ≠ [] := by rw [hline, hqueue]; exact List.cons_ne_nil _ _
    · exact (hc.claimed hv.claimed).setQueue l fun hn => absurd hn hnil
    · exact ((hc.claimed hv.claimed).setQueue l fun hn => absurd hn hnil).claimed ((Claimed.refl _).closeTxn _ _ _ _)
    · exact ((hc.claimed hv.claimed).setQueue l fun hn => absurd hn hnil).claimed
        (((Claimed.refl _).closeTxn _ _ _ _).missNamed _ _)

theorem releaseHeard (s : State) (l : Line) (w : WindowClass) : Worked s (s.releaseHeard l w) := by
  have hc := (refl s).claimed ((Claimed.refl s).countWindow l w)
  rcases releaseHeard_cases s l w with ⟨heq, -⟩ | ⟨r, rest, hq, -, heq⟩
  · exact heq ▸ hc
  · have hv := hc.claimed ((Claimed.refl _).countMismatch l (mismatch w r.target))
    have hnil : (((s.countWindow l w).countMismatch l (mismatch w r.target)).line l).queue ≠ [] := by
      rw [State.countMismatch_eq, State.countWindow_eq, State.line_setLine, State.line_setLine, hq]
      exact List.cons_ne_nil _ _
    rw [heq]
    obtain ⟨h, -⟩ | ⟨b, h⟩ := releaseJudged_cases (s.countWindow l w) l r rest w <;> rw [h]
    · exact hv.setQueue l fun hn => absurd hn hnil
    · exact (hv.setQueue l fun hn => absurd hn hnil).claimed ((Claimed.refl _).removal _ _ _)

end Worked

@[simp] theorem State.line_passTo (s : State) (x : Clock) (l : Line) : (s.passTo x).line l = s.line l := by
  cases l <;> rfl

/-! ## A grant -/

/-- What a grant brings to its line: an operation of the contender's kind; and nothing that waits stops waiting but the
contender itself. -/
theorem begun_frame {s u : State} {l : Line} {c : Contender} (h : s.beginFor l c = some u) :
    ∃ q p z o, LineOnly s u l ∧ u.line l = { s.line l with queue := q, poll := p, census := z, op := some o } ∧
      q.isEmpty = (s.line l).queue.isEmpty ∧ p.isSome = (s.line l).poll.isSome ∧
      z.isSome = (s.line l).census.isSome ∧ (c ≠ .scheduler → p = (s.line l).poll) ∧
      o.isAttempt = decide (c = .executor) ∧ o.isPoll = decide (c = .scheduler) ∧
      o.isSlot = decide (c = .sequencer) := by
  cases c with
  | executor =>
    obtain ⟨r, rest, e, a, hq, -, -, rfl⟩ := beginAttempt_cases h
    refine ⟨{ r with attempts := r.attempts + 1, inFlight := true } :: rest, (s.line l).poll, (s.line l).census,
      ⟨.attempt, r.call a s.params.hushTime, false⟩,
      (((LineOnly.setLine s l _).trans (.setLine _ l _)).trans ((HostOnly.setReqState _ _ _).lineOnly l)),
      ?_, by rw [hq]; rfl, rfl, rfl, fun _ => rfl, rfl, rfl, rfl⟩
    cases l <;> rfl
  | scheduler =>
    obtain ⟨c, n, rest, e, a, hp, -, -, -, rfl⟩ := beginPoll_cases h
    refine ⟨(s.line l).queue, some { c with remaining := rest }, (s.line l).census,
      ⟨.poll n e.identity, .poll a, false⟩,
      (LineOnly.setLine s l _).trans (.setLine _ l _), ?_, rfl, by rw [hp]; rfl, rfl, fun hc => absurd rfl hc, rfl,
      rfl, rfl⟩
    cases l <;> rfl
  | sequencer =>
    obtain ⟨c, hc, rfl⟩ := beginSlot_cases h
    unfold slotBegun
    split
    · refine ⟨(s.line l).queue, (s.line l).poll, some (rolled s.params c),
        ⟨.slotOpening, .roll (s.params.clampExp c.exponent) c.scopeLength c.scopeBits, false⟩,
        (LineOnly.setLine s l _).trans ((HostOnly.setReqState _ _ _).lineOnly l), ?_, rfl, rfl, by rw [hc]; rfl,
        fun _ => rfl, rfl, rfl, rfl⟩
      cases l <;> rfl
    · refine ⟨(s.line l).queue, (s.line l).poll, (s.line l).census, ⟨.slotOpening, .step, false⟩,
        (LineOnly.setLine s l _).trans ((HostOnly.setReqState _ _ _).lineOnly l), ?_, rfl, rfl, rfl, fun _ => rfl, rfl,
        rfl, rfl⟩
      cases l <;> rfl

/-! ## A sound line -/

/-- A line with no work and no counts (R91, R122, R124). -/
structure LineState.Idle (L : LineState) : Prop where
  census : L.census = none
  poll : L.poll = none
  queue : L.queue = []
  op : L.op = none
  counts : L.passedT = 0 ∧ L.passedP = 0 ∧ L.passedC = 0

/-- The supervisor's fields of a line agree (R127, R128, R130, R134), and it is idle unless it is UP (R137). -/
structure LineState.Sound (L : LineState) : Prop where
  idle : L.power ≠ .up → L.Idle
  settling : L.settleAt.isSome = true ↔ L.power = .settling
  speed : L.speed.isSome = L.power.supplied
  opening : L.power = .settling ↔ L.openPower.any (·.2 == .on) = true
  closing : L.offOpen = true → L.power = .up ∧ L.op.isSome = true
  cycle : L.power = .up → L.poll.isSome = true

namespace LineState.Sound

variable {L M : LineState}

theorem up_of_op (h : L.Sound) {o : LineOp} (ho : L.op = some o) : L.power = .up := by
  by_contra hp
  exact nomatch ho.symm.trans (h.idle hp).op

/-- A line whose supervisor's fields are left and that comes to no work unless it is UP. -/
theorem of_left (h : L.Sound) (hp : M.power = L.power) (ho : M.openPower = L.openPower) (ha : M.settleAt = L.settleAt)
    (hs : M.speed = L.speed) (hop : L.op.isSome = true → M.op.isSome = true)
    (hpoll : L.poll.isSome = true → M.poll.isSome = true) (hidle : L.power ≠ .up → L.Idle → M.Idle) : M.Sound := by
  refine ⟨fun hn => ?_, ?_, ?_, ?_, fun hoff => ?_, fun hup => ?_⟩
  · rw [hp] at hn
    exact hidle hn (h.idle hn)
  · rw [ha, hp]; exact h.settling
  · rw [hs, hp]; exact h.speed
  · rw [ho, hp]; exact h.opening
  · rw [LineState.offOpen, ho] at hoff
    obtain ⟨hup, hsome⟩ := h.closing hoff
    exact ⟨hp ▸ hup, hop hsome⟩
  · exact hpoll (h.cycle (hp ▸ hup))

theorem worked (h : L.Sound) (k : L.WorkedTo M) : M.Sound := by
  obtain ⟨_, _, _, _, _, _, rfl, hq, hc⟩ := k
  exact h.of_left rfl rfl rfl rfl id id fun _ hi => ⟨hc hi.census, hi.poll, hq hi.queue, hi.op, hi.counts⟩

/-- A line that stays UP and keeps its supervisor's fields, its cycle and, if it has one, an operation. -/
theorem of_up (h : L.Sound) (hup : L.power = .up) (hp : M.power = L.power) (ho : M.openPower = L.openPower)
    (ha : M.settleAt = L.settleAt) (hs : M.speed = L.speed) (hop : L.op.isSome = true → M.op.isSome = true)
    (hpoll : L.poll.isSome = true → M.poll.isSome = true) : M.Sound :=
  h.of_left hp ho ha hs hop hpoll fun hn => absurd hup hn

/-- The end of an operation no off waits for. -/
theorem op_none (h : L.Sound) (hoff : L.offOpen = false) : ({ L with op := none } : LineState).Sound :=
  ⟨fun hn => ⟨(h.idle hn).census, (h.idle hn).poll, (h.idle hn).queue, rfl, (h.idle hn).counts⟩, h.settling, h.speed,
    h.opening, fun ho => absurd (hoff.symm.trans ho) (by decide), h.cycle⟩

theorem of_wentOff (h : M.WentOff) : M.Sound := by
  refine ⟨fun _ => ⟨h.census, h.poll, h.queue, h.op, h.counts⟩, ?_, ?_, ?_, fun hoff => ?_, fun hup => ?_⟩
  · simp [h.settleAt, h.power]
  · simp [h.speed, h.power, LinePower.supplied]
  · simp [h.openPower, h.power]
  · simp [LineState.offOpen, h.openPower] at hoff
  · exact nomatch h.power.symm.trans hup

end LineState.Sound

/-- Settling leaves each passed-over count or sets it to 0. -/
theorem lineSettled_counts (s : State) (l : Line) :
    ((lineSettled s l).passedT = (s.line l).passedT ∨ (lineSettled s l).passedT = 0) ∧
      ((lineSettled s l).passedP = (s.line l).passedP ∨ (lineSettled s l).passedP = 0) ∧
        ((lineSettled s l).passedC = (s.line l).passedC ∨ (lineSettled s l).passedC = 0) := by
  have hcycle : (cycleAfter s l s.roster (s.line l)).passedT = (s.line l).passedT ∧
      ((cycleAfter s l s.roster (s.line l)).passedP = (s.line l).passedP ∨
        (cycleAfter s l s.roster (s.line l)).passedP = 0) ∧
      (cycleAfter s l s.roster (s.line l)).passedC = (s.line l).passedC := by
    unfold cycleAfter
    split
    · split
      · exact ⟨rfl, .inr rfl, rfl⟩
      · exact ⟨rfl, .inl rfl, rfl⟩
    · exact ⟨rfl, .inl rfl, rfl⟩
  obtain ⟨ht, hp, hc⟩ := hcycle
  unfold lineSettled countsSettled
  dsimp only
  refine ⟨?_, ?_, ?_⟩
  · split
    · exact .inl ht
    · exact .inr rfl
  · split
    · exact hp
    · exact .inr rfl
  · split
    · exact .inl hc
    · exact .inr rfl

namespace LineState.Sound

theorem settled {s : State} {l : Line} (h : (s.line l).Sound) : (lineSettled s l).Sound := by
  obtain ⟨ht, hp, hc⟩ := lineSettled_counts s l
  obtain ⟨poll, counters, t, p, c, heq, hsome⟩ := lineSettled_eq s l
  rw [heq] at ht hp hc ⊢
  refine h.of_left rfl rfl rfl rfl id (fun hpoll => hsome.trans hpoll) fun _ hi => ?_
  obtain ⟨hcensus, hpoll, hqueue, hop, hcountT, hcountP, hcountC⟩ := hi
  refine ⟨hcensus, ?_, hqueue, hop, ht.elim (·.trans hcountT) id, hp.elim (·.trans hcountP) id,
    hc.elim (·.trans hcountC) id⟩
  rw [hpoll] at hsome
  exact Option.not_isSome_iff_eq_none.mp (by simp only [hsome]; decide)

end LineState.Sound

theorem State.settle_op (s : State) (l : Line) : (s.settle.line l).op = (s.line l).op := by
  obtain ⟨_, _, _, _, _, heq, -⟩ := lineSettled_eq s l
  rw [State.line_settle, heq]

/-- Both lines are sound. -/
def SoundLines (s : State) : Prop := ∀ l, (s.line l).Sound

namespace SoundLines

variable {s t : State} {l : Line}

theorem worked (h : SoundLines s) (k : Worked s t) : SoundLines t := fun l => (h l).worked (k l)

theorem claimed (h : SoundLines s) (k : Claimed s t) : SoundLines t := h.worked ((Worked.refl s).claimed k)

theorem settle (h : SoundLines s) : SoundLines s.settle := fun l => by
  rw [State.line_settle]
  exact (h l).settled

theorem of_lines (h : SoundLines s) (hl : ∀ l, t.line l = s.line l) : SoundLines t := fun l => by
  rw [hl]
  exact h l

theorem of_line (h : SoundLines s) (hl : (t.line l).Sound) (ho : ∀ m, m ≠ l → (s.line m).WorkedTo (t.line m)) :
    SoundLines t := fun m => by
  by_cases hm : m = l
  · exact hm ▸ hl
  · exact (h m).worked (ho m hm)

theorem setLine (h : SoundLines s) {L : LineState} (hl : L.Sound) : SoundLines (s.setLine l L) :=
  h.of_line (l := l) (by rwa [State.line_setLine]) fun m hm => by
    rw [State.line_setLine_of_ne _ hm]
    exact .refl _

/-- A line that is UP takes up an operation, or goes on with one. -/
theorem beginOp (h : SoundLines s) (hup : (s.line l).power = .up) (w : OpWork) (c : Call) :
    SoundLines (s.beginOp l w c) :=
  h.setLine ((h l).of_up hup rfl rfl rfl rfl (fun _ => rfl) id)

theorem censusOnly (h : SoundLines s) (hup : (s.line l).power = .up) (k : CensusOnly s t l) : SoundLines t := by
  obtain ⟨honly, c, heq⟩ := k
  refine h.of_line (l := l) ?_ fun m hm => by rw [honly.other m hm]; exact .refl _
  rw [heq]
  exact (h l).of_up hup rfl rfl rfl rfl id id

theorem endOp (h : SoundLines s) (l : Line) : SoundLines (s.endOp l) := by
  obtain ⟨-, -, hself, hother⟩ := s.endOp_frame l
  refine h.of_line (l := l) ?_ fun m hm => (hother m hm).workedTo
  rcases hself with ⟨hoff, heq⟩ | ⟨-, hwent⟩
  · rw [heq, State.line_setLine]
    exact (h l).op_none hoff
  · exact .of_wentOff hwent

theorem goOff (h : SoundLines s) (l : Line) : SoundLines (s.goOff l) := by
  obtain ⟨-, -, hwent, hother⟩ := s.goOff_frame l
  exact h.of_line (l := l) (.of_wentOff hwent) fun m hm => (hother m hm).workedTo

theorem finishSlot (h : SoundLines s) (hup : (s.line l).power = .up) (event : Option (Nat → Nat → Event)) :
    SoundLines (s.finishSlot l event) := (h.censusOnly hup (.slotEnd s l event)).endOp l

theorem endSlot (h : SoundLines s) (hup : (s.line l).power = .up) (f : Census → Census)
    (event : Option (Nat → Nat → Event)) : SoundLines ((s.modCensus l f).finishSlot l event) := by
  refine (h.censusOnly hup (.modCensus s l f)).finishSlot ?_ event
  obtain ⟨-, c, heq⟩ := CensusOnly.modCensus s l f
  rw [heq]
  exact hup

/-! ## Commands -/

theorem power_of_claimed (k : Claimed s t) : (t.line l).power = (s.line l).power := by
  obtain ⟨_, _, _, _, _, heq, -⟩ := k.line l
  rw [heq]

theorem claimHeard (h : SoundLines s) (hup : (s.line l).power = .up) (k : Handle) (w : WindowClass) :
    SoundLines (s.claimHeard l k w) := by
  have hc := (Claimed.refl s).countWindow l w
  unfold State.claimHeard
  dsimp only
  split
  · rename_i i mem
    split
    · split
      · rename_i u n a lease v heq
        obtain rfl : _ = u := congrArg Prod.fst heq
        have hu := hc.find l i mem
        exact (h.claimed hu).beginOp ((power_of_claimed hu).trans hup) _ _
      · rename_i u r v heq
        obtain rfl : _ = u := congrArg Prod.fst heq
        have hu := hc.find l i mem
        exact (h.claimed hu).beginOp ((power_of_claimed hu).trans hup) _ _
    · exact (h.claimed hc).endSlot ((power_of_claimed hc).trans hup) _ _
  · exact (h.claimed hc).endSlot ((power_of_claimed hc).trans hup) _ _

theorem power_settle (s : State) (l : Line) : (s.settle.line l).power = (s.line l).power := by
  obtain ⟨_, _, _, _, _, heq, -⟩ := lineSettled_eq s l
  rw [State.line_settle, heq]

theorem bindHeard (h : SoundLines s) (hup : (s.line l).power = .up) (n : Nat) (i : Ident) (mem : Nat) (v : FindEvent)
    (a : Address) (w : WindowClass) : SoundLines (s.bindHeard l n i mem v a w) := by
  have hc := ((Claimed.refl s).countWindow l w).countMismatch l (mismatch w i)
  have hend : ∀ b f event, SoundLines
      (((((s.countWindow l w).countMismatch l (mismatch w i)).bindOutcome n b).settle.modCensus l f).finishSlot l event) :=
    fun b f event => (h.claimed (hc.bindOutcome n b)).settle.endSlot
      ((power_settle _ l).trans ((power_of_claimed (hc.bindOutcome n b)).trans hup)) f event
  unfold State.bindHeard
  dsimp only
  split
  · exact hend true _ _
  · exact hend false _ _

theorem openingWindow (h : SoundLines s) (hup : (s.line l).power = .up) (w : WindowClass) :
    SoundLines (s.openingWindow l w) := by
  have hc := (Claimed.refl s).countWindow l w
  have hcup := (power_of_claimed (l := l) hc).trans hup
  unfold State.openingWindow
  dsimp only
  split
  · exact (h.claimed hc).endSlot hcup _ _
  · refine beginOp (censusOnly (h.claimed hc) hcup (.modCensus _ l _)) ?_ _ _
    rw [State.modCensus, State.line_modLine]
    exact hcup
  · exact (h.claimed hc).endSlot hcup _ _

theorem lineGrant (h : SoundLines s) (he : exec (.lineGrant l) s = .next t) : SoundLines t := by
  rcases exec_lineGrant he with rfl | ⟨c, u, hup, -, -, -, hu, rfl⟩
  · exact h
  · obtain ⟨q, p, z, o, honly, hline, -, hp, -, -, -, -, -⟩ := begun_frame hu
    unfold State.countGrant
    refine h.of_line (l := l) ?_ fun m hm => ?_
    · rw [State.line_modLine, hline]
      exact (h l).of_up hup rfl rfl rfl rfl (fun _ => rfl) fun hs => hp.trans hs
    · rw [State.line_modLine_of_ne _ hm, honly.other m hm]
      exact .refl _

theorem closePower (h : SoundLines s) (l : Line) (o : CloseOutcome) (p : LinePower) (n : Nat)
    (hl : ({ s.line l with openPower := none } : LineState).Sound) : SoundLines (s.closePower l o p n) := by
  obtain ⟨-, -, -, -, hself, hother⟩ := s.closePower_frame l o p n
  refine h.of_line (l := l) (by rwa [hself]) fun m hm => ?_
  rw [hother m hm]
  exact .refl _

theorem passTo (h : SoundLines s) (x : Clock) : SoundLines (s.passTo x) := h.of_lines fun m => by cases m <;> rfl

theorem startCycle (h : SoundLines s) (hp : (s.line l).poll.isSome = true) : SoundLines (s.startCycle l) := by
  rw [State.startCycle_eq]
  exact h.setLine ((h l).of_left rfl rfl rfl rfl id (fun _ => rfl) fun _ hi => by simp [hi.poll] at hp)

/-- A line whose settling is over is UP and has a cycle (R128, R91). -/
theorem settledUp (h : SoundLines s) (hp : (s.line l).power = .settling) (x : Clock) :
    SoundLines ((((s.passTo x).modLine l fun L => { L with power := .up, settleAt := none }).startCycle l).closePower l
      .done .up 0) := by
  obtain ⟨-, -, -, -, hself, hother⟩ := (((s.passTo x).modLine l fun L =>
    { L with power := .up, settleAt := none }).startCycle l).closePower_frame l .done .up 0
  refine (h.passTo x).of_line (l := l) ?_ fun m hm => ?_
  · rw [hself, State.startCycle_eq, State.line_setLine, State.line_modLine]
    have hspeed := ((h.passTo x) l).speed
    rw [State.line_passTo, hp] at hspeed
    exact ⟨fun hn => absurd rfl hn, by simp, hspeed, by simp, fun hoff => by simp [LineState.offOpen] at hoff,
      fun _ => rfl⟩
  · rw [hother m hm, State.startCycle_eq, State.line_setLine_of_ne _ hm, State.line_modLine_of_ne _ hm]
    exact .refl _

theorem tripUp (h : SoundLines s) (hup : (s.line l).power = .up) : SoundLines (s.tripUp l) := by
  obtain ⟨-, -, hswept, hdown⟩ := (s.unpower l .fault).lineDown_frame l
  have hpush := HostOnly.pushEvent ((s.unpower l .fault).lineDown l) 0
    (.lineFault l s.clock (s.boundEntries l).length)
  rw [show (s.unpower l .fault).line l = { s.line l with power := .fault, settleAt := none, speed := none } from
    State.line_modLine ..] at hswept
  have hon : ((s.line l).openPower.any (·.2 == .on)) = false := by
    have hopen := (h l).opening
    rw [hup] at hopen
    simpa using hopen
  have hunpowered : ∀ {o : Option (Tag × Direction)}, o.any (·.2 == .on) = false → o.any (·.2 == .off) = false →
      ({ ((s.unpower l .fault).lineDown l).line l with openPower := o } : LineState).Sound := fun hno hoff =>
    ⟨fun _ => ⟨hswept.census, hswept.poll, hswept.queue, hswept.op, hswept.counts⟩,
      by simp [hswept.settleAt, hswept.power], by simp [hswept.speed, hswept.power, LinePower.supplied],
      by simp only [hswept.power, hno]; decide, fun ho => absurd (hoff.symm.trans ho) (by decide),
      fun hu => nomatch hswept.power.symm.trans hu⟩
  have hothers : ∀ m, m ≠ l → (s.line m).WorkedTo (((s.unpower l .fault).lineDown l).line m) := fun m hm => by
    have := (hdown m hm).workedTo
    rwa [show (s.unpower l .fault).line m = s.line m from State.line_modLine_of_ne _ hm _] at this
  unfold State.tripUp
  dsimp only
  split
  · obtain ⟨-, -, -, -, hself, hother⟩ := State.closePower_frame _ l .faulted .fault (s.boundEntries l).length
    refine h.of_line (l := l) ?_ fun m hm => ?_
    · rw [hself, hpush.line]
      exact hunpowered rfl rfl
    · rw [hother m hm, hpush.line]
      exact hothers m hm
  · rename_i hoff
    refine h.of_line (l := l) ?_ fun m hm => ?_
    · rw [hpush.line] at hoff ⊢
      refine hunpowered (o := (((s.unpower l .fault).lineDown l).line l).openPower) ?_ (by simpa [LineState.offOpen] using hoff)
      rw [hswept.openPower]
      exact hon
    · rw [hpush.line]
      exact hothers m hm

/-- A line that is not UP loses its power with its LINE_POWER. -/
theorem unpower (h : SoundLines s) (hn : (s.line l).power ≠ .up) {p : LinePower} (hsup : p.supplied = false)
    (o : CloseOutcome) (q : LinePower) (n : Nat) : SoundLines ((s.unpower l p).closePower l o q n) := by
  obtain ⟨-, -, -, -, hself, hother⟩ := (s.unpower l p).closePower_frame l o q n
  obtain ⟨hcensus, hpoll, hqueue, hop, hcounts⟩ := (h l).idle hn
  refine h.of_line (l := l) ?_ fun m hm => ?_
  · rw [hself, State.unpower, State.line_modLine]
    refine ⟨fun _ => ⟨hcensus, hpoll, hqueue, hop, hcounts⟩, ?_, by simp [hsup], ?_,
      fun hoff => by simp [LineState.offOpen] at hoff, ?_⟩ <;>
      cases p <;> simp [LinePower.supplied] at hsup ⊢
  · rw [hother m hm, State.unpower, State.line_modLine_of_ne _ hm]
    exact .refl _

theorem inner {c : Instr} (h : SoundLines s) (hc : Instr.inner c = true) (he : exec c s = .next t) : SoundLines t := by
  cases c with
  | settlingExpiry l =>
    rcases exec_settlingExpiry he with rfl | ⟨x, hp, -, rfl⟩
    · exact h
    · exact h.settledUp hp x
  | overcurrentTrip l =>
    rcases exec_overcurrentTrip he with rfl | ⟨hp, rfl⟩ | ⟨hp, rfl⟩
    · exact h
    · exact h.tripUp hp
    · exact h.unpower (by rw [hp]; decide) rfl _ _ _
  | lineGrant l => exact h.lineGrant he
  | callSent l =>
    rcases callSent_frame he with rfl | ⟨o, p, hs, q, k, ho, -, rfl, -⟩
    · exact h
    · refine setLine (s := { s with hush := hs }) (h.of_lines fun m => by cases m <;> rfl) ?_
      exact (h l).of_up ((h l).up_of_op ho) rfl rfl rfl rfl (fun _ => rfl) id
  | slotWindow l x =>
    rcases exec_slotWindow he with rfl | ⟨o, ho, -, rfl⟩
    · exact h
    · exact h.openingWindow ((h l).up_of_op ho.1) _
  | claimWindow l x =>
    rcases exec_claimWindow he with rfl | ⟨o, ho, -, rfl⟩
    · exact h
    · exact (h.claimHeard ((h l).up_of_op ho.1) _ _).settle
  | bindOutcome l x =>
    rcases exec_bindOutcome he with rfl | ⟨o, n, i, mem, v, ho, -, rfl⟩
    · exact h
    · exact h.bindHeard ((h l).up_of_op ho.1) n i mem v _ _
  | hushWindow l x =>
    rcases exec_hushWindow he with rfl | ⟨o, i, r, v, m, ho, -, rfl⟩
    · exact h
    · have hc := (Claimed.refl s).countWindow l (o.call.classify x)
      exact (h.claimed hc).endSlot ((power_of_claimed hc).trans ((h l).up_of_op ho.1)) _ _
  | pollWindow l x =>
    rcases exec_pollWindow he with rfl | ⟨o, n, i, -, -, rfl⟩
    · exact h
    · exact ((h.claimed ((Claimed.refl s).pollHeard l n i _ _)).endOp l).settle
  | pollDue l =>
    rcases exec_pollDue he with rfl | ⟨c, hc, ⟨-, rfl⟩ | ⟨-, rfl⟩⟩
    · exact h
    · exact setLine (h.passTo _) (((h.passTo _) l).of_left rfl rfl rfl rfl id (fun _ => rfl) fun _ hi =>
        absurd (hi.poll.symm.trans ((State.line_passTo ..).symm ▸ hc)) (by simp))
    · exact (h.passTo _).startCycle (by rw [State.line_passTo, hc]; rfl)
  | attemptWindow l x =>
    rcases exec_attemptWindow he with rfl | ⟨o, -, -, -, rfl⟩
    · exact h
    · exact (h.worked (.attemptHeard s l _)).settle.endOp l
  | releaseWindow l x =>
    rcases exec_releaseWindow he with rfl | ⟨o, -, -, -, rfl⟩
    · exact h
    · exact (h.worked (.releaseHeard s l _)).settle.endOp l
  | quarantineExpiry l =>
    rcases exec_quarantineExpiry he with rfl | ⟨x, rfl⟩
    · exact h
    · exact (h.passTo x).claimed ((Claimed.refl _).expireDue l)
  | hushExpiry =>
    rcases exec_hushExpiry he with rfl | ⟨x, rfl⟩
    · exact h
    · exact h.of_lines fun m => by cases m <;> rfl
  | _ => exact nomatch hc

end SoundLines

end Sys2Proof.Machine
end

section
/-! Lines that are not UP (R52, R57, R91, R122, R137) and the supervisor's fields (R127, R128, R130, R134), kept by every
step. -/

namespace Sys2Proof.Machine

open Sys2Proof.Statements

/-- The roster law, the line-down law and the power law. -/
def DownLaws (s : State) : Prop := SoundLines s ∧ Bare (fun l => (s.line l).power ≠ .up) s

theorem downLaws_iff {s : State} :
    DownLaws s ↔ RosterLaw s ∧ (∀ l, DownLaw s l) ∧ ∀ l, PowerLaw s l := by
  constructor
  · rintro ⟨hsound, hroster, hbare⟩
    refine ⟨hroster, fun l hn => ?_, fun l => ?_⟩
    · obtain ⟨hcensus, hpoll, hqueue, hop, hcounts⟩ := (hsound l).idle hn
      obtain ⟨hquarantine, hbound⟩ := hbare l hn
      exact ⟨hcensus, hpoll, hqueue, hop, hquarantine, hcounts, hbound⟩
    · obtain ⟨-, hsettling, hspeed, hopening, hclosing, hcycle⟩ := hsound l
      exact ⟨hsettling, hspeed, hopening, hclosing, hcycle⟩
  · rintro ⟨hroster, hdown, hpower⟩
    refine ⟨fun l => ?_, hroster, fun l hn => ?_⟩
    · obtain ⟨hsettling, hspeed, hopening, hclosing, hcycle⟩ := hpower l
      refine ⟨fun hn => ?_, hsettling, hspeed, hopening, hclosing, hcycle⟩
      obtain ⟨hcensus, hpoll, hqueue, hop, -, hcounts, -⟩ := hdown l hn
      exact ⟨hcensus, hpoll, hqueue, hop, hcounts⟩
    · obtain ⟨-, -, -, -, hquarantine, -, hbound⟩ := hdown l hn
      exact ⟨hquarantine, hbound⟩

/-- No line goes down but such as have no address in use then. -/
def Downward (s t : State) : Prop :=
  ∀ l, (t.line l).power ≠ .up → (s.line l).power = .up → Bare (· = l) t

namespace Downward

variable {s t u : State} {l : Line}

theorem of_power (h : ∀ l, (t.line l).power = (s.line l).power) : Downward s t :=
  fun l ht hs => absurd ((h l).trans hs) ht

theorem of_worked (h : Worked s t) : Downward s t := of_power fun l => by
  obtain ⟨_, _, _, _, _, _, heq, -⟩ := h l
  rw [heq]

/-- Nothing goes down before, or nothing but what stays bare after. -/
theorem congr (h : Downward s t) (hp : ∀ l, (u.line l).power = (t.line l).power) (hk : BookSame t u) : Downward s u :=
  fun l ht hs => (h l (hp l ▸ ht) hs).same hk

theorem of_before (h : Downward t u) (hp : ∀ l, (t.line l).power = (s.line l).power) : Downward s u :=
  fun l hu hs => h l hu ((hp l).trans hs)

theorem closePower (h : Downward s t) (l : Line) (o : CloseOutcome) (p : LinePower) (n : Nat) :
    Downward s (t.closePower l o p n) := by
  obtain ⟨-, -, -, -, hself, hother⟩ := t.closePower_frame l o p n
  refine h.congr (fun m => ?_) (.closePower t l o p n)
  by_cases hm : m = l
  · subst hm; rw [hself]
  · rw [hother m hm]

theorem goOff (hr : RosterLaw s) (l : Line) : Downward s (s.goOff l) := by
  obtain ⟨-, -, -, hother⟩ := s.goOff_frame l
  intro m hm hup
  by_cases hml : m = l
  · subst hml
    have hbare : Bare (fun _ => False) (s.unpower m .off) := ⟨hr.modLine _ _, fun _ hf => hf.elim⟩
    exact ((hbare.lineDown m).mono fun x hx => .inr hx).same (.closePower _ _ _ _ _)
  · obtain ⟨_, _, _, _, _, heq, -⟩ := hother m hml
    rw [heq] at hm
    exact absurd hup hm

theorem endOp (hr : RosterLaw s) (l : Line) : Downward s (s.endOp l) := by
  unfold State.endOp
  dsimp only
  split
  · exact (goOff (hr.modLine l _) l).of_before fun m => by
      by_cases hm : m = l
      · subst hm; rw [State.line_modLine]
      · rw [State.line_modLine_of_ne _ hm]
  · refine of_power fun m => ?_
    by_cases hm : m = l
    · subst hm; rw [State.line_modLine]
    · rw [State.line_modLine_of_ne _ hm]

theorem settle (h : Downward s t) : Downward s t.settle :=
  h.congr (fun l => SoundLines.power_settle t l) (.settle t)

theorem finishSlot (hr : RosterLaw s) (l : Line) (f : Census → Census) (event : Option (Nat → Nat → Event)) :
    Downward s ((s.modCensus l f).finishSlot l event) := by
  have hc := (CensusOnly.modCensus s l f).trans (.slotEnd _ l event)
  refine (endOp (BookSame.rosterLaw (.of_censusOnly hc) hr) l).of_before fun m => ?_
  obtain ⟨honly, c, heq⟩ := hc
  by_cases hm : m = l
  · subst hm; rw [heq]
  · rw [honly.other m hm]

theorem beginOp (s : State) (l : Line) (w : OpWork) (c : Call) : Downward s (s.beginOp l w c) := of_power fun m => by
  by_cases hm : m = l
  · subst hm; rw [State.beginOp, State.line_modLine]
  · rw [State.beginOp, State.line_modLine_of_ne _ hm]

theorem of_claimed (k : Claimed s t) (h : Downward t u) : Downward s u := h.of_before fun _ => SoundLines.power_of_claimed k

theorem tripUp (hr : RosterLaw s) (l : Line) : Downward s (s.tripUp l) := by
  obtain ⟨-, -, -, hother⟩ := (s.unpower l .fault).lineDown_frame l
  have hdown : Downward s ((s.unpower l .fault).lineDown l) := by
    intro m hm hup
    by_cases hml : m = l
    · subst hml
      have hbare : Bare (fun _ => False) (s.unpower m .fault) := ⟨hr.modLine _ _, fun _ hf => hf.elim⟩
      exact (hbare.lineDown m).mono fun x hx => .inr hx
    · obtain ⟨_, _, _, _, _, heq, -⟩ := hother m hml
      rw [heq, State.unpower, State.line_modLine_of_ne _ hml] at hm
      exact absurd hup hm
  have hpush := HostOnly.pushEvent ((s.unpower l .fault).lineDown l) 0
    (.lineFault l s.clock (s.boundEntries l).length)
  have htold := hdown.congr (fun m => by rw [hpush.line]) (.of_host hpush)
  unfold State.tripUp
  dsimp only
  split
  · exact htold.closePower l _ _ _
  · exact htold

theorem claimHeard (hr : RosterLaw s) (l : Line) (k : Handle) (w : WindowClass) : Downward s (s.claimHeard l k w) := by
  have hc := (Claimed.refl s).countWindow l w
  have hrc := RosterLaw.bookLaw.countWindow hr l w
  unfold State.claimHeard
  dsimp only
  split
  · rename_i i mem
    split
    · split
      · rename_i u n a lease v heq
        obtain rfl : _ = u := congrArg Prod.fst heq
        exact of_claimed (hc.find l i mem) (beginOp _ l _ _)
      · rename_i u r v heq
        obtain rfl : _ = u := congrArg Prod.fst heq
        exact of_claimed (hc.find l i mem) (beginOp _ l _ _)
    · exact of_claimed hc (finishSlot hrc l _ _)
  · exact of_claimed hc (finishSlot hrc l _ _)

theorem bindHeard (hr : RosterLaw s) (l : Line) (n : Nat) (i : Ident) (mem : Nat) (v : FindEvent) (a : Address)
    (w : WindowClass) : Downward s (s.bindHeard l n i mem v a w) := by
  have hc := ((Claimed.refl s).countWindow l w).countMismatch l (mismatch w i)
  have hrc := RosterLaw.bookLaw.counted hr l w (mismatch w i)
  have hend : ∀ b f event, Downward s
      (((((s.countWindow l w).countMismatch l (mismatch w i)).bindOutcome n b).settle.modCensus l f).finishSlot l event) :=
    fun b f event => of_claimed (hc.bindOutcome n b) <|
      (finishSlot (BookSame.rosterLaw (.settle _) (RosterLaw.bookLaw.bindOutcome hrc n b)) l f event).of_before
        fun m => SoundLines.power_settle _ m
  unfold State.bindHeard
  dsimp only
  split
  · exact hend true _ _
  · exact hend false _ _

theorem openingWindow (hr : RosterLaw s) (l : Line) (w : WindowClass) : Downward s (s.openingWindow l w) := by
  have hc := (Claimed.refl s).countWindow l w
  have hrc := RosterLaw.bookLaw.countWindow hr l w
  unfold State.openingWindow
  dsimp only
  split
  · exact of_claimed hc (finishSlot hrc l _ _)
  · refine of_claimed hc ((beginOp _ l _ _).of_before fun m => ?_)
    by_cases hm : m = l
    · subst hm; rw [State.modCensus, State.line_modLine]
    · rw [State.modCensus, State.line_modLine_of_ne _ hm]
  · exact of_claimed hc (finishSlot hrc l _ _)

/-- The power of the lines after a change of one line that leaves it. -/
theorem of_line (hl : (t.line l).power = (s.line l).power ∨ (t.line l).power = .up)
    (ho : ∀ m, m ≠ l → t.line m = s.line m) : Downward s t := fun m ht hs => by
  by_cases hm : m = l
  · subst hm
    exact absurd (hl.elim (·.trans hs) id) ht
  · rw [ho m hm] at ht
    exact absurd hs ht

theorem inner {c : Instr} (hr : RosterLaw s) (hc : Instr.inner c = true) (he : exec c s = .next t) : Downward s t := by
  have hsame : Downward s s := of_power fun _ => rfl
  cases c with
  | settlingExpiry l =>
    rcases exec_settlingExpiry he with rfl | ⟨x, -, -, rfl⟩
    · exact hsame
    · obtain ⟨-, -, -, -, hself, hother⟩ := (((s.passTo x).modLine l fun L =>
        { L with power := .up, settleAt := none }).startCycle l).closePower_frame l .done .up 0
      refine of_line (l := l) (.inr ?_) fun m hm => ?_
      · rw [hself, State.startCycle_eq, State.line_setLine, State.line_modLine]
      · rw [hother m hm, State.startCycle_eq, State.line_setLine_of_ne _ hm, State.line_modLine_of_ne _ hm,
          State.line_passTo]
  | overcurrentTrip l =>
    rcases exec_overcurrentTrip he with rfl | ⟨-, rfl⟩ | ⟨hp, rfl⟩
    · exact hsame
    · exact tripUp hr l
    · refine closePower (fun m hm hup => ?_) l _ _ _
      by_cases hml : m = l
      · subst hml
        exact nomatch hp.symm.trans hup
      · rw [State.unpower, State.line_modLine_of_ne _ hml] at hm
        exact absurd hup hm
  | lineGrant l =>
    rcases exec_lineGrant he with rfl | ⟨c, u, -, -, -, -, hu, rfl⟩
    · exact hsame
    · obtain ⟨q, p, z, o, honly, hline, -⟩ := begun_frame hu
      unfold State.countGrant
      refine of_line (l := l) (.inl ?_) fun m hm => ?_
      · rw [State.line_modLine, hline]
      · rw [State.line_modLine_of_ne _ hm, honly.other m hm]
  | callSent l =>
    rcases callSent_frame he with rfl | ⟨o, p, hs, q, k, ho, -, rfl, -⟩
    · exact hsame
    · refine of_line (l := l) (.inl ?_) fun m hm => ?_
      · rw [State.line_setLine]
      · rw [State.line_setLine_of_ne _ hm, State.line_with_hush]
  | slotWindow l x =>
    rcases exec_slotWindow he with rfl | ⟨o, -, -, rfl⟩
    · exact hsame
    · exact openingWindow hr l _
  | claimWindow l x =>
    rcases exec_claimWindow he with rfl | ⟨o, -, -, rfl⟩
    · exact hsame
    · exact (claimHeard hr l _ _).settle
  | bindOutcome l x =>
    rcases exec_bindOutcome he with rfl | ⟨o, n, i, mem, v, -, -, rfl⟩
    · exact hsame
    · exact bindHeard hr l n i mem v _ _
  | hushWindow l x =>
    rcases exec_hushWindow he with rfl | ⟨o, i, r, v, m, -, -, rfl⟩
    · exact hsame
    · exact of_claimed ((Claimed.refl s).countWindow l _) (finishSlot (RosterLaw.bookLaw.countWindow hr l _) l _ _)
  | pollWindow l x =>
    rcases exec_pollWindow he with rfl | ⟨o, n, i, -, -, rfl⟩
    · exact hsame
    · exact (of_claimed ((Claimed.refl s).pollHeard l n i _ _) (endOp (RosterLaw.bookLaw.pollHeard hr l n i _ _) l)).settle
  | pollDue l =>
    rcases exec_pollDue he with rfl | ⟨c, -, ⟨-, rfl⟩ | ⟨-, rfl⟩⟩
    · exact hsame
    · refine of_line (l := l) (.inl ?_) fun m hm => ?_
      · rw [State.line_modLine, State.line_passTo]
      · rw [State.line_modLine_of_ne _ hm, State.line_passTo]
    · rw [State.startCycle_eq]
      refine of_line (l := l) (.inl ?_) fun m hm => ?_
      · rw [State.line_setLine, State.line_passTo]
      · rw [State.line_setLine_of_ne _ hm, State.line_passTo]
  | attemptWindow l x =>
    rcases exec_attemptWindow he with rfl | ⟨o, -, -, -, rfl⟩
    · exact hsame
    · refine (endOp (BookSame.rosterLaw (.settle _) (RosterLaw.bookLaw.attemptHeard hr l _)) l).of_before fun m => ?_
      rw [SoundLines.power_settle]
      exact (Worked.attemptHeard s l _).power m
  | releaseWindow l x =>
    rcases exec_releaseWindow he with rfl | ⟨o, -, -, -, rfl⟩
    · exact hsame
    · refine (endOp (BookSame.rosterLaw (.settle _) (RosterLaw.bookLaw.releaseHeard hr l _)) l).of_before fun m => ?_
      rw [SoundLines.power_settle]
      exact (Worked.releaseHeard s l _).power m
  | quarantineExpiry l =>
    rcases exec_quarantineExpiry he with rfl | ⟨x, rfl⟩
    · exact hsame
    · exact (of_power fun m => (SoundLines.power_of_claimed ((Claimed.refl (s.passTo x)).expireDue l)).trans
        (congrArg LineState.power (State.line_passTo ..)))
  | hushExpiry =>
    rcases exec_hushExpiry he with rfl | ⟨x, rfl⟩
    · exact hsame
    · exact of_power fun m => by cases m <;> rfl
  | _ => exact nomatch hc

end Downward

namespace DownLaws

variable {s t : State}

theorem after (hs : SoundLines t) (hd : Downward s t) (hb : Bare (fun l => (s.line l).power ≠ .up) t) :
    DownLaws t := by
  refine ⟨hs, hb.1, fun l hn => ?_⟩
  by_cases hup : (s.line l).power = .up
  · exact (hd l hn hup).2 l rfl
  · exact hb.2 l hup

theorem inner {c : Instr} (h : DownLaws s) (hc : Instr.inner c = true) (he : exec c s = .next t) : DownLaws t := by
  obtain ⟨hsound, hbare⟩ := h
  refine after (hsound.inner hc he) (.inner hbare.1 hc he)
    ((Bare.bookClaims _).inner hbare hc he fun l o ho u i mem hu => hu.find (fun hn => ?_) i mem)
  exact hn ((hsound l).up_of_op ho)

/-- Nothing goes down but by a command of the line itself. -/
theorem of_worked (h : DownLaws s) (k : Worked s t) (hb : Bare (fun l => (s.line l).power ≠ .up) t) : DownLaws t :=
  after (h.1.worked k) (.of_worked k) hb

/-- A line with a BOUND entry is UP. -/
theorem up_of_bound (h : DownLaws s) {e : Entry} (he : e ∈ s.roster) (hb : e.standing.isBound = true) :
    (s.line e.line).power = .up := by
  by_contra hn
  have := (h.2.2 e.line hn).2 e he
  simp [Entry.boundOn, hb] at this

theorem settle (h : DownLaws s) : DownLaws s.settle :=
  after h.1.settle (Downward.settle (.of_power fun _ => rfl)) (h.2.same (.settle s))

theorem setLine (h : DownLaws s) {l : Line} {L : LineState} (hup : (s.line l).power = .up) (hp : L.power = .up)
    (ho : L.openPower = (s.line l).openPower) (ha : L.settleAt = (s.line l).settleAt) (hs : L.speed = (s.line l).speed)
    (hop : L.op = (s.line l).op) (hpoll : L.poll = (s.line l).poll) : DownLaws (s.setLine l L) := by
  refine after (h.1.setLine ((h.1 l).of_up hup (hp.trans hup.symm) ho ha hs (fun hs => hop ▸ hs) fun hs => hpoll ▸ hs))
    (.of_line (l := l) (.inr (by rw [State.line_setLine]; exact hp)) fun m hm => State.line_setLine_of_ne _ hm _) ?_
  refine h.2.of_le (h.2.1.of_eq (by simp) (by simp)) (fun y hy m _ hb => ⟨y, by simpa using hy, hb⟩) fun m hm hq => ?_
  have hne : m ≠ l := fun heq => hm (heq ▸ hup)
  rwa [State.line_setLine_of_ne _ hne]

theorem goOff (h : DownLaws s) (l : Line) : DownLaws (s.goOff l) :=
  after (h.1.goOff l) (.goOff h.2.1 l) ((Bare.bookClaims _).goOff h.2 l)

theorem host (h : DownLaws s) (k : HostOnly s t) : DownLaws t :=
  h.of_worked ((Worked.refl s).claimed k.claimed) (h.2.same (.of_host k))

/-- A change of a line that is not UP before and after. -/
theorem setDown (h : DownLaws s) {l : Line} {L : LineState} (hn : (s.line l).power ≠ .up) (hs : L.Sound)
    (hb : BookSame s (s.setLine l L)) : DownLaws (s.setLine l L) := by
  refine after (h.1.setLine hs) (fun m hm hup => ?_) (h.2.same hb)
  have hne : m ≠ l := fun heq => hn (heq ▸ hup)
  rw [State.line_setLine_of_ne _ hne] at hm
  exact absurd hup hm

theorem applyPower (h : DownLaws s) {l : Line} (hn : (s.line l).power ≠ .up) (tag : Tag) :
    DownLaws (s.applyPower l tag) := by
  obtain ⟨hcensus, hpoll, hqueue, hop, hcounts⟩ := (h.1 l).idle hn
  exact h.setDown hn ⟨fun _ => ⟨hcensus, hpoll, hqueue, hop, hcounts⟩, by simp, by simp [LinePower.supplied], by simp,
    fun hoff => by simp [LineState.offOpen] at hoff, fun hu => nomatch hu⟩
    (.of_lineOnly (.setLine s l _) (by rw [State.line_setLine]) (by rw [State.line_setLine]))

theorem unpower (h : DownLaws s) {l : Line} (hn : (s.line l).power ≠ .up) {p : LinePower} (hsup : p.supplied = false)
    (o : CloseOutcome) (q : LinePower) (n : Nat) : DownLaws ((s.unpower l p).closePower l o q n) := by
  refine after (h.1.unpower hn hsup o q n) (.closePower (fun m hm hup => ?_) l o q n)
    ((h.2.same (.modLine s l rfl rfl)).same (.closePower _ l o q n))
  have hne : m ≠ l := fun heq => hn (heq ▸ hup)
  rw [State.unpower, State.line_modLine_of_ne _ hne] at hm
  exact absurd hup hm

/-- An off on an UP line waits for its operation, or takes the line down at once (R130). -/
theorem openOff (h : DownLaws s) {l : Line} (hup : (s.line l).power = .up) (tag : Tag) :
    DownLaws (if (s.line l).op.isSome then s.modLine l fun L => { L with openPower := some (tag, .off) }
      else (s.modLine l fun L => { L with openPower := some (tag, .off) }).goOff l) := by
  have hbook : BookSame s (s.modLine l fun L => { L with openPower := some (tag, .off) }) := .modLine s l rfl rfl
  obtain ⟨-, hsettling, hspeed, -, -, hcycle⟩ := h.1 l
  split
  · rename_i hop
    refine after (h.1.setLine ⟨fun hn => absurd hup hn, hsettling, hspeed, by simp [hup], fun _ => ⟨hup, hop⟩, hcycle⟩)
      (.of_line (l := l) (.inr ?_) fun m hm => State.line_modLine_of_ne _ hm _) (h.2.same hbook)
    rw [State.line_modLine]
    exact hup
  · obtain ⟨-, -, hwent, hother⟩ := (s.modLine l fun L => { L with openPower := some (tag, .off) }).goOff_frame l
    refine after (h.1.of_line (l := l) (.of_wentOff hwent) fun m hm => ?_)
      ((Downward.goOff (hbook.rosterLaw h.2.1) l).of_before fun m => ?_) ((Bare.bookClaims _).goOff (h.2.same hbook) l)
    · have := (hother m hm).workedTo
      rwa [State.line_modLine_of_ne _ hm] at this
    · by_cases hm : m = l
      · subst hm; rw [State.line_modLine]
      · rw [State.line_modLine_of_ne _ hm]

theorem closed (h : DownLaws s) (tag : Tag) (o : CloseOutcome) (x : CloseResult) : DownLaws (s.close tag o x) :=
  h.host (.closeAll s [report tag (.closed o x)])

theorem actPower (h : DownLaws s) (l : Line) (d : Direction) (tag : Tag) (hbusy : (s.line l).powerBusy d = false) :
    DownLaws (s.actPower l d tag) := by
  unfold State.actPower
  split
  · exact h.applyPower (by simp [*]) tag
  · exact h.applyPower (by simp [*]) tag
  · exact h.closed _ _ _
  · exact h.closed _ _ _
  · exact h.closed _ _ _
  · rename_i hp
    dsimp only
    rw [State.line_modLine]
    exact h.openOff hp tag
  · exact (h.unpower (by simp [*]) rfl _ _ _).closed _ _ _
  · rename_i hp
    have hon := (h.1 l).opening.mp hp
    rw [LineState.powerBusy_iff.mpr (.inl ⟨hon, rfl⟩)] at hbusy
    exact nomatch hbusy

theorem of_reset (hr : s.roster = []) (hl : ∀ l, s.line l = .reset) : DownLaws s := by
  refine ⟨fun l => ?_, .of_reset hr hl⟩
  rw [hl]
  exact ⟨fun _ => ⟨rfl, rfl, rfl, rfl, rfl, rfl, rfl⟩, by decide, rfl, by decide, by decide, by decide⟩

theorem setParam (h : DownLaws s) (tag : Tag) (id v : Nat) : DownLaws (s.setParam tag id v) := by
  have hstored : DownLaws (s.stored tag id v) := by
    refine h.of_worked (fun l => ?_) (h.2.of_le h.2.1 (fun y hy _ _ hb => ⟨y, hy, hb⟩) fun l _ hq => ?_)
    · cases l <;> exact .refl _
    · cases l <;> exact hq
  rw [State.setParam_eq]
  split
  · refine (hstored.of_worked ((Worked.refl _).claimed ((Claimed.refl _).limitSweep v)) ?_).settle
    exact limitSweep_keeps (P := fun _ => Bare _) (fun h => h.1) (fun h he => h.countOut he)
      (fun h k => h.same (.of_host k)) hstored.2
  · exact hstored

theorem admitStop (h : DownLaws s) (tag : Tag) : DownLaws (s.admitStop tag) := by
  have hopen : DownLaws { s.push tag (.taken .stop) with stop := some { tag := tag, openCount := s.table.length } } :=
    h.host ⟨rfl, rfl, rfl, rfl, fun l => by cases l <;> rfl⟩
  have hfold : ∀ (qs : List Req) {u : State}, DownLaws u → DownLaws (qs.foldl (fun t r => t.haltRequest .stop r) u) := by
    intro qs
    induction qs with
    | nil => exact fun hu => hu
    | cons q qs ih => exact fun hu => ih (hu.of_worked ((Worked.refl _).haltRequest .stop q)
        ((Bare.bookClaims _).haltRequest hu.2 .stop q))
  exact ((hfold s.table hopen).host (.settleStop _)).settle

/-- A record joins the queue of a line that is UP. -/
theorem setQueue (h : DownLaws s) {l : Line} (hup : (s.line l).power = .up) (q : List Txn) : DownLaws (s.setQueue l q) :=
  h.setLine hup hup rfl rfl rfl rfl rfl

theorem map (h : DownLaws s) {g : Entry → Entry} (hg : ∀ x, (g x).serial = x.serial ∧ (g x).identity = x.identity ∧
    (g x).line = x.line ∧ (g x).standing = x.standing) : DownLaws { s with roster := s.roster.map g } := by
  refine h.of_worked (fun l => by cases l <;> exact .refl _) (h.2.map ?_ fun x _ => ⟨(hg x).2.2.1, (hg x).2.2.2⟩)
  exact h.2.1.map (fun x => ⟨(hg x).1, (hg x).2.1⟩) rfl rfl

theorem updNamed (h : DownLaws s) (i : Ident) {f : Entry → Entry} (hf : ∀ x, (f x).serial = x.serial ∧
    (f x).identity = x.identity ∧ (f x).line = x.line ∧ (f x).standing = x.standing) : DownLaws (s.updNamed i f) := by
  refine h.map fun x => ?_
  split
  · exact hf x
  · exact ⟨rfl, rfl, rfl, rfl⟩

theorem closeTxns (h : DownLaws s) (rs : List Txn) (o : CloseOutcome) : DownLaws (s.closeTxns rs o) :=
  h.of_worked ((Worked.refl s).claimed ((Claimed.refl s).closeTxns rs o)) ((Bare.bookClaims _).closeTxns h.2 rs o)

theorem admitTxn (h : DownLaws s) (tag : Tag) (k : LongKind) {i : Ident} {off len : Nat} (w : TxnWork)
    (hadm : s.txnRefusal i off len = none) : DownLaws (s.admitTxn tag k i w) := by
  unfold State.admitTxn
  split
  · rename_i e he
    have hbound : e.standing.isBound = true := by
      simp only [State.txnRefusal, he] at hadm
      split at hadm
      · exact nomatch hadm
      · rename_i hb
        simpa using hb
    have hup := h.up_of_bound (State.mem_of_lookup he).1 hbound
    exact ((h.host (.take s _)).setQueue (by rwa [State.line_take]) _).updNamed i fun x => ⟨rfl, rfl, rfl, rfl⟩
  · exact h

theorem admitForget (h : DownLaws s) (tag : Tag) {e : Entry} (he : s.lookup e.identity = some e) :
    DownLaws (s.admitForget tag e) := by
  obtain ⟨hmem, -⟩ := State.mem_of_lookup he
  have htaken := h.host (.take s { tag := tag, kind := .forget, line := e.line, state := .queued, target := some e.identity })
  unfold State.admitForget
  dsimp only
  split
  · rename_i hbound
    refine closeTxns (setQueue (htaken.updNamed _ (f := fun x => { x with
      forgetting := some tag, pendingTx := x.pendingTx + 1 }) fun x => ⟨rfl, rfl, rfl, rfl⟩) ?_ _) _ _
    rw [State.line_updNamed, State.line_take]
    exact h.up_of_bound hmem hbound
  · have hremoved : DownLaws (State.removeEntry _ e) :=
      htaken.of_worked ((Worked.refl _).claimed ((Claimed.refl _).removeEntry e)) (htaken.2.removeEntry e)
    exact hremoved.closed _ _ _

theorem coreLaw : CoreLaw DownLaws where
  same h hs := h.of_worked (fun l => by rw [hs.line]; exact .refl _)
    (h.2.same (.of_lines hs.params hs.roster hs.nextSerial hs.line))
  serveReset _ tag := .of_reset rfl fun l => by cases l <;> rfl
  powerOn := .of_reset rfl fun l => by cases l <;> rfl
  setParam h tag id v _ := h.setParam tag id v
  cancel h q _ _ := (h.of_worked ((Worked.refl _).haltRequest .cancel q)
    ((Bare.bookClaims _).haltRequest h.2 .cancel q)).settle
  stop h tag _ _ _ := h.admitStop tag
  census {s} h tag l policy exponent budget n bits _ hadm := by
    have hup : (s.line l).power = .up := by
      by_contra hn
      rw [State.censusRefusal, if_pos hn] at hadm
      exact nomatch hadm
    have htaken := h.host (.take s { tag := tag, kind := .census, line := l, state := .queued, target := none })
    exact htaken.setLine (by rwa [State.line_take]) (by rwa [State.line_take]) rfl rfl rfl rfl rfl
  txn h tag w i off len _ _ hadm := h.admitTxn tag w.kind w hadm
  forget h tag e _ he _ := h.admitForget tag he
  power h tag l d _ hbusy := (h.host (.take _ _)).actPower l d tag (by rwa [State.line_take])
  inner h hc he := h.inner hc he

end DownLaws

end Sys2Proof.Machine
end

section
/-! The contenders of a line (R98, R124, section 8.1): what a claim, its settling, the end of an operation and a grant leave
of the passed-over counts. -/

namespace Sys2Proof.Machine

open Sys2Proof.Statements

theorem waitLaw_iff {s : State} {l : Line} :
    WaitLaw s l ↔ ((s.waitsT l = false → (s.line l).passedT = 0) ∧ (s.waitsP l = false → (s.line l).passedP = 0) ∧
      (s.waitsC l = false → (s.line l).passedC = 0)) ∧ s.cycleDone l = false := by
  unfold WaitLaw
  simp only [List.mem_cons, List.not_mem_nil, or_false, forall_eq_or_imp, forall_eq]
  exact Iff.rfl

/-- The counts of a line that its arbiter keeps. -/
def LineState.CountsOk (L : LineState) : Prop :=
  (L.passedT ≤ 2 ∧ L.passedP ≤ 4 ∧ L.passedC ≤ 5) ∧ (L.passedT = 1 → L.passedP = 0 ∨ L.passedC = 0) ∧
    (L.passedT = 2 → L.passedP ≤ 1 ∧ L.passedC ≤ 1) ∧ (L.passedC = 5 → L.passedP = 0)

theorem LineState.CountsOk.of_counts {L M : LineState} (h : L.CountsOk) (ht : M.passedT = L.passedT ∨ M.passedT = 0)
    (hp : M.passedP = L.passedP ∨ M.passedP = 0) (hc : M.passedC = L.passedC ∨ M.passedC = 0) : M.CountsOk := by
  obtain ⟨⟨hT, hP, hC⟩, hone, htwo, hfive⟩ := h
  refine ⟨⟨?_, ?_, ?_⟩, fun h => ?_, fun h => ?_, fun h => ?_⟩
  · rcases ht with h | h <;> omega
  · rcases hp with h | h <;> omega
  · rcases hc with h | h <;> omega
  · have := hone (by omega)
    omega
  · have := htwo (by omega)
    omega
  · have := hfive (by omega)
    omega

theorem LineState.CountsOk.of_zero {L : LineState} (h : L.passedT = 0 ∧ L.passedP = 0 ∧ L.passedC = 0) : L.CountsOk := by
  obtain ⟨ht, hp, hc⟩ := h
  refine ⟨by omega, fun h => by omega, fun h => by omega, fun _ => hp⟩

/-- A line's waiting contenders and their counts. -/
def Attended (s : State) (l : Line) : Prop := WaitLaw s l ∧ (s.line l).CountsOk

/-! ## Lines that wait as before -/

/-- The same contenders wait for a line, with the same counts. -/
structure SameWaits (s t : State) (l : Line) : Prop where
  queue : (t.line l).queue.isEmpty = (s.line l).queue.isEmpty
  running : (t.line l).cycleRunning = (s.line l).cycleRunning
  left : t.membersLeft l = s.membersLeft l
  census : (t.line l).census.isSome = (s.line l).census.isSome
  attempt : (t.line l).attemptInFlight = (s.line l).attemptInFlight
  polling : (t.line l).pollInProgress = (s.line l).pollInProgress
  slot : (t.line l).slotInProgress = (s.line l).slotInProgress
  counts : (t.line l).passedT = (s.line l).passedT ∧ (t.line l).passedP = (s.line l).passedP ∧
    (t.line l).passedC = (s.line l).passedC

theorem State.membersLeft_congr {s t : State} {l : Line} (hp : (t.line l).poll = (s.line l).poll)
    (hb : ∀ n, t.memberBound l n = s.memberBound l n) : t.membersLeft l = s.membersLeft l := by
  rw [State.membersLeft, State.membersLeft, hp, funext hb]

theorem SameWaits.attended {s t : State} {l : Line} (k : SameWaits s t l) (h : Attended s l) : Attended t l := by
  obtain ⟨hwait, hcounts⟩ := h
  obtain ⟨ht, hp, hc⟩ := k.counts
  refine ⟨?_, hcounts.of_counts (.inl ht) (.inl hp) (.inl hc)⟩
  rw [waitLaw_iff] at hwait ⊢
  simp only [State.waitsT, State.waitsP, State.waitsC, State.cycleDone, k.queue, k.running, k.census, k.attempt,
    k.polling, k.slot, k.left, ht, hp, hc] at hwait ⊢
  exact hwait

theorem SameWaits.of_line {s t : State} {l : Line} (hl : t.line l = s.line l)
    (hb : ∀ n, t.memberBound l n = s.memberBound l n) : SameWaits s t l := by
  refine ⟨?_, ?_, State.membersLeft_congr (by rw [hl]) hb, ?_, ?_, ?_, ?_, ?_, ?_, ?_⟩ <;> rw [hl]

/-- Members stay BOUND on a line when the roster loses no entry BOUND there. -/
theorem memberBound_filterMap {s t : State} {m : Line} {f : Entry → Option Entry} (hr : t.roster = s.roster.filterMap f)
    (hsome : ∀ x y, f x = some y → y.serial = x.serial ∧ y.boundOn m = x.boundOn m)
    (hnone : ∀ x ∈ s.roster, f x = none → x.boundOn m = false) (n : Nat) : t.memberBound m n = s.memberBound m n := by
  rw [State.memberBound, State.memberBound, hr, Bool.eq_iff_iff, List.any_eq_true, List.any_eq_true]
  constructor
  · rintro ⟨y, hy, hyn⟩
    obtain ⟨x, hx, hxy⟩ := List.mem_filterMap.mp hy
    obtain ⟨hserial, hbound⟩ := hsome x y hxy
    exact ⟨x, hx, by rwa [hserial, hbound] at hyn⟩
  · rintro ⟨x, hx, hxn⟩
    cases hfx : f x with
    | none =>
      rw [hnone x hx hfx, Bool.and_false] at hxn
      exact nomatch hxn
    | some y =>
      obtain ⟨hserial, hbound⟩ := hsome x y hfx
      exact ⟨y, List.mem_filterMap.mpr ⟨x, hx, hfx⟩, by rwa [hserial, hbound]⟩

theorem memberBound_map {s t : State} {m : Line} {g : Entry → Entry} (hr : t.roster = s.roster.map g)
    (hg : ∀ x, (g x).serial = x.serial ∧ (g x).boundOn m = x.boundOn m) (n : Nat) :
    t.memberBound m n = s.memberBound m n := by
  refine memberBound_filterMap (f := some ∘ g) (by rw [hr, List.filterMap_eq_map]) (fun x y hxy => ?_)
    (fun x _ hx => nomatch hx) n
  obtain rfl := Option.some.inj hxy
  exact hg x

/-- The sweep of a line is nothing to the other line. -/
theorem State.lineDown_other {s : State} (hr : RosterLaw s) {l m : Line} (hm : m ≠ l) :
    (s.lineDown l).line m = s.line m ∧ ∀ n, (s.lineDown l).memberBound m n = s.memberBound m n := by
  have hlm : (l == m) = false := by simpa using Ne.symm hm
  rw [State.lineDown_eq hr]
  refine ⟨by rw [State.line_closeAll, State.line_setLine_of_ne _ hm, State.line_with_roster], fun n => ?_⟩
  have hdown : ∀ k, ({ s with roster := unpoweredRoster l s.roster } : State).memberBound m k = s.memberBound m k := by
    refine memberBound_filterMap (f := unpoweredEntry l) rfl (fun x y hxy => ⟨(unpoweredEntry_keepsIds l x y hxy).1, ?_⟩)
      fun x _ hx => ?_
    · rcases unpoweredEntry_cases hxy with ⟨rfl, -⟩ | ⟨-, hb, rfl⟩ | ⟨o, hst, -, rfl⟩
      · rfl
      · have hl : x.line = l := by
          simp only [Entry.boundOn, Bool.and_eq_true, beq_iff_eq] at hb
          exact hb.1
        simp only [Entry.boundOn, hl, hlm, Bool.false_and]
      · simp [Entry.boundOn, hst, Standing.isBound]
    · by_cases hl : x.line = l
      · simp only [Entry.boundOn, hl, hlm, Bool.false_and]
      · exact nomatch (if_neg hl).symm.trans hx
  exact (memberBound_map (g := fun x => { x with pendingTx := x.pendingTx - _ })
    (s := { s with roster := unpoweredRoster l s.roster }) (State.closeAll_roster ..|>.trans (State.setLine_roster ..))
    (fun x => ⟨rfl, rfl⟩) n).trans (hdown n)

/-- An idle line has nobody waiting. -/
theorem Attended.of_idle {s : State} {l : Line} (h : (s.line l).Idle) : Attended s l := by
  obtain ⟨hcensus, hpoll, hqueue, hop, ht, hp, hc⟩ := h
  refine ⟨waitLaw_iff.mpr ⟨⟨fun _ => ht, fun _ => hp, fun _ => hc⟩, ?_⟩, .of_zero ⟨ht, hp, hc⟩⟩
  simp [State.cycleDone, LineState.cycleRunning, hpoll]

/-! ## Settling -/

/-- A cycle that has just started has something to do or does not run (R92, R98). -/
theorem State.cycleDone_startCycle (s : State) (l : Line) : (s.startCycle l).cycleDone l = false := by
  rw [State.startCycle_eq, State.cycleDone]
  cases hmembers : s.boundEntries l with
  | nil =>
    have hidle : (cycleFrom l s.clock s.params.pollPeriod s.roster).running = false := by
      simp only [← State.boundEntries_eq, hmembers, List.map_nil]
      rfl
    rw [LineState.cycleRunning, State.line_setLine, Option.any_some, hidle, Bool.false_and, Bool.false_and]
  | cons e es =>
    have he : e ∈ s.boundEntries l := hmembers ▸ List.mem_cons_self
    have hleft : (s.setLine l { s.line l with
        poll := some (cycleFrom l s.clock s.params.pollPeriod s.roster) }).membersLeft l = true := by
      rw [State.membersLeft, State.line_setLine, Option.any_some, List.any_eq_true]
      refine ⟨e.serial, List.mem_map_of_mem he, List.any_eq_true.mpr ⟨e, ?_, ?_⟩⟩
      · rw [State.setLine_roster]
        exact (List.mem_filter.mp he).1
      · simpa using (List.mem_filter.mp he).2
    rw [hleft, Bool.not_true, Bool.and_false]

theorem State.cycleDone_finished (s : State) (l : Line) :
    (if s.cycleDone l then s.finishCycle l else s).cycleDone l = false := by
  split
  · unfold State.finishCycle
    split
    · split
      · exact State.cycleDone_startCycle _ l
      · simp [State.cycleDone, LineState.cycleRunning]
    · rename_i hnone
      simp [State.cycleDone, LineState.cycleRunning, hnone]
  · rename_i hn
    exact Bool.eq_false_iff.mpr hn

/-- After the settling at the end of a claim nobody has a count without waiting, and no cycle is done (R98, R124). -/
theorem Attended.settle {s : State} {l : Line} (h : (s.line l).CountsOk) : Attended s.settle l := by
  obtain ⟨ht, hp, hc⟩ := lineSettled_counts s l
  have hline := State.line_settle s l
  have hbound : ∀ L, s.settle.memberBound = (s.setLine l L).memberBound := fun L =>
    State.memberBound_congr (by rw [State.settle_roster, State.setLine_roster])
  have hdone := State.cycleDone_finished s l
  rw [State.cycleFinished_eq] at hdone
  refine ⟨waitLaw_iff.mpr ⟨⟨fun hw => ?_, fun hw => ?_, fun hw => ?_⟩, ?_⟩, hline ▸ h.of_counts ht hp hc⟩
  · rw [hline]
    refine if_neg fun hwaits => ?_
    simp only [State.waitsT, hline, State.line_setLine, lineSettled, countsSettled] at hw hwaits
    exact absurd (hwaits.symm.trans hw) (by decide)
  · rw [hline]
    refine if_neg fun hwaits => ?_
    simp only [State.waitsP, State.membersLeft, hline, hbound (cycleAfter s l s.roster (s.line l)), State.line_setLine,
      lineSettled, countsSettled] at hw hwaits
    exact absurd (hwaits.symm.trans hw) (by decide)
  · rw [hline]
    refine if_neg fun hwaits => ?_
    simp only [State.waitsC, hline, State.line_setLine, lineSettled, countsSettled] at hw hwaits
    exact absurd (hwaits.symm.trans hw) (by decide)
  · rw [← hdone]
    simp only [State.cycleDone, State.membersLeft, hline, hbound (cycleAfter s l s.roster (s.line l)), State.line_setLine,
      lineSettled, countsSettled]
    rfl

/-! ## The end of an operation -/

theorem State.goOff_other {s : State} (hr : RosterLaw s) {l m : Line} (hm : m ≠ l) :
    (s.goOff l).line m = s.line m ∧ ∀ n, (s.goOff l).memberBound m n = s.memberBound m n := by
  obtain ⟨hline, hbound⟩ := State.lineDown_other (s := s.unpower l .off) (hr.modLine _ _) hm
  obtain ⟨-, -, hroster, -, -, hother⟩ :=
    ((s.unpower l .off).lineDown l).closePower_frame l .done .off (s.boundEntries l).length
  rw [State.goOff]
  refine ⟨by rw [hother m hm, hline, State.unpower, State.line_modLine_of_ne _ hm], fun n => ?_⟩
  rw [State.memberBound_congr hroster, hbound, State.unpower, State.memberBound_congr (State.modLine_roster ..)]

/-- A line stands ready for the end of its operation: nobody who will not wait then has a count, and its cycle has
something to do. -/
structure Freeable (s : State) (l : Line) : Prop where
  executor : (s.line l).queue = [] → (s.line l).passedT = 0
  scheduler : ((s.line l).cycleRunning && s.membersLeft l) = false → (s.line l).passedP = 0
  sequencer : (s.line l).census = none → (s.line l).passedC = 0
  cycle : (s.line l).cycleRunning = true → s.membersLeft l = true
  counts : (s.line l).CountsOk

/-- The end of an operation, whether an off waits for it or not (R126, R130). -/
theorem Attended.endOp {s : State} {l : Line} (hr : RosterLaw s) (h : Freeable s l)
    (ho : ∀ m, m ≠ l → Attended s m) (m : Line) : Attended (s.endOp l) m := by
  cases hoff : (s.line l).offOpen with
  | false =>
    rw [State.endOp_of_no_off hoff]
    by_cases hm : m = l
    · subst hm
      have hleft : (s.setLine m { s.line m with op := none }).membersLeft m = s.membersLeft m :=
        State.membersLeft_congr (by rw [State.line_setLine])
          fun n => by rw [State.memberBound_congr (State.setLine_roster ..)]
      obtain ⟨hexecutor, hscheduler, hsequencer, hcycle, hcounts⟩ := h
      refine ⟨waitLaw_iff.mpr ⟨⟨fun hw => ?_, fun hw => ?_, fun hw => ?_⟩, ?_⟩, by rw [State.line_setLine]; exact hcounts⟩
      · rw [State.waitsT, State.line_setLine] at hw
        rw [State.line_setLine]
        exact hexecutor (by simpa [LineState.attemptInFlight] using hw)
      · rw [State.waitsP, State.line_setLine, hleft] at hw
        rw [State.line_setLine]
        exact hscheduler (by simpa [LineState.pollInProgress, LineState.cycleRunning] using hw)
      · rw [State.waitsC, State.line_setLine] at hw
        rw [State.line_setLine]
        exact hsequencer (by simpa [LineState.slotInProgress] using hw)
      · rw [State.cycleDone, State.line_setLine, hleft]
        cases hrun : (s.line m).cycleRunning with
        | false => exact (congrArg (· && _ && _) hrun).trans (by simp)
        | true => rw [hcycle hrun, Bool.not_true, Bool.and_false]
    · refine SameWaits.attended (.of_line (State.line_setLine_of_ne _ hm _) fun n => ?_) (ho m hm)
      rw [State.memberBound_congr (State.setLine_roster ..)]
  | true =>
    by_cases hm : m = l
    · subst hm
      obtain ⟨-, -, ⟨hno, -⟩ | ⟨-, hwent⟩, -⟩ := s.endOp_frame m
      · exact nomatch hoff.symm.trans hno
      · exact .of_idle ⟨hwent.census, hwent.poll, hwent.queue, hwent.op, hwent.counts⟩
    · have hgo : s.endOp l = (s.modLine l fun L => { L with op := none }).goOff l := by
        have : ((s.modLine l fun L => { L with op := none }).line l).offOpen = true := by
          rw [State.line_modLine]; exact hoff
        simp only [State.endOp, this, if_true]
      obtain ⟨hline, hbound⟩ := State.goOff_other (s := s.modLine l fun L => { L with op := none }) (hr.modLine _ _) hm
      rw [hgo]
      refine SameWaits.attended (.of_line (hline.trans (State.line_modLine_of_ne _ hm _)) fun n => ?_) (ho m hm)
      rw [hbound, State.memberBound_congr (State.modLine_roster ..)]

/-- A line whose operation is not a poll stands ready for its end. -/
theorem Attended.freeable {s : State} {l : Line} (h : Attended s l) (hop : (s.line l).pollInProgress = false) :
    Freeable s l := by
  obtain ⟨hwait, hcounts⟩ := h
  obtain ⟨⟨hT, hP, hC⟩, hdone⟩ := waitLaw_iff.mp hwait
  refine ⟨fun hq => hT (by simp [State.waitsT, hq]), fun hr => hP ?_, fun hc => hC (by simp [State.waitsC, hc]),
    fun hr => ?_, hcounts⟩
  · rw [State.waitsP, hop, Bool.not_false, Bool.and_true]
    exact hr
  · simpa [State.cycleDone, hop, hr] using hdone

/-- A slot operation's end leaves the waiting to the census: its count is 0 while its slot operation runs. -/
theorem Freeable.censusOnly {s t : State} {l : Line} (h : Freeable s l) (k : CensusOnly s t l)
    (hcount : (s.line l).passedC = 0) : Freeable t l := by
  obtain ⟨hexecutor, hscheduler, -, hcycle, hcounts⟩ := h
  obtain ⟨honly, c, hline⟩ := k
  have hleft : t.membersLeft l = s.membersLeft l :=
    State.membersLeft_congr (by rw [hline]) fun n => by rw [State.memberBound_congr honly.roster]
  refine ⟨?_, ?_, ?_, ?_, ?_⟩ <;> rw [hline]
  · exact hexecutor
  · rw [hleft]; exact hscheduler
  · exact fun _ => hcount
  · rw [hleft]; exact hcycle
  · exact hcounts

end Sys2Proof.Machine
end

section
/-! The lines stay legal, and no contender is passed over too often (section 8.1, R98, R124): every step. -/

namespace Sys2Proof.Machine

open Sys2Proof.Statements

/-- The laws of O55. -/
def LineLaws (s : State) : Prop := DownLaws s ∧ ∀ l, Attended s l

theorem lineLaws_iff {s : State} :
    LineLaws s ↔ RosterLaw s ∧ OnBothLines DownLaw s ∧ OnBothLines PowerLaw s ∧ OnBothLines WaitLaw s ∧
      OnBothLines ArbiterLaw s := by
  simp only [onBothLines_iff]
  constructor
  · rintro ⟨hdown, hattended⟩
    obtain ⟨hroster, hd, hp⟩ := downLaws_iff.mp hdown
    exact ⟨hroster, hd, hp, fun l => (hattended l).1, fun l => (hattended l).2⟩
  · rintro ⟨hroster, hd, hp, hw, hc⟩
    exact ⟨downLaws_iff.mpr ⟨hroster, hd, hp⟩, fun l => ⟨hw l, hc l⟩⟩

/-- Every line's counts are such as its arbiter keeps. -/
def Counted (s : State) : Prop := ∀ l, (s.line l).CountsOk

namespace Counted

variable {s t : State} {l : Line}

theorem of_attended (h : ∀ l, Attended s l) : Counted s := fun l => (h l).2

theorem worked (h : Counted s) (k : Worked s t) : Counted t := fun l => by
  obtain ⟨_, _, _, _, _, _, heq, -⟩ := k l
  rw [heq]
  exact h l

theorem claimed (h : Counted s) (k : Claimed s t) : Counted t := h.worked ((Worked.refl s).claimed k)

theorem settle (h : Counted s) (l : Line) : Attended s.settle l := .settle (h l)

theorem of_line (h : Counted s) (hl : (t.line l).CountsOk) (ho : ∀ m, m ≠ l → t.line m = s.line m) : Counted t :=
  fun m => by
    by_cases hm : m = l
    · exact hm ▸ hl
    · rw [ho m hm]; exact h m

theorem endOp (h : Counted s) (l : Line) : Counted (s.endOp l) := fun m => by
  obtain ⟨-, -, hself, hother⟩ := s.endOp_frame l
  by_cases hm : m = l
  · subst hm
    rcases hself with ⟨-, heq⟩ | ⟨-, hwent⟩
    · rw [heq, State.line_setLine]
      exact h m
    · exact .of_zero hwent.counts
  · obtain ⟨_, _, _, _, _, heq, -⟩ := hother m hm
    rw [heq]
    exact h m

theorem endSlot (h : Counted s) (l : Line) (f : Census → Census) (event : Option (Nat → Nat → Event)) :
    Counted ((s.modCensus l f).finishSlot l event) := by
  obtain ⟨honly, c, hline⟩ := (CensusOnly.modCensus s l f).trans (.slotEnd _ l event)
  refine (h.of_line (l := l) ?_ honly.other).endOp l
  rw [hline]
  exact h l

theorem beginOp (h : Counted s) (l : Line) (w : OpWork) (c : Call) : Counted (s.beginOp l w c) := by
  refine h.of_line (l := l) ?_ fun m hm => State.line_modLine_of_ne _ hm _
  rw [State.beginOp, State.line_modLine]
  exact h l

theorem claimHeard (h : Counted s) (l : Line) (k : Handle) (w : WindowClass) : Counted (s.claimHeard l k w) := by
  have hc := (Claimed.refl s).countWindow l w
  unfold State.claimHeard
  dsimp only
  split
  · rename_i i mem
    split
    · split
      · rename_i u n a lease v heq
        obtain rfl : _ = u := congrArg Prod.fst heq
        exact (h.claimed (hc.find l i mem)).beginOp l _ _
      · rename_i u r v heq
        obtain rfl : _ = u := congrArg Prod.fst heq
        exact (h.claimed (hc.find l i mem)).beginOp l _ _
    · exact (h.claimed hc).endSlot l _ _
  · exact (h.claimed hc).endSlot l _ _

end Counted

/-- Addresses, counters and the supervisor's fields are of no matter to the waiting. -/
theorem SameWaits.of_fields {s t : State} {l : Line}
    (h : ∃ p o a v k pool q n, t.line l = { s.line l with
      power := p, openPower := o, settleAt := a, speed := v, counters := k, pool := pool, quarantine := q, nextSeq := n })
    (hb : ∀ n, t.memberBound l n = s.memberBound l n) : SameWaits s t l := by
  obtain ⟨_, _, _, _, _, _, _, _, heq⟩ := h
  exact ⟨congrArg (fun L => L.queue.isEmpty) heq, congrArg (fun L => L.cycleRunning) heq,
    State.membersLeft_congr (congrArg (fun L => L.poll) heq) hb, congrArg (fun L => L.census.isSome) heq,
    congrArg (fun L => L.attemptInFlight) heq, congrArg (fun L => L.pollInProgress) heq,
    congrArg (fun L => L.slotInProgress) heq, congrArg (fun L => L.passedT) heq,
    congrArg (fun L => L.passedP) heq, congrArg (fun L => L.passedC) heq⟩

namespace Attended

variable {s t : State} {l : Line}

theorem host (h : ∀ l, Attended s l) (k : HostOnly s t) (l : Line) : Attended t l :=
  SameWaits.attended (.of_line (k.line l) fun n => by rw [State.memberBound_congr k.roster]) (h l)

/-- A change of one line that nobody's waiting depends on. -/
theorem of_line (h : ∀ l, Attended s l) (hl : Attended t l) (hr : t.roster = s.roster)
    (ho : ∀ m, m ≠ l → t.line m = s.line m) (m : Line) : Attended t m := by
  by_cases hm : m = l
  · exact hm ▸ hl
  · exact SameWaits.attended (.of_line (ho m hm) fun n => by rw [State.memberBound_congr hr]) (h m)

theorem countWindow (h : ∀ l, Attended s l) (l : Line) (w : WindowClass) (m : Line) : Attended (s.countWindow l w) m := by
  rw [State.countWindow_eq]
  refine of_line h (l := l) (SameWaits.attended ?_ (h l)) (State.setLine_roster ..)
    (fun m hm => State.line_setLine_of_ne _ hm _) m
  exact .of_fields ⟨_, _, _, _, _, _, _, _, State.line_setLine ..⟩ fun n => by
    rw [State.memberBound_congr (State.setLine_roster ..)]

/-- The end of a slot operation. -/
theorem endSlot (h : ∀ l, Attended s l) (hr : RosterLaw s) {o : LineOp} (ho : (s.line l).op = some o)
    (hslot : o.isSlot = true) (hpoll : o.isPoll = false) (f : Census → Census) (event : Option (Nat → Nat → Event))
    (m : Line) : Attended ((s.modCensus l f).finishSlot l event) m := by
  have hc := (CensusOnly.modCensus s l f).trans (.slotEnd _ l event)
  have hcount : (s.line l).passedC = 0 := by
    obtain ⟨⟨-, -, hC⟩, -⟩ := waitLaw_iff.mp (h l).1
    exact hC (by simp [State.waitsC, LineState.slotInProgress, ho, hslot])
  have hfree := (h l).freeable (by simp [LineState.pollInProgress, ho, hpoll])
  refine Attended.endOp (BookSame.rosterLaw (.of_censusOnly hc) hr) (hfree.censusOnly hc hcount) (fun k hk => ?_) m
  exact SameWaits.attended (.of_line (hc.1.other k hk) fun n => by rw [State.memberBound_congr hc.1.roster]) (h k)

/-- Entries change, none of them in being BOUND. -/
theorem map (h : ∀ l, Attended s l) {g : Entry → Entry}
    (hg : ∀ x, (g x).serial = x.serial ∧ (g x).line = x.line ∧ (g x).standing = x.standing) (l : Line) :
    Attended { s with roster := s.roster.map g } l := by
  refine SameWaits.attended (.of_line (State.line_with_roster ..) fun n => ?_) (h l)
  exact memberBound_map rfl (fun x => ⟨(hg x).1, by rw [Entry.boundOn, (hg x).2.1, (hg x).2.2]; rfl⟩) n

theorem updNamed (h : ∀ l, Attended s l) (i : Ident) {f : Entry → Entry}
    (hf : ∀ x, (f x).serial = x.serial ∧ (f x).line = x.line ∧ (f x).standing = x.standing) (l : Line) :
    Attended (s.updNamed i f) l := by
  refine map h (g := fun x => if x.identity = i then f x else x) (fun x => ?_) l
  split
  · exact hf x
  · exact ⟨rfl, rfl, rfl⟩

/-- A queue that is not empty after. -/
theorem setQueue (h : ∀ l, Attended s l) (l : Line) {q : List Txn} (hq : q ≠ []) (m : Line) :
    Attended (s.setQueue l q) m := by
  have hline : (s.setQueue l q).line l = { s.line l with queue := q } := State.line_modLine ..
  have hroster : (s.setQueue l q).roster = s.roster := State.modLine_roster ..
  refine of_line h (l := l) ?_ hroster (fun m hm => State.line_modLine_of_ne _ hm _) m
  have hleft : (s.setQueue l q).membersLeft l = s.membersLeft l :=
    State.membersLeft_congr (by rw [hline]) fun n => by rw [State.memberBound_congr hroster]
  obtain ⟨hwait, hcounts⟩ := h l
  obtain ⟨⟨hT, hP, hC⟩, hdone⟩ := waitLaw_iff.mp hwait
  refine ⟨waitLaw_iff.mpr ⟨⟨fun hw => ?_, fun hw => ?_, fun hw => ?_⟩, ?_⟩, by rw [hline]; exact hcounts⟩
  · rw [State.waitsT, hline] at hw
    rw [hline]
    have hin : (s.line l).attemptInFlight = true := by simpa [LineState.attemptInFlight, hq] using hw
    exact hT (by simp [State.waitsT, hin])
  · rw [State.waitsP, hleft, hline] at hw
    rw [hline]
    exact hP hw
  · rw [State.waitsC, hline] at hw
    rw [hline]
    exact hC hw
  · rw [State.cycleDone, hleft, hline]
    exact hdone

theorem closeTxns (h : ∀ l, Attended s l) (rs : List Txn) {o : CloseOutcome} (ho : o ≠ .done) (l : Line) :
    Attended (s.closeTxns rs o) l := by
  rw [State.closeTxns_eq_closeAll ho]
  refine host (map h fun x => ?_) (.closeAll _ _) l
  exact ⟨rfl, rfl, rfl⟩

/-- The removal of an entry that is not BOUND. -/
theorem removeEntry (h : ∀ l, Attended s l) (hr : RosterLaw s) {e : Entry} (he : e ∈ s.roster)
    (hb : e.standing.isBound = false) (l : Line) : Attended (s.removeEntry e) l := by
  rw [State.removeEntry_eq]
  have hbound : ∀ n, ({ s with roster := s.roster.filter (·.serial != e.serial) } : State).memberBound l n =
      s.memberBound l n := by
    refine memberBound_filterMap (f := Option.guard fun x => x.serial != e.serial) (by rw [List.filterMap_eq_filter])
      (fun x y hxy => ?_) fun x hx hxn => ?_
    · obtain ⟨rfl, -⟩ := Option.guard_eq_some_iff.mp hxy
      exact ⟨rfl, rfl⟩
    · rw [Option.guard_eq_none_iff] at hxn
      obtain rfl := hr.serial_inj hx he (by simpa using hxn)
      simp [Entry.boundOn, hb]
  by_cases hl : l = e.line
  · subst hl
    refine SameWaits.attended (.of_fields ⟨_, _, _, _, _, _, _, _, State.line_setLine ..⟩ fun n => ?_) (h e.line)
    rw [State.memberBound_congr (State.setLine_roster ..)]
    exact hbound n
  · refine SameWaits.attended (.of_line (by rw [State.line_setLine_of_ne _ hl, State.line_with_roster]) fun n => ?_) (h l)
    rw [State.memberBound_congr (State.setLine_roster ..)]
    exact hbound n

theorem goOff (h : ∀ l, Attended s l) (hr : RosterLaw s) (l m : Line) : Attended (s.goOff l) m := by
  by_cases hm : m = l
  · subst hm
    obtain ⟨-, -, hwent, -⟩ := s.goOff_frame m
    exact .of_idle ⟨hwent.census, hwent.poll, hwent.queue, hwent.op, hwent.counts⟩
  · obtain ⟨hline, hbound⟩ := State.goOff_other hr hm
    exact SameWaits.attended (.of_line hline hbound) (h m)

/-- The supervisor's fields are of no matter to the waiting. -/
theorem setPower (h : ∀ l, Attended s l) (l : Line) (p : LinePower) (o : Option (Tag × Direction)) (c : Option Clock)
    (n : Option Nat) (m : Line) :
    Attended (s.setLine l { s.line l with power := p, openPower := o, settleAt := c, speed := n }) m := by
  refine of_line h (l := l) (SameWaits.attended ?_ (h l)) (State.setLine_roster ..)
    (fun m hm => State.line_setLine_of_ne _ hm _) m
  exact .of_fields ⟨_, _, _, _, _, _, _, _, State.line_setLine ..⟩ fun n => by
    rw [State.memberBound_congr (State.setLine_roster ..)]

theorem closePower (h : ∀ l, Attended s l) (l : Line) (o : CloseOutcome) (p : LinePower) (n : Nat) (m : Line) :
    Attended (s.closePower l o p n) m := by
  cases hp : (s.line l).openPower with
  | none => rw [State.closePower_of_none hp]; exact h m
  | some d =>
    rw [State.closePower_eq hp]
    exact host (setPower h l _ none _ _) (.closeAll _ _) m

theorem actPower (h : ∀ l, Attended s l) (hr : RosterLaw s) (l : Line) (d : Direction) (tag : Tag) (m : Line) :
    Attended (s.actPower l d tag) m := by
  have hclose : ∀ o x, ∀ m, Attended (s.close tag o x) m := fun o x => host h (.closeAll s [report tag (.closed o x)])
  unfold State.actPower
  split
  · exact setPower h l _ _ _ _ m
  · exact setPower h l _ _ _ _ m
  · exact hclose _ _ m
  · exact hclose _ _ m
  · exact hclose _ _ m
  · dsimp only
    split
    · exact setPower h l _ _ _ _ m
    · exact goOff (fun m => setPower h l _ _ _ _ m) (hr.of_eq (State.setLine_roster ..) (State.setLine_nextSerial ..)) l m
  · exact host (closePower (s := s.unpower l .off) (fun m => setPower h l _ _ _ _ m) l _ _ _)
      (.closeAll _ [report tag (.closed _ _)]) m
  · exact setPower h l _ _ _ _ m

end Attended

/-! ## A grant -/

/-- The first of a list in order of priority that has been passed over often, or else its head, goes before every other. -/
theorem goesFirst {ws : List Contender} (hs : ws.Pairwise (priority · < priority ·)) {often : Contender → Bool}
    {c : Contender} (h : (ws.find? often).or ws.head? = some c) :
    c ∈ ws ∧ ∀ d ∈ ws, d ≠ c → (often c = true ∧ often d = false) ∨ (often c = often d ∧ priority c < priority d) := by
  cases hfind : ws.find? often with
  | some b =>
    rw [hfind, Option.some_or] at h
    obtain rfl := Option.some.inj h
    obtain ⟨hover, before, after, rfl, hbefore⟩ := List.find?_eq_some_iff_append.mp hfind
    refine ⟨by simp, fun d hd hne => ?_⟩
    rcases List.mem_append.mp hd with hd | hd
    · exact .inl ⟨hover, by simpa using hbefore d hd⟩
    · have hd := (List.mem_cons.mp hd).resolve_left hne
      have hlt := List.rel_of_pairwise_cons (List.pairwise_append.mp hs).2.1 hd
      cases hod : often d with
      | true => exact .inr ⟨hover, hlt⟩
      | false => exact .inl ⟨hover, rfl⟩
  | none =>
    rw [hfind, Option.none_or] at h
    obtain ⟨rest, rfl⟩ := List.head?_eq_some_iff.mp h
    have hno := List.find?_eq_none.mp hfind
    refine ⟨List.mem_cons_self, fun d hd hne => .inr ⟨?_, ?_⟩⟩
    · have hc : often c = false := by simpa using hno c List.mem_cons_self
      have hod : often d = false := by simpa using hno d hd
      rw [hc, hod]
    · exact List.rel_of_pairwise_cons hs ((List.mem_cons.mp hd).resolve_left hne)

/-- The arbiter's choice (R125): the contender that waits and goes before every other that waits. -/
theorem State.chosen_iff {s : State} {l : Line} {c : Contender} :
    s.chosen l = some c ↔ s.waits l c = true ∧ ∀ d, d ≠ c → s.waits l d = true → GoesBefore (s.line l) c d := by
  have hall : ∀ d, s.waits l d = true ↔ d ∈ [Contender.executor, .scheduler, .sequencer].filter (s.waits l) := fun d => by
    rw [List.mem_filter]
    cases d <;> simp
  have hsorted : ([Contender.executor, .scheduler, .sequencer].filter (s.waits l)).Pairwise (priority · < priority ·) :=
    List.Pairwise.filter _ (by decide)
  have hchosen : s.chosen l = (([Contender.executor, .scheduler, .sequencer].filter (s.waits l)).find?
      fun c => Config.passedLimit ≤ (s.line l).passed c).or
        ([Contender.executor, .scheduler, .sequencer].filter (s.waits l)).head? := by
    unfold State.chosen
    dsimp only
    cases List.find? _ _ <;> rfl
  have hfirst : ∀ {d}, s.chosen l = some d → s.waits l d = true ∧
      ∀ e, e ≠ d → s.waits l e = true → GoesBefore (s.line l) d e := by
    intro d hd
    rw [hchosen] at hd
    obtain ⟨hmem, hbefore⟩ := goesFirst hsorted hd
    refine ⟨(hall d).mpr hmem, fun e hne he => (hbefore e ((hall e).mp he) hne).imp ?_ ?_⟩
    · rintro ⟨hd, he⟩
      exact ⟨of_decide_eq_true hd, Nat.lt_of_not_le (of_decide_eq_false he)⟩
    · rintro ⟨heq, hlt⟩
      exact ⟨decide_eq_decide.mp heq, hlt⟩
  refine ⟨hfirst, fun ⟨hwaits, hbefore⟩ => ?_⟩
  cases hd : s.chosen l with
  | none =>
    rw [hchosen] at hd
    have hnil := List.head?_eq_none_iff.mp (Option.or_eq_none_iff.mp hd).2
    exact absurd ((hall c).mp hwaits) (by rw [hnil]; exact List.not_mem_nil)
  | some d =>
    obtain ⟨hdwaits, hdbefore⟩ := hfirst hd
    by_contra hne
    have hne : d ≠ c := fun h => hne (congrArg some h)
    have hcd := hbefore d hne hdwaits
    have hdc := hdbefore c (Ne.symm hne) hwaits
    unfold GoesBefore at hcd hdc
    omega

/-- The arbiter keeps its counts (section 8.1, What the counts guarantee). -/
theorem LineState.CountsOk.granted {s : State} {l : Line} (h : Attended s l) {c : Contender} (hc : s.chosen l = some c)
    {L : LineState} (hL : ∀ x, L.passed x = if x = c then 0 else passedOver s l x) : L.CountsOk := by
  obtain ⟨hwait, ⟨hlimT, hlimP, hlimC⟩, hone, htwo, hfive⟩ := h
  obtain ⟨hwaits, hbefore⟩ := State.chosen_iff.mp hc
  have hself : L.passed c = 0 := by rw [hL, if_pos rfl]
  have hother : ∀ x, x ≠ c →
      L.passed x = 0 ∨ (L.passed x = (s.line l).passed x + 1 ∧ GoesBefore (s.line l) c x) := fun x hx => by
    rw [hL, if_neg hx, passedOver]
    cases hw : s.waits l x with
    | true => exact .inr ⟨rfl, hbefore x hx hw⟩
    | false => exact .inl (hwait.1 x (by cases x <;> decide) hw)
  unfold LineState.CountsOk
  cases c with
  | executor =>
    rcases hother .scheduler (by decide) with hp | ⟨hp, hpbefore⟩ <;>
      rcases hother .sequencer (by decide) with hs | ⟨hs, hsbefore⟩ <;>
      simp only [GoesBefore, LineState.passed, priority] at * <;> omega
  | scheduler =>
    rcases hother .executor (by decide) with ht | ⟨ht, htbefore⟩ <;>
      rcases hother .sequencer (by decide) with hs | ⟨hs, hsbefore⟩ <;>
      simp only [GoesBefore, LineState.passed, priority] at * <;> omega
  | sequencer =>
    rcases hother .executor (by decide) with ht | ⟨ht, htbefore⟩ <;>
      rcases hother .scheduler (by decide) with hp | ⟨hp, hpbefore⟩ <;>
      simp only [GoesBefore, LineState.passed, priority] at * <;> omega

theorem State.line_countGrant (s : State) (l : Line) (c : Contender) (waiting : Contender → Bool) :
    (s.countGrant l c waiting).line l = { s.line l with
      passedT := if Contender.executor = c then 0 else if waiting .executor then (s.line l).passedT + 1 else (s.line l).passedT
      passedP := if Contender.scheduler = c then 0 else if waiting .scheduler then (s.line l).passedP + 1 else (s.line l).passedP
      passedC := if Contender.sequencer = c then 0 else if waiting .sequencer then (s.line l).passedC + 1
        else (s.line l).passedC } := by
  rw [State.countGrant, State.line_modLine]

namespace Attended

variable {s t : State} {l : Line}

/-- A grant (R124, R125). -/
theorem lineGrant (h : ∀ l, Attended s l) (he : exec (.lineGrant l) s = .next t) (m : Line) : Attended t m := by
  rcases exec_lineGrant he with rfl | ⟨c, u, -, -, hop, hc, hu, rfl⟩
  · exact h m
  · obtain ⟨q, p, z, o, honly, hline, hq, hp, hz, hpoll, hattempt, hpolling, hslot⟩ := begun_frame hu
    have hroster : (u.countGrant l c (s.waits l)).roster = s.roster := (State.modLine_roster ..).trans honly.roster
    refine of_line h (l := l) ?_ hroster (fun k hk => (State.line_modLine_of_ne _ hk _).trans (honly.other k hk)) m
    have hgranted := State.line_countGrant u l c (s.waits l)
    rw [hline] at hgranted
    have hcount : ∀ x, ((u.countGrant l c (s.waits l)).line l).passed x = if x = c then 0 else passedOver s l x := by
      intro x
      rw [hgranted]
      cases x <;> simp only [LineState.passed, passedOver] <;> split <;> first | rfl | (split <;> rfl)
    have hleft : c ≠ .scheduler → (u.countGrant l c (s.waits l)).membersLeft l = s.membersLeft l := fun hne =>
      State.membersLeft_congr (by rw [hgranted]; exact hpoll hne) fun n => by rw [State.memberBound_congr hroster]
    have hsame : ∀ x, x ≠ c → (u.countGrant l c (s.waits l)).waits l x = s.waits l x := by
      intro x hx
      cases x with
      | executor =>
        simp only [State.waits, State.waitsT, LineState.attemptInFlight, hgranted, hq, hop, Option.any_some, hattempt,
          Option.any_none, decide_eq_false hx.symm]
      | scheduler =>
        simp only [State.waits, State.waitsP, LineState.cycleRunning, LineState.pollInProgress, hleft hx.symm]
        simp only [hgranted, hpoll hx.symm, hop, Option.any_some, hpolling, Option.any_none, decide_eq_false hx.symm]
      | sequencer =>
        simp only [State.waits, State.waitsC, LineState.slotInProgress, hgranted, hz, hop, Option.any_some, hslot,
          Option.any_none, decide_eq_false hx.symm]
    obtain ⟨hwait, hcounts⟩ := h l
    refine ⟨⟨fun x hx hw => ?_, ?_⟩, .granted ⟨hwait, hcounts⟩ hc hcount⟩
    · rw [hcount]
      split
      · rfl
      · rename_i hne
        rw [hsame x hne] at hw
        simp only [passedOver, hwait.1 x hx hw, hw]
        rfl
    · by_cases hne : c = .scheduler
      · simp only [State.cycleDone, LineState.pollInProgress, hgranted, Option.any_some, hpolling, decide_eq_true hne,
          Bool.not_true, Bool.and_false, Bool.false_and]
      · rw [State.cycleDone, hleft hne]
        simp only [LineState.cycleRunning, LineState.pollInProgress, hgranted, hpoll hne, Option.any_some, hpolling,
          decide_eq_false hne]
        have hdone := hwait.2
        rwa [State.cycleDone, LineState.pollInProgress, hop] at hdone

/-- The last bit of a call (R3): the operation goes on. -/
theorem callSent (h : ∀ l, Attended s l) (he : exec (.callSent l) s = .next t) (m : Line) : Attended t m := by
  rcases callSent_frame he with rfl | ⟨o, p, hs, q, k, ho, hp, rfl, -⟩
  · exact h m
  · obtain ⟨hpoll, hattempt, hslot, -⟩ := hp.kinds
    refine of_line (s := { s with hush := hs }) (host h ⟨rfl, rfl, rfl, rfl, fun l => State.line_with_hush ..⟩) (l := l) ?_
      (State.setLine_roster ..) (fun k hk => State.line_setLine_of_ne _ hk _) m
    refine SameWaits.attended ⟨?_, ?_, ?_, ?_, ?_, ?_, ?_, ?_⟩ (h l)
    · rw [State.line_setLine]
    · rw [State.line_setLine]
      rfl
    · refine State.membersLeft_congr (by rw [State.line_setLine]) fun n => ?_
      rw [State.memberBound_congr (State.setLine_roster ..)]
      rfl
    · rw [State.line_setLine]
    · simp only [State.line_setLine, LineState.attemptInFlight, ho, Option.any_some, hattempt]
    · simp only [State.line_setLine, LineState.pollInProgress, ho, Option.any_some, hpoll]
    · simp only [State.line_setLine, LineState.slotInProgress, ho, Option.any_some, hslot]
    · rw [State.line_setLine]
      exact ⟨rfl, rfl, rfl⟩

/-- A slot operation goes on with its next call. -/
theorem nextCall (h : ∀ l, Attended s l) {o : LineOp} (ho : (s.line l).op = some o)
    (hslot : o.isSlot = true) (hpoll : o.isPoll = false) (hattempt : o.isAttempt = false) (f : Census → Census)
    {w : OpWork} (call : Call) (hw : (LineOp.mk w call false).isSlot = true ∧ (LineOp.mk w call false).isPoll = false ∧
      (LineOp.mk w call false).isAttempt = false) (m : Line) : Attended ((s.modCensus l f).beginOp l w call) m := by
  obtain ⟨hwslot, hwpoll, hwattempt⟩ := hw
  have hline : ((s.modCensus l f).beginOp l w call).line l =
      { s.line l with census := (s.line l).census.map f, op := some ⟨w, call, false⟩ } := by cases l <;> rfl
  have hroster : ((s.modCensus l f).beginOp l w call).roster = s.roster := by cases l <;> rfl
  refine of_line h (l := l) (SameWaits.attended ?_ (h l)) hroster (fun k hk => ?_) m
  · refine ⟨by rw [hline], by rw [hline]; rfl, State.membersLeft_congr (by rw [hline]) fun n => ?_, ?_, ?_, ?_, ?_, ?_⟩
    · rw [State.memberBound_congr hroster]
    · rw [hline, Option.isSome_map]
    · simp only [hline, LineState.attemptInFlight, ho, Option.any_some, hattempt, hwattempt]
    · simp only [hline, LineState.pollInProgress, ho, Option.any_some, hpoll, hwpoll]
    · simp only [hline, LineState.slotInProgress, ho, Option.any_some, hslot, hwslot]
    · rw [hline]
      exact ⟨rfl, rfl, rfl⟩
  · rw [State.beginOp, State.line_modLine_of_ne _ hk, State.modCensus, State.line_modLine_of_ne _ hk]

/-- The end of an operation that is no poll, after the settling of what it claimed. -/
theorem endSettled (h : Counted s) (hr : RosterLaw s) {o : LineOp} (ho : (s.line l).op = some o)
    (hpoll : o.isPoll = false) (m : Line) : Attended (s.settle.endOp l) m := by
  refine Attended.endOp (BookSame.rosterLaw (.settle s) hr) (Attended.freeable (h.settle l) ?_) (fun k _ => h.settle k) m
  rw [LineState.pollInProgress, State.settle_op, ho, Option.any_some, hpoll]

/-- A cycle starts where none runs. -/
theorem startCycle (h : ∀ l, Attended s l) (hp : (s.line l).passedP = 0) (m : Line) : Attended (s.startCycle l) m := by
  have hdone := State.cycleDone_startCycle s l
  rw [State.startCycle_eq] at hdone ⊢
  refine of_line h (l := l) ?_ (State.setLine_roster ..) (fun k hk => State.line_setLine_of_ne _ hk _) m
  obtain ⟨hwait, hcounts⟩ := h l
  obtain ⟨⟨hT, -, hC⟩, -⟩ := waitLaw_iff.mp hwait
  refine ⟨waitLaw_iff.mpr ⟨⟨fun hw => ?_, fun _ => ?_, fun hw => ?_⟩, hdone⟩, by rw [State.line_setLine]; exact hcounts⟩
  · rw [State.waitsT, State.line_setLine] at hw
    rw [State.line_setLine]
    exact hT hw
  · rw [State.line_setLine]
    exact hp
  · rw [State.waitsC, State.line_setLine] at hw
    rw [State.line_setLine]
    exact hC hw

theorem passTo (h : ∀ l, Attended s l) (x : Clock) (m : Line) : Attended (s.passTo x) m :=
  SameWaits.attended (.of_line (State.line_passTo ..) fun _ => rfl) (h m)

theorem tripUp (h : ∀ l, Attended s l) (hr : RosterLaw s) (l m : Line) : Attended (s.tripUp l) m := by
  have hdown : ∀ m, Attended ((s.unpower l .fault).lineDown l) m := fun m => by
    by_cases hm : m = l
    · subst hm
      obtain ⟨-, -, hswept, -⟩ := (s.unpower m .fault).lineDown_frame m
      exact .of_idle ⟨hswept.census, hswept.poll, hswept.queue, hswept.op, hswept.counts⟩
    · obtain ⟨hline, hbound⟩ := State.lineDown_other (s := s.unpower l .fault) (hr.modLine _ _) hm
      exact SameWaits.attended (.of_line hline hbound) (setPower h l _ _ _ _ m)
  have htold := host hdown (.pushEvent _ 0 (.lineFault l s.clock (s.boundEntries l).length))
  unfold State.tripUp
  dsimp only
  split
  · exact closePower htold l _ _ _ m
  · exact htold m

theorem expireDue (h : ∀ l, Attended s l) (l m : Line) : Attended (s.expireDue l) m := by
  rw [State.expireDue_eq]
  have hbound : ∀ n, ({ s with roster := s.roster.map (expiredFrom l (s.dueRecords l)) } : State).memberBound m n =
      s.memberBound m n := memberBound_map rfl fun x => by
    unfold expiredFrom
    split
    · rename_i hc
      obtain ⟨-, r, -, -, hst⟩ := hc
      simp [Entry.boundOn, hst, Standing.isBound]
    · exact ⟨rfl, rfl⟩
  by_cases hm : m = l
  · subst hm
    refine SameWaits.attended (.of_fields ⟨_, _, _, _, _, _, _, _, State.line_setLine ..⟩ fun n => ?_) (h m)
    rw [State.memberBound_congr (State.setLine_roster ..)]
    exact hbound n
  · refine SameWaits.attended (.of_line (by rw [State.line_setLine_of_ne _ hm, State.line_with_roster]) fun n => ?_) (h m)
    rw [State.memberBound_congr (State.setLine_roster ..)]
    exact hbound n

end Attended

namespace LineLaws

variable {s t : State} {l : Line}

theorem rosterLaw (h : LineLaws s) : RosterLaw s := h.1.2.1

theorem counted (h : LineLaws s) : Counted s := .of_attended h.2

/-- A CLAIM goes out: the slot operation goes on. -/
theorem openingWindow (h : LineLaws s) {o : LineOp} (ho : (s.line l).op = some o) (hwork : o.work = .slotOpening)
    (w : WindowClass) (m : Line) : Attended (s.openingWindow l w) m := by
  have hc := Attended.countWindow h.2 l w
  have hr := RosterLaw.bookLaw.countWindow h.rosterLaw l w
  have hop : ((s.countWindow l w).line l).op = some o := by rw [State.countWindow_eq, State.line_setLine]; exact ho
  have hslot : o.isSlot = true := by simp [LineOp.isSlot, hwork]
  have hpoll : o.isPoll = false := by simp [LineOp.isPoll, hwork]
  unfold State.openingWindow
  dsimp only
  split
  · exact Attended.endSlot hc hr hop hslot hpoll _ _ m
  · exact Attended.nextCall hc hop hslot hpoll (by simp [LineOp.isAttempt, hwork]) _ _ ⟨rfl, rfl, rfl⟩ m
  · exact Attended.endSlot hc hr hop hslot hpoll _ _ m

theorem bindHeard (h : LineLaws s) {o : LineOp} (ho : (s.line l).op = some o) {n : Nat} {i : Ident} {mem : Nat}
    {v : FindEvent} (hwork : o.work = .slotBind n i mem v) (a : Address) (w : WindowClass) (m : Line) :
    Attended (s.bindHeard l n i mem v a w) m := by
  have hc := ((Claimed.refl s).countWindow l w).countMismatch l (mismatch w i)
  have hr := RosterLaw.bookLaw.counted h.rosterLaw l w (mismatch w i)
  have hend : ∀ b f event, Attended
      (((((s.countWindow l w).countMismatch l (mismatch w i)).bindOutcome n b).settle.modCensus l f).finishSlot l event) m :=
    fun b f event => by
      refine Attended.endSlot (fun k => (h.counted.claimed (hc.bindOutcome n b)).settle k)
        (BookSame.rosterLaw (.settle _) (RosterLaw.bookLaw.bindOutcome hr n b)) (o := o) ?_ (by simp [LineOp.isSlot, hwork])
        (by simp [LineOp.isPoll, hwork]) f event m
      rw [State.settle_op]
      exact (((Worked.refl s).claimed (hc.bindOutcome n b)).op l).trans ho
  unfold State.bindHeard
  dsimp only
  split
  · exact hend true _ _
  · exact hend false _ _

theorem inner {c : Instr} (h : LineLaws s) (hc : Instr.inner c = true) (he : exec c s = .next t) (m : Line) :
    Attended t m := by
  have hr := h.rosterLaw
  cases c with
  | settlingExpiry l =>
    rcases exec_settlingExpiry he with rfl | ⟨x, hp, -, rfl⟩
    · exact h.2 m
    · have hup := Attended.setPower (Attended.passTo h.2 x) l .up ((s.passTo x).line l).openPower none
        ((s.passTo x).line l).speed
      refine Attended.closePower (Attended.startCycle hup ?_) l _ _ _ m
      obtain ⟨-, hzero, -⟩ := ((h.1.1 l).idle (by rw [hp]; decide)).counts
      rw [State.line_setLine, State.line_passTo]
      exact hzero
  | overcurrentTrip l =>
    rcases exec_overcurrentTrip he with rfl | ⟨hp, rfl⟩ | ⟨hp, rfl⟩
    · exact h.2 m
    · exact Attended.tripUp h.2 hr l m
    · exact Attended.closePower (s := s.unpower l .fault) (fun m => Attended.setPower h.2 l _ _ _ _ m) l _ _ _ m
  | lineGrant l => exact Attended.lineGrant h.2 he m
  | callSent l => exact Attended.callSent h.2 he m
  | slotWindow l x =>
    rcases exec_slotWindow he with rfl | ⟨o, ho, hwork, rfl⟩
    · exact h.2 m
    · exact h.openingWindow ho.1 hwork _ m
  | claimWindow l x =>
    rcases exec_claimWindow he with rfl | ⟨o, ho, -, rfl⟩
    · exact h.2 m
    · exact (h.counted.claimHeard l _ _).settle m
  | bindOutcome l x =>
    rcases exec_bindOutcome he with rfl | ⟨o, n, i, mem, v, ho, hwork, rfl⟩
    · exact h.2 m
    · exact h.bindHeard ho.1 hwork _ _ m
  | hushWindow l x =>
    rcases exec_hushWindow he with rfl | ⟨o, i, r, v, k, ho, hwork, rfl⟩
    · exact h.2 m
    · refine Attended.endSlot (Attended.countWindow h.2 l _) (RosterLaw.bookLaw.countWindow hr l _) (o := o) ?_
        (by simp [LineOp.isSlot, hwork]) (by simp [LineOp.isPoll, hwork]) _ _ m
      rw [State.countWindow_eq, State.line_setLine]
      exact ho.1
  | pollWindow l x =>
    rcases exec_pollWindow he with rfl | ⟨o, n, i, -, -, rfl⟩
    · exact h.2 m
    · exact ((h.counted.claimed ((Claimed.refl s).pollHeard l n i _ _)).endOp l).settle m
  | pollDue l =>
    rcases exec_pollDue he with rfl | ⟨c, hc, ⟨hrun, rfl⟩ | ⟨hrun, rfl⟩⟩
    · exact h.2 m
    · refine Attended.of_line (Attended.passTo h.2 c.nextDue) (l := l) (SameWaits.attended ?_ (Attended.passTo h.2 c.nextDue l))
        (State.modLine_roster ..) (fun k hk => State.line_modLine_of_ne _ hk _) m
      have hc' : ((s.passTo c.nextDue).line l).poll = some c := by rw [State.line_passTo]; exact hc
      refine ⟨?_, ?_, ?_, ?_, ?_, ?_, ?_, ?_⟩
      · rw [State.line_modLine]
      · rw [State.line_modLine, LineState.cycleRunning, LineState.cycleRunning, hc']
        rfl
      · rw [State.membersLeft, State.membersLeft, State.line_modLine, hc',
          State.memberBound_congr (State.modLine_roster ..)]
        rfl
      · rw [State.line_modLine]
      · rw [State.line_modLine]; rfl
      · rw [State.line_modLine]; rfl
      · rw [State.line_modLine]; rfl
      · rw [State.line_modLine]
        exact ⟨rfl, rfl, rfl⟩
    · refine Attended.startCycle (Attended.passTo h.2 _) ?_ m
      rw [State.line_passTo]
      obtain ⟨⟨-, hP, -⟩, -⟩ := waitLaw_iff.mp (h.2 l).1
      exact hP (by simp [State.waitsP, LineState.cycleRunning, hc, hrun])
  | attemptWindow l x =>
    rcases exec_attemptWindow he with rfl | ⟨o, ho, hwork, -, rfl⟩
    · exact h.2 m
    · have hw := Worked.attemptHeard s l (o.call.classify x)
      exact Attended.endSettled (h.counted.worked hw) (RosterLaw.bookLaw.attemptHeard hr l _) ((hw.op l).trans ho.1)
        (by simp [LineOp.isPoll, hwork]) m
  | releaseWindow l x =>
    rcases exec_releaseWindow he with rfl | ⟨o, ho, hwork, -, rfl⟩
    · exact h.2 m
    · have hw := Worked.releaseHeard s l (o.call.classify x)
      exact Attended.endSettled (h.counted.worked hw) (RosterLaw.bookLaw.releaseHeard hr l _) ((hw.op l).trans ho.1)
        (by simp [LineOp.isPoll, hwork]) m
  | quarantineExpiry l =>
    rcases exec_quarantineExpiry he with rfl | ⟨x, rfl⟩
    · exact h.2 m
    · exact Attended.expireDue (Attended.passTo h.2 x) l m
  | hushExpiry =>
    rcases exec_hushExpiry he with rfl | ⟨x, rfl⟩
    · exact h.2 m
    · exact SameWaits.attended (.of_line (by cases m <;> rfl) fun _ => rfl) (h.2 m)
  | _ => exact nomatch hc

theorem settle (h : DownLaws s) (hc : Counted s) : LineLaws s.settle := ⟨h.settle, hc.settle⟩

theorem of_reset (hr : s.roster = []) (hl : ∀ l, s.line l = .reset) : LineLaws s :=
  ⟨.of_reset hr hl, fun l => .of_idle (by rw [hl]; exact ⟨rfl, rfl, rfl, rfl, rfl, rfl, rfl⟩)⟩

theorem admitForget (h : LineLaws s) (tag : Tag) {e : Entry} (he : s.lookup e.identity = some e) (m : Line) :
    Attended (s.admitForget tag e) m := by
  obtain ⟨hmem, -⟩ := State.mem_of_lookup he
  have htaken := Attended.host h.2
    (.take s { tag := tag, kind := .forget, line := e.line, state := .queued, target := some e.identity })
  unfold State.admitForget
  dsimp only
  split
  · have hkept := Attended.updNamed htaken e.identity (f := fun x => { x with
      forgetting := some tag, pendingTx := x.pendingTx + 1 }) fun x => ⟨rfl, rfl, rfl⟩
    exact Attended.closeTxns (Attended.setQueue hkept e.line (List.append_ne_nil_of_right_ne_nil _ (List.cons_ne_nil _ _)))
      _ (by decide) m
  · rename_i hb
    exact Attended.host (Attended.removeEntry htaken h.rosterLaw hmem (by simpa using hb))
      (.closeAll _ [report tag (.closed _ _)]) m

theorem admitTxn (h : LineLaws s) (tag : Tag) (k : LongKind) (i : Ident) (w : TxnWork) (m : Line) :
    Attended (s.admitTxn tag k i w) m := by
  unfold State.admitTxn
  split
  · rename_i e _
    have htaken := Attended.host h.2 (.take s { tag := tag, kind := k, line := e.line, state := .queued, target := some i })
    exact Attended.updNamed (Attended.setQueue htaken e.line
      (List.append_ne_nil_of_right_ne_nil _ (List.cons_ne_nil _ _))) i
      (f := fun x => { x with pendingTx := x.pendingTx + 1 }) (fun x => ⟨rfl, rfl, rfl⟩) m
  · exact h.2 m

theorem withCensus (h : LineLaws s) (tag : Tag) {l : Line} (c : Census) (hnone : (s.line l).census = none) (m : Line) :
    Attended (s.withCensus tag l c) m := by
  have hline : (s.withCensus tag l c).line l = { s.line l with census := some c } := by
    rw [State.withCensus, State.line_modLine, State.line_take]
  have hroster : (s.withCensus tag l c).roster = s.roster := State.modLine_roster ..
  refine Attended.of_line h.2 (l := l) ?_ hroster (fun k hk => ?_) m
  · obtain ⟨hwait, hcounts⟩ := h.2 l
    obtain ⟨⟨hT, hP, hC⟩, hdone⟩ := waitLaw_iff.mp hwait
    have hleft : (s.withCensus tag l c).membersLeft l = s.membersLeft l :=
      State.membersLeft_congr (by rw [hline]) fun n => by rw [State.memberBound_congr hroster]
    refine ⟨waitLaw_iff.mpr ⟨⟨fun hw => ?_, fun hw => ?_, fun _ => ?_⟩, ?_⟩, by rw [hline]; exact hcounts⟩
    · rw [State.waitsT, hline] at hw
      rw [hline]
      exact hT hw
    · rw [State.waitsP, hleft, hline] at hw
      rw [hline]
      exact hP hw
    · rw [hline]
      exact hC (by simp [State.waitsC, hnone])
    · rw [State.cycleDone, hleft, hline]
      exact hdone
  · rw [State.withCensus, State.line_modLine_of_ne _ hk, State.line_take]

theorem setParam (h : LineLaws s) (tag : Tag) (id v : Nat) (m : Line) : Attended (s.setParam tag id v) m := by
  rw [State.setParam_eq]
  split
  · have hstored : Counted (s.stored tag id v) := fun l => by
      cases l
      · exact h.counted .A
      · exact h.counted .B
    exact Counted.settle (hstored.claimed ((Claimed.refl _).limitSweep v)) m
  · exact SameWaits.attended (.of_line (by cases m <;> rfl) fun _ => rfl) (h.2 m)

theorem admitStop (h : LineLaws s) (tag : Tag) (m : Line) : Attended (s.admitStop tag) m := by
  have hopen : Worked s { s.push tag (.taken .stop) with stop := some { tag := tag, openCount := s.table.length } } :=
    fun l => by cases l <;> exact .refl _
  exact Counted.settle (h.counted.worked ((hopen.haltAll .stop s.table).claimed ((Claimed.refl _).settleStop))) m

theorem coreLaw : CoreLaw LineLaws where
  same h hs := ⟨DownLaws.coreLaw.same h.1 hs, fun l =>
    SameWaits.attended (.of_line (hs.line l) fun n => by rw [State.memberBound_congr hs.roster]) (h.2 l)⟩
  serveReset _ tag := .of_reset rfl fun l => by cases l <;> rfl
  powerOn := .of_reset rfl fun l => by cases l <;> rfl
  setParam h tag id v hadm := ⟨DownLaws.coreLaw.setParam h.1 tag id v hadm, h.setParam tag id v⟩
  cancel h q hq hcan := ⟨DownLaws.coreLaw.cancel h.1 q hq hcan,
    (h.counted.worked ((Worked.refl _).haltRequest .cancel q)).settle⟩
  stop h tag hz hf hs := ⟨DownLaws.coreLaw.stop h.1 tag hz hf hs, h.admitStop tag⟩
  census {s} h tag l policy exponent budget n bits hf hadm := by
    refine ⟨DownLaws.coreLaw.census h.1 tag l policy exponent budget n bits hf hadm, h.withCensus tag _ ?_⟩
    simp only [State.censusRefusal] at hadm
    split at hadm
    · exact nomatch hadm
    · split at hadm
      · exact nomatch hadm
      · simpa using ‹¬(s.line l).census.isSome = true›
  txn h tag w i off len hf hw hadm := ⟨DownLaws.coreLaw.txn h.1 tag w i off len hf hw hadm, h.admitTxn tag _ i w⟩
  forget h tag e hf he hadm := ⟨DownLaws.coreLaw.forget h.1 tag e hf he hadm, h.admitForget tag he⟩
  power h tag l d hf hbusy := ⟨DownLaws.coreLaw.power h.1 tag l d hf hbusy,
    Attended.actPower (Attended.host h.2 (.take _ _)) h.rosterLaw l d tag⟩
  inner h hc he := ⟨DownLaws.coreLaw.inner h.1 hc he, h.inner hc he⟩

end LineLaws

end Sys2Proof.Machine

open Sys2Proof.Machine

/-- Settles O55: a grant keeps the passed-over counts within their limits, and every claim ends by settling the cycles and the
counts of those that stopped waiting. -/
theorem everyStepKeepsLinesLegal : Obligations.EveryStepKeepsLinesLegal := by
  intro s t hs hstep
  exact lineLaws_iff.mp (LineLaws.coreLaw.keptByEveryStep s t (lineLaws_iff.mpr hs) hstep)

end

section
/-! READ and WRITE at a node: what stands in a region of its memory, what a stored region leaves, and what the node that
holds the address answers. -/

namespace Sys2Proof.Machine

/-- The protection of a region of memory: some byte of it is protected. -/
theorem region_protected_iff (m : List (Byte × Bool)) (off n : Nat) :
    ((m.drop off).take n).any (·.2) = true ↔ ∃ j, j < n ∧ (m[off + j]?).map (·.2) = some true := by
  simp only [List.any_eq_true, List.mem_iff_getElem?, Option.map_eq_some_iff]
  constructor
  · rintro ⟨x, ⟨j, hj⟩, hx⟩
    rw [List.getElem?_take] at hj
    split at hj
    · exact ⟨j, ‹_›, x, by rwa [List.getElem?_drop] at hj, hx⟩
    · exact nomatch hj
  · rintro ⟨j, hj, x, hm, hx⟩
    exact ⟨x, ⟨j, by rw [List.getElem?_take, if_pos hj, List.getElem?_drop, hm]⟩, hx⟩

theorem region_unprotected {m : List (Byte × Bool)} {off n : Nat}
    (h : ∀ j, j < n → (m[off + j]?).map (·.2) = some false) : ¬ ((m.drop off).take n).any (·.2) = true := by
  rw [region_protected_iff]
  rintro ⟨j, hj, hp⟩
  rw [h j hj] at hp
  exact nomatch hp

theorem storeBytes_length {m : List (Byte × Bool)} {off : Nat} {bs : List Byte} (h : off + bs.length ≤ m.length) :
    (storeBytes m off bs).length = m.length := by
  simp only [storeBytes, List.length_append, List.length_take, List.length_zipWith, List.length_drop]
  omega

/-- What stands at a place after a region without protection is stored: its byte inside the region, the old one outside. -/
theorem storeBytes_getElem? {m : List (Byte × Bool)} {off : Nat} {bs : List Byte} (h : off + bs.length ≤ m.length)
    (hp : ∀ j, j < bs.length → (m[off + j]?).map (·.2) = some false) (j : Nat) :
    (storeBytes m off bs)[j]? =
      if off ≤ j ∧ j < off + bs.length then (bs[j - off]?).map fun b => (b, false) else m[j]? := by
  have hfront : (m.take off).length = off := by rw [List.length_take]; omega
  have hmiddle : (bs.zipWith (fun b c => (b, c.2)) (m.drop off)).length = bs.length := by
    rw [List.length_zipWith, List.length_drop]; omega
  rw [storeBytes, List.append_assoc]
  by_cases hbefore : j < off
  · rw [List.getElem?_append_left (by omega), List.getElem?_take, if_pos hbefore, if_neg (by omega)]
  · rw [List.getElem?_append_right (by omega), hfront]
    by_cases hinside : j < off + bs.length
    · rw [List.getElem?_append_left (by omega), if_pos ⟨by omega, hinside⟩, List.getElem?_zipWith, List.getElem?_drop]
      have hbit := hp (j - off) (by omega)
      obtain ⟨x, hx, hfalse⟩ := Option.map_eq_some_iff.mp hbit
      rw [hx, List.getElem?_eq_getElem (by omega)]
      simp [hfalse]
    · rw [List.getElem?_append_right (by omega), hmiddle, List.getElem?_drop, if_neg (by omega)]
      congr 1
      omega

namespace Node

variable {n : Node} {x : Held} {a off len : Nat} {bs : List Byte}

/-- An addressed call in its ranges reaches a powered node by its address. -/
theorem hear_read (hpow : n.powered = true) (h : (Call.read a off len).inRange = true) (s : Nat) (k : Handle)
    (busy : Bool) : n.hear (.read a off len) true s k busy =
      if n.holds a then (n.refresh, some (n.refresh.serveRead off len busy)) else (n, none) := by
  unfold hear
  rw [hpow, h]
  rfl

theorem hear_write (hpow : n.powered = true) (h : (Call.write a off bs).inRange = true) (s : Nat) (k : Handle)
    (busy : Bool) : n.hear (.write a off bs) true s k busy =
      if n.holds a then ((n.refresh.serveWrite off bs busy).1, some (n.refresh.serveWrite off bs busy).2)
      else (n, none) := by
  unfold hear
  rw [hpow, h]
  rfl

theorem holds_eq_false (h : ∀ x, n.held = some x → x.address ≠ a) : n.holds a = false := by
  cases hn : n.held with
  | none => rw [holds, hn]; rfl
  | some x => simpa [holds, hn] using h x hn

theorem holds_of_held (h : n.held = some x) : n.holds x.address = true := by simp [holds, h]

theorem refresh_of_held (h : n.held = some x) : n.refresh = { n with held := some { x with leftMs := x.leaseMs } } := by
  rw [refresh, h]; rfl

end Node

end Sys2Proof.Machine

open Sys2Proof.Machine

/-- Settles O60: the check order is the order of the branches of `serveRead` and `serveWrite`. -/
theorem nodeServesReadAndWrite : Obligations.NodeServesReadAndWrite := by
  intro n a off len bs s k busy hpow ha ha' hoff hlen hlen' hbs hbs'
  have hread : (Call.read a off len).inRange = true := by simp [Call.inRange, *]
  have hwrite : (Call.write a off bs).inRange = true := by simp [Call.inRange, *]
  dsimp only
  rw [Node.hear_read hpow hread, Node.hear_write hpow hwrite]
  refine ⟨fun hne => ?_, ?_⟩
  · simp [Node.holds_eq_false hne]
  · rintro x hx rfl
    simp only [Node.holds_of_held hx, Node.refresh_of_held hx, if_true]
    refine ⟨fun hout => ?_, fun hin => ⟨?_, ?_⟩, fun hout => ?_, fun hin => ⟨fun hprot => ?_, fun hfree => ⟨?_, ?_⟩⟩⟩
    · simp only [Node.serveRead, if_pos hout]; rfl
    · rintro rfl
      simp only [Node.serveRead, if_neg (Nat.not_lt.mpr hin)]; rfl
    · rintro rfl
      refine ⟨((n.memory.drop off).take len).map (·.1), ?_, ?_, fun j hj => ?_⟩
      · simp only [Node.serveRead, if_neg (Nat.not_lt.mpr hin)]; rfl
      · rw [List.length_map, List.length_take, List.length_drop]; omega
      · rw [List.getElem?_map, List.getElem?_take, if_pos hj, List.getElem?_drop]
    · simp only [Node.serveWrite, if_pos hout]; rfl
    · simp only [Node.serveWrite, if_neg (Nat.not_lt.mpr hin), (region_protected_iff ..).mpr hprot, if_true]; rfl
    · rintro rfl
      simp only [Node.serveWrite, if_neg (Nat.not_lt.mpr hin), if_neg (region_unprotected hfree), if_true]; rfl
    · rintro rfl
      refine ⟨storeBytes n.memory off bs, ?_, storeBytes_length hin, storeBytes_getElem? hin hfree⟩
      simp only [Node.serveWrite, if_neg (Nat.not_lt.mpr hin), if_neg (region_unprotected hfree)]; rfl
end

section
/-! Time remaining and expiries (R46, R49, R85): the soonest expiry, the clock carried to it, and the records due then. -/

namespace Sys2Proof.Machine

/-! ## Time remaining -/

theorem timeLeft_of_le {now x : Clock} (h : (x - now).toNat ≤ 600000) : timeLeft now x = (x - now).toNat := if_pos h

/-- Two expiries still to come with the same time remaining are one. -/
theorem eq_of_timeLeft {now x y : Clock} (hx : (x - now).toNat ≤ 600000) (hy : (y - now).toNat ≤ 600000)
    (h : timeLeft now x = timeLeft now y) : x = y := by
  rw [timeLeft_of_le hx, timeLeft_of_le hy] at h
  have hsub : x - now = y - now := BitVec.eq_of_toNat_eq h
  bv_omega

/-- At an expiry that comes no later than another, the other is due exactly when it is the same. -/
theorem timeLeft_eq_zero_iff {now t x : Clock} (hle : (t - now).toNat ≤ (x - now).toNat)
    (hx : (x - now).toNat ≤ 600000) : timeLeft t x = 0 ↔ x = t := by
  have hsum : (x - t).toNat = (x - now).toNat - (t - now).toNat := by bv_omega
  rw [timeLeft_of_le (by omega)]
  constructor
  · intro h
    have hsub : x - t = 0 := BitVec.eq_of_toNat_eq h
    bv_omega
  · rintro rfl
    simp

theorem State.passTo_eq {s : State} {x : Clock} (h : (x - s.clock).toNat ≤ 600000) : s.passTo x = { s with clock := x } := by
  rw [State.passTo, timeLeft_of_le h, BitVec.ofNat_toNat, BitVec.setWidth_eq]
  have hsum : s.clock + (x - s.clock) = x := by bv_omega
  rw [hsum]

/-! ## The soonest expiry -/

theorem soonest_cons_isSome (now x : Clock) (xs : List Clock) : ∃ y, soonest now (x :: xs) = some y := by
  simp only [soonest]
  split
  · exact ⟨_, rfl⟩
  · split
    · exact ⟨_, rfl⟩
    · exact ⟨_, rfl⟩

/-- The soonest expiry is one of the list with the least time remaining. -/
theorem soonest_spec {now y : Clock} {xs : List Clock} (h : soonest now xs = some y) :
    y ∈ xs ∧ ∀ x ∈ xs, timeLeft now y ≤ timeLeft now x := by
  induction xs generalizing y with
  | nil => exact nomatch h
  | cons x xs ih =>
    simp only [soonest] at h
    split at h
    · rename_i hnone
      obtain rfl := Option.some.inj h
      cases xs with
      | nil => exact ⟨List.mem_cons_self, fun z hz => by rw [List.mem_singleton.mp hz]⟩
      | cons z zs =>
        obtain ⟨w, hw⟩ := soonest_cons_isSome now z zs
        rw [hw] at hnone
        exact nomatch hnone
    · rename_i z hz
      obtain ⟨hmem, hleast⟩ := ih hz
      split at h
      · rename_i hle
        obtain rfl := Option.some.inj h
        exact ⟨List.mem_cons_self, List.forall_mem_cons.mpr ⟨le_refl _, fun w hw => hle.trans (hleast w hw)⟩⟩
      · rename_i hlt
        obtain rfl := Option.some.inj h
        exact ⟨List.mem_cons_of_mem _ hmem, List.forall_mem_cons.mpr ⟨(Nat.not_le.mp hlt).le, hleast⟩⟩

/-- An expiry of the list that comes no later than any other is the soonest. -/
theorem soonest_eq {now t : Clock} {xs : List Clock} (ht : t ∈ xs)
    (h : ∀ x ∈ xs, (t - now).toNat ≤ (x - now).toNat ∧ (x - now).toNat ≤ 600000) : soonest now xs = some t := by
  obtain ⟨x, rest, rfl⟩ := List.exists_cons_of_ne_nil (List.ne_nil_of_mem ht)
  obtain ⟨y, hy⟩ := soonest_cons_isSome now x rest
  obtain ⟨hmem, hleast⟩ := soonest_spec hy
  obtain ⟨hty, hy'⟩ := h y hmem
  have hle := hleast t ht
  rw [timeLeft_of_le hy', timeLeft_of_le (h t ht).2] at hle
  rw [hy, eq_of_timeLeft hy' (h t ht).2]
  rw [timeLeft_of_le hy', timeLeft_of_le (h t ht).2]
  omega

/-! ## The expiry commands -/

/-- QUARANTINE_EXPIRY at a soonest expiry that the records at the head of the list share (R49). -/
theorem exec_quarantineExpiry_of_due {s : State} {l : Line} {due later : List QuarantineRec} {t : Clock}
    (hq : (s.line l).quarantine = due ++ later) (hne : due ≠ []) (hdue : ∀ r ∈ due, r.expiry = t)
    (ht : (t - s.clock).toNat ≤ 600000)
    (hlater : ∀ r ∈ later, (t - s.clock).toNat < (r.expiry - s.clock).toNat ∧ (r.expiry - s.clock).toNat ≤ 600000) :
    exec (.quarantineExpiry l) s = .next (({ s with
      clock := t, roster := s.roster.map (expiredFrom l due) } : State).setLine l
        { s.line l with quarantine := later, pool := (s.line l).pool ++ due.map (·.address) }) := by
  have hsoonest : soonest s.clock ((s.line l).quarantine.map (·.expiry)) = some t := by
    obtain ⟨r, hr⟩ := List.exists_mem_of_ne_nil due hne
    have hmem : r ∈ (s.line l).quarantine := by rw [hq]; exact List.mem_append_left _ hr
    refine soonest_eq (List.mem_map.mpr ⟨r, hmem, hdue r hr⟩) ?_
    intro x hx
    obtain ⟨y, hy, rfl⟩ := List.mem_map.mp hx
    rcases List.mem_append.mp (hq ▸ hy) with hy | hy
    · rw [hdue y hy]
      exact ⟨le_refl _, ht⟩
    · exact ⟨(hlater y hy).1.le, (hlater y hy).2⟩
  have hnow : ∀ r ∈ due, timeLeft t r.expiry = 0 := by
    intro r hr
    rw [hdue r hr]
    exact (timeLeft_eq_zero_iff le_rfl ht).mpr rfl
  have hstill : ∀ r ∈ later, timeLeft t r.expiry ≠ 0 := fun r hr h0 => by
    obtain ⟨hlt, hle⟩ := hlater r hr
    rw [(timeLeft_eq_zero_iff hlt.le hle).mp h0] at hlt
    exact Nat.lt_irrefl _ hlt
  have hleaves : (due ++ later).filter (fun r => timeLeft t r.expiry == 0) = due := by
    rw [List.filter_append, List.filter_eq_self.mpr fun r hr => by simp [hnow r hr],
      List.filter_eq_nil_iff.mpr fun r hr => by simp [hstill r hr], List.append_nil]
  have hstays : (due ++ later).filter (fun r => timeLeft t r.expiry != 0) = later := by
    rw [List.filter_append, List.filter_eq_nil_iff.mpr fun r hr => by simp [hnow r hr],
      List.filter_eq_self.mpr fun r hr => by simp [hstill r hr], List.nil_append]
  simp only [exec, execQuarantineExpiry, hsoonest]
  rw [State.passTo_eq ht, State.expireDue_eq]
  simp only [State.dueRecords, State.line_with_clock, hq, hleaves, hstays]

/-- HUSH_EXPIRY at the soonest expiry of the list (R85). -/
theorem exec_hushExpiry_of_due {s : State} {t : Clock} (hmem : ∃ h ∈ s.hush, h.expiry = t)
    (hleast : ∀ h ∈ s.hush, (t - s.clock).toNat ≤ (h.expiry - s.clock).toNat ∧
      (h.expiry - s.clock).toNat ≤ 600000) :
    exec .hushExpiry s = .next { s with clock := t, hush := s.hush.filter (·.expiry != t) } := by
  obtain ⟨h, hh, rfl⟩ := hmem
  have hsoonest : soonest s.clock (s.hush.map (·.expiry)) = some h.expiry :=
    soonest_eq (List.mem_map.mpr ⟨h, hh, rfl⟩) fun x hx => by
      obtain ⟨y, hy, rfl⟩ := List.mem_map.mp hx
      exact hleast y hy
  have hstays : (s.hush.filter fun x => timeLeft h.expiry x.expiry != 0) = s.hush.filter (·.expiry != h.expiry) :=
    List.filter_congr fun x hx => by
      rw [Bool.eq_iff_iff, bne_iff_ne, bne_iff_ne, Ne, Ne, timeLeft_eq_zero_iff (hleast x hx).1 (hleast x hx).2]
  simp only [exec, execHushExpiry, hsoonest, State.passTo_eq (hleast h hh).2, State.hushExpireDue, hstays]

end Sys2Proof.Machine

open Sys2Proof.Machine

/-- Settles O50: the records due at the soonest expiry are those that bear it. -/
theorem dueRecordsLeaveAtTheirExpiry : Obligations.DueRecordsLeaveAtTheirExpiry := by
  refine ⟨fun s l => ⟨fun hnone => ?_, fun due later t hq hne hdue ht hlater => ?_⟩, fun s => ⟨fun hnone => ?_, fun t =>
    exec_hushExpiry_of_due⟩⟩
  · simp [exec, execQuarantineExpiry, hnone, soonest]
  · exact exec_quarantineExpiry_of_due hq hne hdue (by omega) fun r hr => ⟨(hlater r hr).1, by
      have := (hlater r hr).2
      omega⟩
  · simp [exec, execHushExpiry, hnone, soonest]
end

section
/-! The receiver byte by byte, a frame out of its bytes, and the dispatcher when a report has left (R138 to R144, R161). -/

namespace Sys2Proof.Machine

open Sys2Proof.Statements

/-! ## One byte (R139, R140) -/

theorem exec_rxByte_hunting {s : State} (h : s.rx = .hunting) (b : Byte) : exec (.rxByte b) s = .next (s.huntByte b) := by
  simp only [exec, execRxByte, h]

theorem State.huntByte_of_hunting {s : State} (h : s.rx = .hunting) (b : Byte) :
    s.huntByte b = if b = 0x5A then { s with rx := .collecting [] (s.clock + 20) } else s := by
  have hsame : ({ s with rx := .hunting } : State) = s := by rw [← h]
  rw [State.huntByte, hsame]
  rfl

theorem gapPassed_of_le {now gapAt : Clock} (h : (gapAt - now).toNat ≤ 20) : gapPassed now gapAt = false :=
  decide_eq_false (Nat.not_lt.mpr (h.trans (by decide)))

theorem exec_rxByte_collecting {s : State} {got : List Byte} {gapAt : Clock} (h : s.rx = .collecting got gapAt)
    (hgap : (gapAt - s.clock).toNat ≤ 20) (b : Byte) : exec (.rxByte b) s = .next (s.collectByte got b) := by
  simp only [exec, execRxByte, h, gapPassed_of_le hgap, Bool.false_eq_true, if_false]

/-- The length of a frame: outside 2..252 the frame is discarded. -/
theorem State.collectByte_length (s : State) (b : Byte) : s.collectByte [] b =
    if b.toNat < 2 ∨ 252 < b.toNat then { s with rx := .hunting, rxBadLength := saturating s.rxBadLength }
    else { s with rx := .collecting [b] (s.clock + 20) } := by
  simp only [State.collectByte, List.nil_append, bump16_eq_saturating]
  refine if_congr Iff.rfl rfl ?_
  exact if_neg (by rw [List.length_nil]; omega)

/-- A byte of a frame before its last. -/
theorem State.collectByte_more (s : State) {n : Byte} {rest : List Byte} (hlow : 2 ≤ n.toNat) (hhigh : n.toNat ≤ 252)
    (h : rest.length + 1 < n.toNat + 2) (b : Byte) :
    s.collectByte (n :: rest) b = { s with rx := .collecting (n :: rest ++ [b]) (s.clock + 20) } := by
  simp only [State.collectByte, List.cons_append]
  rw [if_neg (by omega), if_neg (by rw [List.length_append, List.length_singleton]; omega)]
  rfl

/-- The last byte of a frame. -/
theorem State.collectByte_last (s : State) {n : Byte} {rest : List Byte} (hlow : 2 ≤ n.toNat) (hhigh : n.toNat ≤ 252)
    (h : rest.length + 1 = n.toNat + 2) (b : Byte) :
    s.collectByte (n :: rest) b = s.frameDone (n :: rest ++ [b]) := by
  simp only [State.collectByte, List.cons_append]
  rw [if_neg (by omega), if_pos (by rw [List.length_append, List.length_singleton]; omega)]

/-! ## The bytes of a frame one after another -/

theorem receive_append (as bs : List Byte) {s t : State} (h : receive as s = .next t) :
    receive (as ++ bs) s = receive bs t := by
  induction as generalizing s with
  | nil =>
    obtain rfl := Host.Outcome.next.inj h
    rfl
  | cons a as ih =>
    obtain ⟨u, hu⟩ := exec_completes (.rxByte a) s
    simp only [List.cons_append, receive, hu] at h ⊢
    exact ih h

theorem clock_gap (c : Clock) : (c + 20 - c).toNat ≤ 20 := by bv_omega

/-- A receiver collecting takes all but the last byte of its frame. -/
theorem receive_collecting {n : Byte} (hlow : 2 ≤ n.toNat) (hhigh : n.toNat ≤ 252) (bs : List Byte) {s : State}
    {got : List Byte} (hrx : s.rx = .collecting (n :: got) (s.clock + 20)) (h : got.length + bs.length < n.toNat + 2) :
    receive bs s = .next { s with rx := .collecting (n :: got ++ bs) (s.clock + 20) } := by
  induction bs generalizing s got with
  | nil =>
    rw [List.append_nil, ← hrx]
    rfl
  | cons b bs ih =>
    rw [List.length_cons] at h
    simp only [receive, exec_rxByte_collecting hrx (clock_gap _), State.collectByte_more s hlow hhigh (rest := got)
      (by omega)]
    refine (ih (got := got ++ [b]) rfl ?_).trans ?_
    · rw [List.length_append, List.length_singleton]
      omega
    · simp only [List.cons_append, List.append_assoc, List.nil_append]

/-- A hunting receiver takes a sync, a length and as many bytes as the length says, and judges the frame. -/
theorem receive_whole {s : State} (hs : s.rx = .hunting) {n : Byte} (hlow : 2 ≤ n.toNat) (hhigh : n.toNat ≤ 252)
    (bs : List Byte) (b : Byte) (h : bs.length + 1 = n.toNat + 2) :
    receive (0x5A :: n :: bs ++ [b]) s = .next (s.frameDone (n :: bs ++ [b])) := by
  have hsync : exec (.rxByte 0x5A) s = .next { s with rx := .collecting [] (s.clock + 20) } := by
    rw [exec_rxByte_hunting hs, State.huntByte_of_hunting hs, if_pos rfl]
  have hlength : exec (.rxByte n) { s with rx := .collecting [] (s.clock + 20) } =
      .next { s with rx := .collecting [n] (s.clock + 20) } := by
    rw [exec_rxByte_collecting rfl (clock_gap _), State.collectByte_length, if_neg (by omega)]
  have hbody : receive bs { s with rx := .collecting [n] (s.clock + 20) } =
      .next { s with rx := .collecting (n :: bs) (s.clock + 20) } :=
    receive_collecting hlow hhigh bs rfl (by rw [List.length_nil]; omega)
  have hlast : receive [b] { s with rx := .collecting (n :: bs) (s.clock + 20) } =
      .next (s.frameDone (n :: bs ++ [b])) := by
    simp only [receive, exec_rxByte_collecting (s := { s with rx := .collecting (n :: bs) (s.clock + 20) }) rfl
      (clock_gap _), State.collectByte_last _ hlow hhigh (rest := bs) h]
    rfl
  simp only [List.cons_append, receive, hsync, hlength]
  rw [receive_append _ _ hbody, hlast]
  rfl

/-! ## The check of a frame (R141) -/

theorem crcOf_bytesOf (c : BitVec 16) : crcOf (bytesOf 2 c.toNat) = c := by
  rw [crcOf, number_bytesOf]
  apply BitVec.eq_of_toNat_eq
  rw [BitVec.toNat_ofNat]
  omega

/-- Two bytes are told by the number they spell. -/
theorem bytesOf_crcOf {c : List Byte} (h : c.length = 2) : bytesOf 2 (crcOf c).toNat = c := by
  obtain ⟨x, y, rfl⟩ := List.length_eq_two.mp h
  have hx := x.isLt
  have hy := y.isLt
  have hnumber : (crcOf [x, y]).toNat = x.toNat * 256 + y.toNat := by
    simp only [crcOf, number, List.foldl_cons, List.foldl_nil, BitVec.toNat_ofNat]
    omega
  rw [hnumber, bytesOf_two]
  congr 1
  · apply BitVec.eq_of_toNat_eq
    rw [BitVec.toNat_ofNat]
    omega
  · congr 1
    apply BitVec.eq_of_toNat_eq
    rw [BitVec.toNat_ofNat]
    omega

theorem crcAgrees_iff {covered c : List Byte} (h : c.length = 2) :
    crcAgrees (covered ++ c) = true ↔ c = bytesOf 2 (crc16 covered).toNat := by
  have hlen : (covered ++ c).length - 2 = covered.length := by rw [List.length_append]; omega
  rw [crcAgrees, hlen, List.take_left', List.drop_left', beq_iff_eq] <;> try rfl
  constructor
  · intro heq
    rw [heq, bytesOf_crcOf h]
  · intro heq
    rw [heq, crcOf_bytesOf]

/-- The bytes that the check word of a frame covers (R138). -/
def Frame.covered (f : Frame) : List Byte := BitVec.ofNat 8 (f.body.length + 2) :: f.kind :: f.tag :: f.body

theorem Frame.bytes_eq (f : Frame) : f.bytes = 0x5A :: (f.covered ++ bytesOf 2 (crc16 f.covered).toNat) := rfl

theorem Frame.covered_length (f : Frame) : f.covered.length = f.body.length + 3 := rfl

/-- A frame with a check word of any two bytes is received whole and judged. -/
theorem receive_covered {s : State} (hs : s.rx = .hunting) {f : Frame} (hf : f.body.length ≤ 250) {c : List Byte}
    (hc : c.length = 2) : receive (0x5A :: (f.covered ++ c)) s = .next (s.frameDone (f.covered ++ c)) := by
  obtain ⟨x, y, rfl⟩ := List.length_eq_two.mp hc
  have hn : (BitVec.ofNat 8 (f.body.length + 2)).toNat = f.body.length + 2 := by
    rw [BitVec.toNat_ofNat]
    omega
  have hsplit : f.covered ++ [x, y] =
      BitVec.ofNat 8 (f.body.length + 2) :: (f.kind :: f.tag :: f.body ++ [x]) ++ [y] := by
    simp [Frame.covered]
  rw [hsplit]
  exact receive_whole hs (by omega) (by omega) _ y (by simp; omega)

/-- A frame whose check agrees arrives; any other is discarded and counted. -/
theorem State.frameDone_covered {s : State} (hs : s.rx = .hunting) (f : Frame) {c : List Byte} (hc : c.length = 2) :
    s.frameDone (f.covered ++ c) =
      if c = bytesOf 2 (crc16 f.covered).toNat then s.arrive f.kind f.tag f.body
      else { s with rxCrcErrors := saturating s.rxCrcErrors } := by
  have hsame : ({ s with rx := .hunting } : State) = s := by rw [← hs]
  have hbody : ((f.covered ++ c).drop 3).take ((f.covered ++ c).length - 5) = f.body := by
    have hlen : (f.covered ++ c).length - 5 = f.body.length := by
      rw [List.length_append, Frame.covered_length]; omega
    rw [hlen]
    exact List.take_left
  unfold State.frameDone
  dsimp only
  rw [hsame, hbody, bump16_eq_saturating]
  exact if_congr (crcAgrees_iff hc) rfl (by rw [hs])

/-! ## The dispatcher (R144) -/

/-- More turns than frames wait change nothing. -/
theorem State.drain_eq_dispatch {n : Nat} {s : State} (h : s.inbound.length ≤ n) : State.drain n s = s.dispatch := by
  suffices hsame : ∀ (n m : Nat) (s : State), s.inbound.length ≤ n → s.inbound.length ≤ m →
      State.drain n s = State.drain m s from hsame _ _ s h le_rfl
  intro n
  induction n with
  | zero =>
    intro m s hn _
    have hnone := List.length_eq_zero_iff.mp (Nat.le_zero.mp hn)
    cases m <;> simp only [State.drain, hnone]
  | succ n ih =>
    intro m s hn hm
    cases hin : s.inbound with
    | nil => cases m <;> simp only [State.drain, hin]
    | cons f waiting =>
      obtain ⟨m, rfl⟩ : ∃ k, m = k + 1 := ⟨m - 1, by rw [hin, List.length_cons] at hm; omega⟩
      simp only [State.drain, hin]
      split
      · rename_i hroom
        rw [hin, List.length_cons] at hn hm
        have hleft : (({ s with inbound := waiting } : State).handle f).inbound.length ≤ waiting.length := by
          rcases State.handle_quiet (s := { s with inbound := waiting }) hroom f with hq | ⟨_, _, -, hq⟩ | hreset
          · rw [hq.inbound]
          · rw [hq.inbound]; rfl
          · rw [hreset]; exact Nat.zero_le _
        exact ih m _ (by omega) (by omega)
      · rfl

/-- The oldest frame is taken first. -/
theorem State.dispatch_cons {s : State} {f : Frame} {waiting : List Frame} (hin : s.inbound = f :: waiting)
    (hroom : 2 ≤ s.room) : s.dispatch = (({ s with inbound := waiting } : State).handle f).dispatch := by
  have htake : s.dispatch = State.drain waiting.length (({ s with inbound := waiting } : State).handle f) := by
    rw [State.dispatch, hin, List.length_cons]
    simp only [State.drain, hin]
    exact if_pos hroom
  rw [htake]
  refine State.drain_eq_dispatch ?_
  rcases State.handle_quiet (s := { s with inbound := waiting }) hroom f with hq | ⟨_, _, -, hq⟩ | hreset
  · rw [hq.inbound]
  · rw [hq.inbound]; rfl
  · rw [hreset]; exact Nat.zero_le _

end Sys2Proof.Machine

open Sys2Proof.Machine Sys2Proof.Statements

/-- Settles O29: the byte is judged by what the receiver stands at. -/
theorem receiverHuntsCollectsAndTimesOut : Obligations.ReceiverHuntsCollectsAndTimesOut := by
  intro s b
  refine ⟨fun hs => ⟨?_, ?_⟩, fun got gapAt hs => ⟨fun hgap => ⟨?_, ?_, ?_⟩, fun hgap => ?_⟩⟩
  · simp only [exec, execRxGapTimeout, hs]
  · rw [exec_rxByte_hunting hs, State.huntByte_of_hunting hs]
  · simp only [exec, execRxGapTimeout, hs]
    rw [State.passTo_eq (by omega), State.gapDiscard, bump16_eq_saturating]
  · rintro rfl
    rw [exec_rxByte_collecting hs hgap, State.collectByte_length]
  · rintro n rest rfl hlow hhigh hmore
    rw [exec_rxByte_collecting hs hgap, State.collectByte_more s hlow hhigh hmore]
  · have hpassed : gapPassed s.clock gapAt = true := decide_eq_true hgap
    simp only [exec, execRxByte, hs, hpassed, if_true]
    rw [State.huntByte_of_hunting rfl, State.gapDiscard, bump16_eq_saturating]

/-- Settles O30: the frame's own check word makes it arrive, and any other two bytes do not. -/
theorem frameBytesBringTheFrame : Obligations.FrameBytesBringTheFrame := by
  intro s f hs hf
  have hown : (bytesOf 2 (crc16 f.covered).toNat).length = 2 := bytesOf_length ..
  have harrives : receive f.bytes s = .next (s.arrive f.kind f.tag f.body) := by
    rw [f.bytes_eq, receive_covered hs hf hown, State.frameDone_covered hs f hown, if_pos rfl]
  refine ⟨harrives, fun p hp hkind => ?_, fun c hc hne => ?_⟩
  · rw [harrives, exec_of_mem_requestCommands hp, hkind]
  · have htake : f.bytes.take (f.body.length + 4) = 0x5A :: f.covered := List.take_left' (l₁ := 0x5A :: f.covered) rfl
    have hdrop : f.bytes.drop (f.body.length + 4) = bytesOf 2 (crc16 f.covered).toNat :=
      List.drop_left' (l₁ := 0x5A :: f.covered) rfl
    rw [hdrop] at hne
    rw [htake, List.cons_append, receive_covered hs hf hc, State.frameDone_covered hs f hc, if_neg (Ne.symm hne)]

/-- Settles O32: the frames that wait are taken one by one while the room lasts. -/
theorem sentReportLeavesQueue : Obligations.SentReportLeavesQueue := by
  refine ⟨fun s => ⟨fun hnone => ?_, fun r rest hr => ?_⟩, fun s => ⟨fun hnone => ?_, fun f waiting =>
    State.dispatch_cons⟩, fun s f hs => ⟨?_, fun p hp hkind => ?_⟩⟩
  · simp only [exec, execReportSent, hnone]
  · simp only [exec, execReportSent, hr, State.depart]
    cases hrate : r.rateAfter <;> cases rest <;> rfl
  · rcases hnone with hnone | hroom
    · rw [State.dispatch, hnone]
      rfl
    · exact State.drain_of_no_room hroom _
  · exact (exec_unknownKind s ..).trans (congrArg _ (State.arrive_of_takes hs.1 hs.2 ..))
  · rw [exec_of_mem_requestCommands hp, hkind]
    exact congrArg _ (State.arrive_of_takes hs.1 hs.2 ..)
end

section
/-! The frames of the reports (R138, R146, R160, R166, R168, R169): the check word bit by bit, and each code and field of the
model as the statements write it. -/

namespace Sys2Proof.Machine

open Sys2Proof.Statements

/-! ## The check word (00, Checks) -/

/-- One bit of data taken into the check word. -/
def crcStep (c : BitVec 16) (bit : Bool) : BitVec 16 := if c.getLsbD 15 = bit then c <<< 1 else (c <<< 1) ^^^ 0x1021

/-- The division steps of two words run side by side: the second gives its top bit as data and moves up. -/
theorem crcShift_xor (c d : BitVec 16) : crcShift (c ^^^ d) = crcStep c (d.getLsbD 15) ^^^ d <<< 1 := by
  have htop : (c ^^^ d).msb = (c.getLsbD 15 ^^ d.getLsbD 15) := by
    rw [BitVec.msb_xor, BitVec.msb_eq_getLsbD_last, BitVec.msb_eq_getLsbD_last]
  rw [crcShift, crcStep, htop, BitVec.shiftLeft_xor_distrib]
  cases c.getLsbD 15 <;> cases d.getLsbD 15 <;> simp [BitVec.xor_assoc, BitVec.xor_comm (d <<< 1)]

/-- The bits of a byte, most significant first. -/
def bitsOf (b : Byte) : List Bool := (List.range 8).map fun j => b.getLsbD (7 - j)

/-- A byte is taken in bit by bit. -/
theorem crcByte_eq_foldl (c : BitVec 16) (b : Byte) : crcByte c b = (bitsOf b).foldl crcStep c := by
  have hbits : bitsOf b = [b.getLsbD 7, b.getLsbD 6, b.getLsbD 5, b.getLsbD 4, b.getLsbD 3, b.getLsbD 2, b.getLsbD 1,
      b.getLsbD 0] := rfl
  have hgone : (b.setWidth 16 <<< 8) <<< 1 <<< 1 <<< 1 <<< 1 <<< 1 <<< 1 <<< 1 <<< 1 = 0#16 := by
    simp only [← BitVec.shiftLeft_add]
    exact BitVec.shiftLeft_eq_zero (by decide)
  simp only [crcByte, crcShift_xor, hgone, BitVec.xor_zero, hbits, List.foldl_cons, List.foldl_nil]
  simp

theorem crcBitByBit_eq (bs : List Byte) : crcBitByBit bs = crc16 bs := by
  rw [crcBitByBit, crc16, List.foldl_flatMap]
  exact congrArg (fun f => List.foldl f 0xFFFF bs) (funext fun c => funext fun b => (crcByte_eq_foldl c b).symm)

theorem bytesOf_eq_inBytes (k n : Nat) : bytesOf k n = inBytes k n := by
  induction k generalizing n with
  | zero => rfl
  | succ k ih =>
    rw [bytesOf, ih, inBytes, inBytes, List.range_succ, List.map_append]
    congr 1
    · refine List.map_congr_left fun j hj => ?_
      have hlt := List.mem_range.mp hj
      have hpow : 256 * 256 ^ (k - 1 - j) = 256 ^ (k - j) := by
        rw [← pow_succ']
        congr 1
        omega
      rw [Nat.div_div_eq_div_mul, hpow, Nat.add_sub_cancel]
    · simp

theorem inBytes_eq : inBytes = bytesOf := funext fun k => funext fun n => (bytesOf_eq_inBytes k n).symm

/-- A report is sent as the frame of its kind and the bytes of its body. -/
theorem sentAs_of {b : ReportBody} {kind : Byte} {body : List Byte} (hk : b.kind = kind) (hb : b.bytes = body) :
    SentAs b kind body := by
  subst hk hb
  intro tag rate
  dsimp only
  rw [crcBitByBit_eq, inBytes_eq]
  rfl

/-! ## Codes in a byte -/

theorem lineByte_eq (l : Line) : bytesOf 1 (lineCode l) = [lineByte l] := by cases l <;> rfl

theorem powerByte_eq (p : LinePower) : bytesOf 1 p.code = [powerByte p] := by cases p <;> rfl

theorem kindByte_eq (k : LongKind) : k.code = kindByte k := by cases k <;> rfl

theorem flagByte_eq (b : Bool) : flagByte b = [flagged b] := by cases b <;> rfl

theorem standingBytes_eq (x : Standing) :
    bytesOf 1 x.code ++ (bytesOf 1 x.marker.1 ++ bytesOf 1 x.marker.2) = standingBytes x := by
  simp only [bytesOf_one]
  cases x with
  | bound a lease => rfl
  | lost h => cases h <;> rfl
  | unbound => rfl

theorem standingBytes_eq' (x : Standing) (rest : List Byte) :
    bytesOf 1 x.code ++ (bytesOf 1 x.marker.1 ++ (bytesOf 1 x.marker.2 ++ rest)) = standingBytes x ++ rest := by
  rw [← standingBytes_eq, List.append_assoc, List.append_assoc]

theorem reqStateByte_eq (x : ReqState) :
    bytesOf 1 x.code = [match x with | .queued => 0 | .running => 1 | .halting => 2] := by
  cases x <;> rfl

/-! ## Fields of the replies -/

theorem pageBytes_eq : Entry.pageBytes = fun e =>
    bytesOf 8 e.identity.toNat ++ [lineByte e.line] ++ standingBytes e.standing ++ bytesOf 1 e.misses ++
      [flagged e.attention] ++ bytesOf 1 e.returns ++ bytesOf 4 e.lastSeen.toNat :=
  funext fun e => by
    simp only [Entry.pageBytes, lineByte_eq, flagByte_eq, List.append_assoc, standingBytes_eq']

theorem hushRecBytes_eq : HushRec.bytes = fun h =>
    bytesOf 8 h.identity.toNat ++ [lineByte h.line] ++
      bytesOf 1 (match h.reason with | .clash => 0 | .rosterFull => 1 | .noAddress => 2 | .forgotten => 3) ++
      bytesOf 4 h.expiry.toNat :=
  funext fun h => by
    obtain ⟨i, l, r, x⟩ := h
    cases r <;> simp only [HushRec.bytes, HushReason.code, lineByte_eq]

theorem openPowerBytes_eq (p : Option (Tag × Direction)) :
    tagByte (p.map (·.1)) ++ bytesOf 1 ((p.map fun p => directionCode p.2).getD 0) =
      match p with | none => [0, 0] | some (tag, .off) => [tag, 0] | some (tag, .on) => [tag, 1] := by
  rcases p with - | ⟨tag, d⟩
  · simp [tagByte, bytesOf_one]
  · cases d <;> simp [tagByte, directionCode, bytesOf_one]

theorem earliestBytes_eq (p : Option (Clock × Nat)) :
    flagByte p.isSome ++ bytesOf 4 ((p.map fun p => p.1.toNat).getD 0) ++ bytesOf 4 ((p.map fun p => p.2).getD 0) =
      match p with
      | none => bytesOf 1 0 ++ bytesOf 4 0 ++ bytesOf 4 0
      | some (expiry, left) => bytesOf 1 1 ++ bytesOf 4 expiry.toNat ++ bytesOf 4 left := by
  rcases p with - | ⟨expiry, left⟩ <;> rfl

theorem lineInfoBytes_eq (i : LineInfo) : i.bytes =
    [lineByte i.line] ++ bytesOf 4 i.clock.toNat ++ [powerByte i.power] ++
      (match i.openPower with
        | none => [0, 0] | some (tag, .off) => [tag, 0] | some (tag, .on) => [tag, 1] : List Byte) ++
      bytesOf 1 (match i.settlingLeft with | none => 255 | some ms => ms) ++
      bytesOf 1 (match i.speed with | none => 0 | some grade => grade) ++ bytesOf 1 i.boundCount ++
      bytesOf 1 i.freeCount ++ bytesOf 1 i.quarantineCount ++
      (match i.earliest with
        | none => bytesOf 1 0 ++ bytesOf 4 0 ++ bytesOf 4 0
        | some (expiry, left) => bytesOf 1 1 ++ bytesOf 4 expiry.toNat ++ bytesOf 4 left) ++
      [i.census.getD 0] ++ bytesOf 1 i.queueLength ++
      bytesOf 1 (match i.pollRunning with | none => 0 | some true => 1 | some false => 2) ++
      bytesOf 4 i.counters.callsSent.toNat ++ bytesOf 4 i.counters.silent.toNat ++
      bytesOf 4 i.counters.garbled.toNat ++ bytesOf 4 i.counters.mismatches.toNat ++
      bytesOf 4 i.counters.overruns.toNat ++ bytesOf 4 i.counters.rounds.toNat := by
  have hsettling : i.settlingLeft.getD 0xFF = match i.settlingLeft with | none => 255 | some ms => ms := by
    cases i.settlingLeft <;> rfl
  have hspeed : i.speed.getD 0 = match i.speed with | none => 0 | some grade => grade := by
    cases i.speed <;> rfl
  have hpower := openPowerBytes_eq i.openPower
  have hearliest := earliestBytes_eq i.earliest
  rw [← hpower, ← hearliest, ← hsettling, ← hspeed]
  unfold LineInfo.bytes
  rcases i.pollRunning with - | - | - <;>
    simp only [lineByte_eq, powerByte_eq, tagByte, List.append_assoc]
theorem infoBytes_eq (position : Nat) (e : Entry) : e.infoBytes position =
    bytesOf 1 position ++ [lineByte e.line] ++ standingBytes e.standing ++
      bytesOf 2 (match e.standing with | .bound _ lease => lease | _ => 0) ++ bytesOf 1 e.misses ++
      [flagged e.attention] ++ bytesOf 2 e.memorySize ++ bytesOf 1 e.returns ++ bytesOf 4 e.lastSeen.toNat ++
      bytesOf 1 e.pendingTx ++ [e.forgetting.getD 0] := by
  have hlease : e.standing.leaseField = match e.standing with | .bound _ lease => lease | _ => 0 := by
    cases e.standing <;> rfl
  rw [← hlease]
  unfold Entry.infoBytes
  simp only [lineByte_eq, flagByte_eq, tagByte, List.append_assoc, standingBytes_eq']

theorem linkRequestBytes_eq : (fun r : Req => [r.tag, r.kind.code] ++ bytesOf 1 r.state.code) = fun q =>
    [q.tag, kindByte q.kind, match q.state with | .queued => 0 | .running => 1 | .halting => 2] :=
  funext fun q => by
    rw [reqStateByte_eq, kindByte_eq]
    rfl

theorem linkInfoBytes_eq (i : LinkInfo) : i.bytes =
    bytesOf 4 i.clock.toNat ++ bytesOf 1 i.hostRate ++ bytesOf 2 i.rxTimeouts.toNat ++
      bytesOf 2 i.rxBadLength.toNat ++ bytesOf 2 i.rxCrcErrors.toNat ++ bytesOf 2 i.rxDiscards.toNat ++
      bytesOf 2 i.dropped.toNat ++ bytesOf 1 i.waiting ++ bytesOf 1 i.occupied ++ bytesOf 1 i.reserved ++
      [i.stop.getD 0] ++ bytesOf 1 i.requests.length ++ i.requests.flatMap fun q =>
        [q.tag, kindByte q.kind, match q.state with | .queued => 0 | .running => 1 | .halting => 2] := by
  rw [← linkRequestBytes_eq]
  rfl

/-! ## Codes of replies and of closings -/

theorem cancelResultByte_eq : ∀ p ∈ [((0 : Byte), CancelResult.notOpen), (1, .notCancellable), (2, .cancelling)],
    bytesOf 1 p.2.code = [p.1] := by decide

theorem reasonByte_eq : ∀ p ∈ [((0x01 : Byte), Reason.malformed), (0x02, .unknownKind), (0x03, .tagZero),
      (0x04, .tagInUse), (0x05, .stopping), (0x06, .tableFull), (0x07, .lineNotUp), (0x08, .lineBusy),
      (0x09, .censusActive), (0x0A, .unknownNode), (0x0B, .notBound), (0x0C, .forgetting), (0x0D, .badRange),
      (0x0E, .queueFull), (0x0F, .badParam), (0x10, .paramConflict), (0x11, .paramLocked)],
    bytesOf 1 p.2.code = [p.1] := by decide

theorem outcomeByte_eq : ∀ p ∈ [((0x00 : Byte), CloseOutcome.done), (0x01, .budget), (0x02, .cancelled),
      (0x03, .stopped), (0x04, .lineDown), (0x05, .faulted), (0x06, .noAnswer), (0x07, .nodeBusy),
      (0x08, .nodeRefused), (0x09, .targetLost), (0x0A, .targetGone)],
    bytesOf 1 p.2.code = [p.1] := by decide

theorem storedByte_eq : ∀ x ∈ [((0 : Byte), Stored.no), (1, .yes), (2, .unknown)], bytesOf 1 x.2.code = [x.1] := by
  decide

theorem refusalByte_eq : ∀ y ∈ refusals, bytesOf 1 (refusalCode y.2) = [y.1] := by decide

theorem forgetDetailByte_eq : ∀ x ∈ [((0 : Byte), ForgetDetail.none), (1, .released), (2, .unconfirmed), (3, .found),
      (4, .wentLost), (5, .unpowered), (6, .direct)], bytesOf 1 x.2.code = [x.1] := by decide

theorem lossCauseByte_eq : ∀ x ∈ [((0 : Byte), LossCause.poll), (1, .transaction), (2, .limit)],
    bytesOf 1 x.2.code = [x.1] := by decide

theorem closedBytes_eq {b : Byte} {o : CloseOutcome} (h : bytesOf 1 o.code = [b]) (r : CloseResult) :
    (ReportBody.closed o r).bytes = [r.kind.code, b] ++ r.bytes o := by
  rw [ReportBody.bytes, h]
  rfl

/-- A READ that closes without bytes and without a refusal says its attempts only (R160). -/
theorem readBytes_eq {o : CloseOutcome} (hdone : o ≠ .done) (hrefused : o ≠ .nodeRefused) (attempts : Nat)
    (bytes : Option (List Byte)) (code : Option RefusalCode) :
    (CloseResult.read attempts bytes code).bytes o = bytesOf 1 attempts := by
  cases o with
  | done => exact absurd rfl hdone
  | nodeRefused => exact absurd rfl hrefused
  | _ => exact List.append_nil _

end Sys2Proof.Machine

open Sys2Proof.Machine Sys2Proof.Statements

/-- Settles O33: kind by kind, the bytes of the body are the fields in their order. -/
theorem reportFramesCarryTheirFields : Obligations.ReportFramesCarryTheirFields := by
  unfold Obligations.ReportFramesCarryTheirFields
  rw [inBytes_eq]
  refine ⟨fun total start es => sentAs_of rfl ?_, fun i => sentAs_of rfl rfl, fun i position e => sentAs_of rfl ?_,
    fun i => sentAs_of rfl (lineInfoBytes_eq i), fun now hs => sentAs_of rfl ?_,
    fun i => sentAs_of rfl (linkInfoBytes_eq i), fun id v => sentAs_of rfl rfl, fun target kind p hp => sentAs_of rfl ?_,
    fun soft rate => sentAs_of rfl ?_, fun k => sentAs_of rfl ?_, fun kind p hp => sentAs_of rfl ?_,
    fun p hp => ⟨fun t => sentAs_of rfl ?_, fun attempts bytes code hdone hrefused => sentAs_of rfl ?_,
      fun attempts x hx y hy => sentAs_of rfl ?_, fun i x hx => sentAs_of rfl ?_, fun l power lost => sentAs_of rfl ?_,
      fun n => sentAs_of rfl ?_⟩, fun attempts bytes code => sentAs_of rfl ?_,
    fun attempts bytes y hy => sentAs_of rfl ?_, fun d i l o a m r slot => ?_⟩
  · rw [ReportBody.bytes, pageBytes_eq]
  · rw [ReportBody.bytes, infoBytes_eq]
    simp only [List.append_assoc] <;> rfl
  · exact congrArg (fun f => bytesOf 4 now.toNat ++ bytesOf 1 hs.length ++ hs.flatMap f) hushRecBytes_eq
  · rw [ReportBody.bytes, cancelResultByte_eq p hp]
    cases kind with
    | none => rfl
    | some k => exact congrArg (fun x => [target, x, p.1]) (kindByte_eq k)
  · rw [ReportBody.bytes, flagByte_eq]
  · rw [ReportBody.bytes, kindByte_eq]
  · rw [ReportBody.bytes, reasonByte_eq p hp]
    rfl
  · rw [closedBytes_eq (outcomeByte_eq p hp)]
    rfl
  · rw [closedBytes_eq (outcomeByte_eq p hp), readBytes_eq hdone hrefused]
    rfl
  · rw [closedBytes_eq (outcomeByte_eq p hp), CloseResult.bytes, storedByte_eq x hx, refusalByte_eq y hy]
    simp only [List.append_assoc]
    rfl
  · rw [closedBytes_eq (outcomeByte_eq p hp), CloseResult.bytes, forgetDetailByte_eq x hx]
    simp only [List.append_assoc]
    rfl
  · rw [closedBytes_eq (outcomeByte_eq p hp), CloseResult.bytes, lineByte_eq, powerByte_eq]
    rfl
  · rw [closedBytes_eq (outcomeByte_eq p hp)]
    rfl
  · rw [closedBytes_eq (b := 0x00) rfl, CloseResult.bytes]
    simp only [List.append_assoc]
    rfl
  · rw [closedBytes_eq (b := 0x08) rfl, CloseResult.bytes]
    simp only [List.append_assoc]
    rw [refusalByte_eq y hy]
    rfl
  · dsimp only
    refine ⟨fun flag => sentAs_of rfl ?_, fun n => sentAs_of rfl ?_, fun n => sentAs_of rfl ?_, sentAs_of rfl ?_,
      sentAs_of rfl ?_, sentAs_of rfl ?_, fun e E S C K B next => sentAs_of rfl ?_, fun t x hx => sentAs_of rfl ?_,
      fun t => sentAs_of rfl ?_, fun t lost => sentAs_of rfl ?_⟩
    case refine_8 =>
      rw [ReportBody.bytes, Event.bytes, lossCauseByte_eq x hx]
      simp only [lineByte_eq, List.append_assoc]
    all_goals simp only [ReportBody.bytes, Event.bytes, lineByte_eq, flagByte_eq, List.append_assoc]
end

section
/-! A grant of the arbiter, and the last bit of a call (R48, R60, R61, R83, R93, R110, R124, R125, R135). -/

namespace Sys2Proof.Machine

open Sys2Proof.Statements

/-! ## Grants -/

theorem exec_lineGrant_of_granted {s u : State} {l : Line} {c : Contender} (h : Granted s l c)
    (hu : s.beginFor l c = some u) : exec (.lineGrant l) s = .next (u.countGrant l c (s.waits l)) := by
  obtain ⟨hup, hoff, hop, hwaits, hbefore⟩ := h
  have hgrantable : (s.line l).grantable = true := by simp [LineState.grantable, hup, hoff, hop]
  simp only [exec, execLineGrant, hgrantable, if_true, State.chosen_iff.mpr ⟨hwaits, hbefore⟩, hu]

theorem exec_lineGrant_of_none {s : State} {l : Line} (h : (s.line l).power ≠ .up ∨ (s.line l).offOpen = true ∨
    (s.line l).op ≠ none ∨ ∀ c, s.waits l c = false) : exec (.lineGrant l) s = .next s := by
  simp only [exec, execLineGrant]
  split
  · rename_i hgrant
    simp only [LineState.grantable, Bool.and_eq_true, beq_iff_eq, Bool.not_eq_true', Option.isNone_iff_eq_none] at hgrant
    obtain ⟨⟨hup, hoff⟩, hop⟩ := hgrant
    have hidle : ∀ c, s.waits l c = false := by
      rcases h with h | h | h | h
      · exact absurd hup h
      · rw [hoff] at h
        exact nomatch h
      · exact absurd hop h
      · exact h
    cases hc : s.chosen l with
    | none => rfl
    | some c =>
      have hwaits := (State.chosen_iff.mp hc).1
      rw [hidle c] at hwaits
      exact nomatch hwaits
  · rfl

theorem State.setLine_countGrant (s : State) (l : Line) (L : LineState) (c : Contender) (waiting : Contender → Bool) :
    (s.setLine l L).countGrant l c waiting = s.setLine l { L with
      passedT := if Contender.executor = c then 0 else if waiting .executor then L.passedT + 1 else L.passedT
      passedP := if Contender.scheduler = c then 0 else if waiting .scheduler then L.passedP + 1 else L.passedP
      passedC := if Contender.sequencer = c then 0 else if waiting .sequencer then L.passedC + 1 else L.passedC } := by
  unfold State.countGrant
  dsimp only
  rw [State.modLine_eq_setLine, State.line_setLine, State.setLine_setLine]

/-- A contender that is not granted counts one more when it waits. -/
theorem passedOver_eq (s : State) (l : Line) (c : Contender) :
    passedOver s l c = if s.waits l c then (s.line l).passed c + 1 else (s.line l).passed c := by
  by_cases h : s.waits l c = true <;> simp [passedOver, h]

theorem attemptBegun_eq (s : State) (l : Line) (r : Txn) (rest : List Txn) (a : Address) :
    attemptBegun s l r rest a = ({ s with table := runningIn r.tag s.table } : State).setLine l { s.line l with
      queue := { r with attempts := r.attempts + 1, inFlight := true } :: rest
      op := some { work := .attempt, call := r.call a s.params.hushTime, listening := false } } := by
  cases l <;> rfl

theorem pollBegun_eq (s : State) (l : Line) (c : PollCycle) (n : Nat) (rest : List Nat) (e : Entry) (a : Address) :
    pollBegun s l c n rest e a = s.setLine l { s.line l with
      poll := some { c with remaining := rest }
      op := some { work := .poll n e.identity, call := .poll a, listening := false } } := by
  cases l <;> rfl

theorem slotBegun_eq (s : State) (l : Line) (c : Census) :
    slotBegun s l c = ({ s with table := runningIn c.tag s.table } : State).setLine l
      (if c.slotIndex = 0 then { s.line l with
        census := some (rolled s.params c)
        op := some ⟨.slotOpening, .roll (s.params.clampExp c.exponent) c.scopeLength c.scopeBits, false⟩ }
      else { s.line l with op := some ⟨.slotOpening, .step, false⟩ }) := by
  unfold slotBegun
  split <;> cases l <;> rfl

theorem beginSlot_of_census {s : State} {l : Line} {c : Census} (h : (s.line l).census = some c) :
    s.beginSlot l = some (slotBegun s l c) := by
  have hbegins : ∃ u, s.beginSlot l = some u := by
    unfold State.beginSlot
    rw [h]
    dsimp only
    split
    · exact ⟨_, rfl⟩
    · exact ⟨_, rfl⟩
  obtain ⟨u, hu⟩ := hbegins
  obtain ⟨c', hc', rfl⟩ := beginSlot_cases hu
  obtain rfl := Option.some.inj (h.symm.trans hc')
  exact hu

/-- The members no longer BOUND are passed over (R93). -/
theorem dropWhile_unbound {s : State} {l : Line} {skip rest : List Nat} {n : Nat}
    (hskip : ∀ k ∈ skip, s.memberBound l k = false) (hn : s.memberBound l n = true) :
    ((skip ++ n :: rest).dropWhile fun k => !s.memberBound l k) = n :: rest := by
  rw [List.dropWhile_append_of_pos fun k hk => by rw [hskip k hk]; rfl]
  exact List.dropWhile_cons_of_neg (by rw [hn]; decide)

theorem State.memberBound_of_entryOf {s : State} {n : Nat} {e : Entry} (h : s.entryOf n = some e)
    (hb : e.standing.isBound = true) : s.memberBound e.line n = true := by
  refine List.any_eq_true.mpr ⟨e, List.mem_of_find?_eq_some h, ?_⟩
  have hserial : (e.serial == n) = true := List.find?_some (p := fun x : Entry => x.serial == n) h
  rw [hserial]
  simp [Entry.boundOn, hb]

/-! ## The last bit of a call -/

theorem exec_callSent_of_op {s : State} {l : Line} {w : OpWork} {c : Call}
    (h : (s.line l).op = some { work := w, call := c, listening := false }) :
    exec (.callSent l) s =
      .next ((callCounted s l { work := w, call := c, listening := false }).callEffect l
        { work := w, call := c, listening := false }) := by
  simp only [exec, execCallSent, h]
  rfl

/-- The record a HUSH enters (R83). -/
abbrev hushRecord (s : State) (l : Line) (i : Ident) (r : HushReason) (k : Nat) : HushRec :=
  { identity := i, line := l, reason := r, expiry := s.clock + BitVec.ofNat 32 (k * 1000) }

/-- The last bit of a HUSH (R65, R83). -/
theorem callEffect_hush (s : State) (l : Line) (h : Handle) (k : Nat) (i : Ident) (r : HushReason) (v : Option FindEvent)
    (m : Bool) :
    (callCounted s l ⟨.slotHush i r v m, .hush h k, false⟩).callEffect l ⟨.slotHush i r v m, .hush h k, false⟩ =
      ({ s with hush := hushEnter s.hush (hushRecord s l i r k) } : State).setLine l
        { s.line l with
          counters := { (s.line l).counters with callsSent := (s.line l).counters.callsSent + 1 }
          op := some ⟨.slotHush i r v (hushMatch s.hush i l r), .hush h k, true⟩ } := by
  cases l <;> rfl

/-- Records are put in order one by one (R46). -/
theorem inOrder_insertRecord {now : Clock} {rs : List QuarantineRec} (h : InOrder now rs) (r : QuarantineRec) :
    InOrder now (insertRecord now r rs) := by
  induction rs with
  | nil => exact List.pairwise_singleton ..
  | cons x xs ih =>
    obtain ⟨hx, hxs⟩ := List.pairwise_cons.mp h
    unfold insertRecord
    split
    · rename_i hbefore
      simp only [QuarantineRec.before, Bool.or_eq_true, Bool.and_eq_true, decide_eq_true_eq, beq_iff_eq] at hbefore
      refine List.pairwise_cons.mpr ⟨List.forall_mem_cons.mpr ⟨by omega, fun y hy => ?_⟩, h⟩
      have := hx y hy
      omega
    · rename_i hbefore
      simp only [QuarantineRec.before, Bool.or_eq_true, Bool.and_eq_true, decide_eq_true_eq, beq_iff_eq] at hbefore
      refine List.pairwise_cons.mpr ⟨fun y hy => ?_, ih hxs⟩
      rcases List.mem_cons.mp ((insertRecord_perm now r xs).subset hy) with rfl | hy
      · omega
      · exact hx y hy

theorem inOrder_orderRecords (now : Clock) (rs : List QuarantineRec) : InOrder now (orderRecords now rs) := by
  induction rs with
  | nil => exact List.Pairwise.nil
  | cons r rs ih => exact inOrder_insertRecord ih r

theorem hushEnter_spec (hs : List HushRec) (h : HushRec) : hushEnter hs h =
    if ∃ x ∈ hs, x.identity = h.identity then hs.filter (·.identity != h.identity) ++ [h]
    else if hs.length < 16 then hs ++ [h] else hs.drop 1 ++ [h] := by
  unfold hushEnter
  refine if_congr ?_ rfl (if_congr Iff.rfl rfl ?_)
  · rw [List.any_eq_true]
    exact exists_congr fun x => and_congr_right fun _ => beq_iff_eq
  · rw [List.drop_one]

end Sys2Proof.Machine

open Sys2Proof.Machine Sys2Proof.Statements

/-- Settles O38: the contender that goes before the others is the one chosen, and its operation begins. -/
theorem grantBeginsOneOperation : Obligations.GrantBeginsOneOperation := by
  refine fun s l => ⟨exec_lineGrant_of_none, fun r rest e a lease hgrant hq he hst => ?_,
    fun c skip n rest e a lease hgrant hc hrem hskip he hline hst => ?_, fun c hgrant hc => ?_⟩
  · have hbegin : s.beginFor l .executor = some (attemptBegun s l r rest a) := by
      simp only [State.beginFor, State.beginAttempt, hq, he, Option.bind_some, Entry.address, hst]
    rw [exec_lineGrant_of_granted hgrant hbegin, attemptBegun_eq, State.setLine_countGrant, passedOver_eq, passedOver_eq]
    rfl
  · have hfirst := dropWhile_unbound (rest := rest) hskip (hline ▸ State.memberBound_of_entryOf he (by rw [hst]; rfl))
    have hbegin : s.beginFor l .scheduler = some (pollBegun s l c n rest e a) := by
      simp only [State.beginFor, State.beginPoll, hc, hrem, hfirst, he, Entry.address, hst]
    rw [exec_lineGrant_of_granted hgrant hbegin, pollBegun_eq, State.setLine_countGrant, passedOver_eq, passedOver_eq]
    rfl
  · have hbegin : s.beginFor l .sequencer = some (slotBegun s l c) := beginSlot_of_census hc
    rw [exec_lineGrant_of_granted hgrant hbegin, slotBegun_eq, State.setLine_countGrant]
    dsimp only
    rw [passedOver_eq, passedOver_eq]
    refine ⟨fun hzero => ?_, fun hne => ?_⟩
    · rw [if_pos hzero]
      rfl
    · rw [if_neg hne]
      rfl

/-- Settles O39: a ROLL extends the quarantine, a HUSH enters its record, and any other call is only counted. -/
theorem sentCallOpensWindow : Obligations.SentCallOpensWindow := by
  refine fun s l => ⟨fun h => ?_, fun w c h => ⟨fun hroll hhush => ?_, fun e n bits hc => ?_, fun hd k i r v m hc hw => ?_⟩⟩
  · simp only [exec, execCallSent]
    split
    · rename_i o ho
      rw [if_pos (h o ho)]
    · rfl
  · rw [exec_callSent_of_op h]
    cases c with
    | roll e n bits => exact absurd rfl (hroll e n bits)
    | hush hd k => exact absurd rfl (hhush hd k)
    | _ => rfl
  · subst hc
    refine ⟨_, orderRecords_perm s.clock _, inOrder_orderRecords s.clock _, ?_⟩
    rw [exec_callSent_of_op h]
    simp only [State.callEffect, State.extendQuarantine, State.modLine_eq_setLine, State.line_setLine, State.setLine_setLine,
      State.setLine_clock]
    rfl
  · subst hc hw
    rw [exec_callSent_of_op h]
    rw [callEffect_hush, hushEnter_spec]
    rfl
end

section
/-! What settling leaves at the end of a claim that began in a settled state (R98, R124): a cycle with nothing left to do
finishes, and the contenders whose work the claim took away count 0. -/

namespace Sys2Proof.Machine

open Sys2Proof.Statements

/-- The counts of a line whose queue or census a claim has emptied (R124). -/
abbrev countsLeft (L : LineState) : LineState :=
  { L with passedT := passedWith L L.queue, passedC := if L.census = none then 0 else L.passedC }

/-- A line after a claim that takes up no line operation and leaves poll cycle and counts as they are. -/
structure LineState.EndsWork (L M : LineState) : Prop where
  poll : M.poll = L.poll
  counts : M.passedT = L.passedT ∧ M.passedP = L.passedP ∧ M.passedC = L.passedC
  attempt : M.attemptInFlight = true → L.attemptInFlight = true
  polling : M.pollInProgress = true → L.pollInProgress = true
  slot : M.slotInProgress = true → L.slotInProgress = true

/-- The operation in progress stays. -/
theorem LineState.EndsWork.of_op {L M : LineState} (hp : M.poll = L.poll)
    (hc : M.passedT = L.passedT ∧ M.passedP = L.passedP ∧ M.passedC = L.passedC) (hop : M.op = L.op) : L.EndsWork M := by
  refine ⟨hp, hc, ?_, ?_, ?_⟩
  · simp only [LineState.attemptInFlight, hop, imp_self]
  · simp only [LineState.pollInProgress, hop, imp_self]
  · simp only [LineState.slotInProgress, hop, imp_self]

/-- The operation in progress ends. -/
theorem LineState.EndsWork.of_end {L M : LineState} (hp : M.poll = L.poll)
    (hc : M.passedT = L.passedT ∧ M.passedP = L.passedP ∧ M.passedC = L.passedC) (hop : M.op = none) : L.EndsWork M := by
  refine ⟨hp, hc, ?_, ?_, ?_⟩
  · simp [LineState.attemptInFlight, hop]
  · simp [LineState.pollInProgress, hop]
  · simp [LineState.slotInProgress, hop]

/-- A slot operation goes on with its next call. -/
theorem LineState.EndsWork.of_slot {L M : LineState} (hp : M.poll = L.poll)
    (hc : M.passedT = L.passedT ∧ M.passedP = L.passedP ∧ M.passedC = L.passedC) (hL : L.slotInProgress = true)
    {o : LineOp} (hop : M.op = some o) (ho : o.isSlot = true) : L.EndsWork M := by
  have hkinds : o.isAttempt = false ∧ o.isPoll = false := by
    revert ho
    cases hw : o.work <;> simp [LineOp.isSlot, LineOp.isAttempt, LineOp.isPoll, hw]
  refine ⟨hp, hc, ?_, ?_, fun _ => hL⟩
  · simp [LineState.attemptInFlight, hop, hkinds.1]
  · simp [LineState.pollInProgress, hop, hkinds.2]

theorem cycleAfter_of_not_done {u : State} {l : Line} (h : u.cycleDone l = false) :
    cycleAfter u l u.roster (u.line l) = u.line l := by
  cases hp : (u.line l).poll with
  | none => simp only [cycleAfter, hp]
  | some c =>
    have hnot := fun hc => Bool.eq_false_iff.mp h ((State.cycleDone_iff hp).mpr hc)
    simp only [cycleAfter, hp, if_neg hnot]

/-- A cycle that finishes leaves its count at 0 and touches besides only itself and the overruns. -/
theorem cycleAfter_of_done {u : State} {l : Line} (h : u.cycleDone l = true) :
    ∃ poll k, cycleAfter u l u.roster (u.line l) = { u.line l with poll := poll, counters := k, passedP := 0 } := by
  cases hp : (u.line l).poll with
  | none => simp [State.cycleDone, LineState.cycleRunning, hp] at h
  | some c =>
    have hdone := (State.cycleDone_iff hp).mp h
    simp only [cycleAfter, hp, if_pos hdone]
    exact ⟨_, _, rfl⟩

/-- The finish of a cycle looks at clock, parameters, poll and operation alone, and at no count. -/
theorem cycleAfter_counts (s : State) (l : Line) (es : List Entry) (L : LineState) (t c : Nat) :
    cycleAfter s l es { L with passedT := t, passedC := c } =
      { cycleAfter s l es L with passedT := t, passedC := c } := by
  cases hp : L.poll with
  | none => simp only [cycleAfter, hp]
  | some x =>
    by_cases hdone : x.running = true ∧ L.op.any LineOp.isPoll = false ∧ NoneLeft s l es x
    · simp only [cycleAfter, hp, LineState.pollInProgress, if_pos hdone]
    · simp only [cycleAfter, hp, LineState.pollInProgress, if_neg hdone]

theorem cycleAfter_congr {s u : State} (hc : u.clock = s.clock) (hp : u.params = s.params) (l : Line)
    (es : List Entry) (L : LineState) : cycleAfter u l es L = cycleAfter s l es L := by
  simp only [cycleAfter, hc, hp, NoneLeft, State.memberBound]

/-- A line at the end of a claim. -/
theorem lineSettled_of_ends {s u : State} {l : Line} (h : WaitLaw s l) (hclock : u.clock = s.clock)
    (hparams : u.params = s.params) (k : (s.line l).EndsWork (u.line l)) :
    lineSettled u l = cycleAfter s l u.roster (countsLeft (u.line l)) := by
  obtain ⟨⟨hT, hP, hC⟩, -⟩ := waitLaw_iff.mp h
  obtain ⟨hpT, hpP, hpC⟩ := k.counts
  have hcycle : ∃ poll counters p, cycleAfter u l u.roster (u.line l) = { u.line l with
      poll := poll, counters := counters, passedP := p } ∧
        ((u.setLine l (cycleAfter u l u.roster (u.line l))).waitsP l = false → p = 0) := by
    cases hdone : u.cycleDone l with
    | true =>
      obtain ⟨poll, counters, hM⟩ := cycleAfter_of_done hdone
      exact ⟨poll, counters, 0, hM, fun _ => rfl⟩
    | false =>
      rw [cycleAfter_of_not_done hdone, State.setLine_line]
      refine ⟨(u.line l).poll, (u.line l).counters, (u.line l).passedP, rfl, fun hwaits => ?_⟩
      rw [hpP]
      refine hP ?_
      rw [State.cycleDone] at hdone
      rw [State.waitsP] at hwaits ⊢
      have hrunning : (s.line l).cycleRunning = (u.line l).cycleRunning := by
        rw [LineState.cycleRunning, LineState.cycleRunning, k.poll]
      have hpolling := k.polling
      rw [hrunning]
      revert hdone hwaits hpolling
      cases (u.line l).cycleRunning <;> cases (u.line l).pollInProgress <;> cases u.membersLeft l <;> simp_all
  obtain ⟨poll, counters, p, hM, hpzero⟩ := hcycle
  rw [cycleAfter_counts, ← cycleAfter_congr hclock hparams, lineSettled, countsSettled]
  rw [hM] at hpzero ⊢
  congr 1
  · simp only [State.waitsT, State.line_setLine, passedWith]
    cases hq : (u.line l).queue with
    | nil => rfl
    | cons r rest =>
      rw [if_neg (List.cons_ne_nil r rest)]
      simp only [List.isEmpty_cons, Bool.not_false, Bool.true_and, Bool.not_eq_true']
      split
      · rfl
      · rename_i hattempt
        have hin : (u.line l).attemptInFlight = true := Bool.eq_true_of_not_eq_false hattempt
        exact (hpT.trans (hT (by simp [State.waitsT, k.attempt hin]))).symm
  · split
    · rfl
    · rename_i hwaits
      exact (hpzero (Bool.not_eq_true _ ▸ hwaits)).symm
  · simp only [State.waitsC, State.line_setLine]
    cases hc : (u.line l).census with
    | none => rfl
    | some c =>
      simp only [Option.isSome_some, Bool.true_and, Bool.not_eq_true', reduceCtorEq, if_false]
      split
      · rfl
      · rename_i hslot
        have hin : (u.line l).slotInProgress = true := Bool.eq_true_of_not_eq_false hslot
        exact (hpC.trans (hC (by simp [State.waitsC, k.slot hin]))).symm

/-- A line that the claim left alone, and with it what is BOUND there, is settled still. -/
theorem lineSettled_of_same {s u : State} {l : Line} (h : WaitLaw s l) (hl : u.line l = s.line l)
    (hb : ∀ n, u.memberBound l n = s.memberBound l n) : lineSettled u l = s.line l := by
  obtain ⟨⟨hT, hP, hC⟩, hdone⟩ := waitLaw_iff.mp h
  have hleft : u.membersLeft l = s.membersLeft l := State.membersLeft_congr (by rw [hl]) hb
  have hudone : u.cycleDone l = false := by rw [State.cycleDone, hl, hleft]; exact hdone
  rw [← hl, lineSettled, cycleAfter_of_not_done hudone, countsSettled, State.setLine_line]
  have hT' : (if u.waitsT l then (u.line l).passedT else 0) = (u.line l).passedT := by
    split
    · rfl
    · rename_i hw
      rw [hl, hT (by rw [State.waitsT, hl] at hw; simpa [State.waitsT] using hw)]
  have hP' : (if u.waitsP l then (u.line l).passedP else 0) = (u.line l).passedP := by
    split
    · rfl
    · rename_i hw
      rw [hl, hP (by rw [State.waitsP, hl, hleft] at hw; simpa [State.waitsP] using hw)]
  have hC' : (if u.waitsC l then (u.line l).passedC else 0) = (u.line l).passedC := by
    split
    · rfl
    · rename_i hw
      rw [hl, hC (by rw [State.waitsC, hl] at hw; simpa [State.waitsC] using hw)]
  rw [hT', hP', hC']

/-- A cycle that had something left to do has it still when nobody leaves the line. -/
theorem cycleAfter_of_settled {s : State} {l : Line} (h : WaitLaw s l) {es : List Entry}
    (hb : ∀ n, ({ s with roster := es } : State).memberBound l n = s.memberBound l n) {L : LineState}
    (hp : L.poll = (s.line l).poll) (hop : L.pollInProgress = (s.line l).pollInProgress) : cycleAfter s l es L = L := by
  have hdone := h.2
  cases hpoll : L.poll with
  | none => simp only [cycleAfter, hpoll]
  | some c =>
    have hspoll : (s.line l).poll = some c := hp ▸ hpoll
    have hnot : ¬(c.running = true ∧ L.pollInProgress = false ∧ NoneLeft s l es c) := fun ⟨hrun, hprog, hnone⟩ => by
      refine Bool.eq_false_iff.mp hdone ((State.cycleDone_iff hspoll).mpr ⟨hrun, hop ▸ hprog, fun k hk => ?_⟩)
      exact (hb k).symm.trans (hnone k hk)
    simp only [cycleAfter, hpoll, if_neg hnot]

/-- A claim that settles to these two lines. -/
theorem State.settle_of_lines {u : State} {l m : Line} (hm : m ≠ l) {L M : LineState} (hl : lineSettled u l = L)
    (hmm : lineSettled u m = M) : u.settle = (u.setLine l L).setLine m M := by
  rw [State.settle_eq]
  cases l <;> cases m
  · exact absurd rfl hm
  · rw [hl, hmm]
  · rw [hl, hmm]; rfl
  · exact absurd rfl hm

/-- The other line of the part. -/
def otherLine : Line → Line
  | .A => .B
  | .B => .A

theorem otherLine_ne (l : Line) : otherLine l ≠ l := by cases l <;> decide

theorem waitLaw_of_settled {s : State} (h : Settled s) (l : Line) : WaitLaw s l := by
  cases l
  · exact h.1
  · exact h.2

/-- A claim that leaves the other line alone, and who is BOUND there, settles to this line. -/
theorem State.settle_setLine {s v : State} (hs : Settled s) (hclock : v.clock = s.clock) (hparams : v.params = s.params)
    {l : Line} {L : LineState} (k : (s.line l).EndsWork L) (hline : ∀ m, m ≠ l → v.line m = s.line m)
    (hb : ∀ m, m ≠ l → ∀ n, v.memberBound m n = s.memberBound m n) :
    (v.setLine l L).settle = v.setLine l (cycleAfter s l v.roster (countsLeft L)) := by
  have hne := otherLine_ne l
  have hthis : lineSettled (v.setLine l L) l = cycleAfter s l v.roster (countsLeft L) := by
    rw [lineSettled_of_ends (waitLaw_of_settled hs l) (by rw [State.setLine_clock, hclock]) (by rw [State.setLine_params, hparams])
      (by rwa [State.line_setLine]), State.line_setLine, State.setLine_roster]
  have hother : lineSettled (v.setLine l L) (otherLine l) = v.line (otherLine l) := by
    rw [hline _ hne]
    refine lineSettled_of_same (waitLaw_of_settled hs _) ((State.line_setLine_of_ne v hne L).trans (hline _ hne)) fun n => ?_
    exact (congrFun (congrFun (State.memberBound_congr (State.setLine_roster ..)) _) _).trans (hb _ hne n)
  rw [State.settle_of_lines hne hthis hother]
  cases l <;> rfl

/-- A state that differs in nothing that the settling of an unchanged line looks at. -/
structure Beside (s v : State) : Prop where
  clock : v.clock = s.clock
  params : v.params = s.params
  line : ∀ m, v.line m = s.line m
  bound : ∀ m n, v.memberBound m n = s.memberBound m n

theorem Beside.refl (s : State) : Beside s s := ⟨rfl, rfl, fun _ => rfl, fun _ _ => rfl⟩

theorem Beside.with_table (s : State) (t : List Req) : Beside s { s with table := t } :=
  ⟨rfl, rfl, fun m => State.line_with_table s m t, fun _ _ => rfl⟩

/-- Fields of an entry other than its binding are nothing to settling. -/
theorem Beside.withEntry (s : State) (i : Ident) {f : Entry → Entry}
    (hf : ∀ e, (f e).serial = e.serial ∧ (f e).line = e.line ∧ (f e).standing = e.standing) :
    Beside s { s with roster := withEntry i f s.roster } := by
  refine ⟨rfl, rfl, fun m => State.line_with_roster s m _, fun m n => memberBound_map rfl (fun x => ?_) n⟩
  split
  · obtain ⟨hserial, hline, hstanding⟩ := hf x
    exact ⟨hserial, by simp only [Entry.boundOn, hline, hstanding]⟩
  · exact ⟨rfl, rfl⟩

theorem Beside.lessPending (s : State) (i : Ident) : Beside s { s with roster := lessPending i s.roster } :=
  .withEntry s i (f := fun e => { e with pendingTx := e.pendingTx - 1 }) fun _ => ⟨rfl, rfl, rfl⟩

/-- A line with the same cycle, counts and operation. -/
def LineState.KeepsWork (L M : LineState) : Prop :=
  M.poll = L.poll ∧ (M.passedT = L.passedT ∧ M.passedP = L.passedP ∧ M.passedC = L.passedC) ∧ M.op = L.op

theorem LineState.KeepsWork.queue (L : LineState) (q : List Txn) : L.KeepsWork { L with queue := q } :=
  ⟨rfl, ⟨rfl, rfl, rfl⟩, rfl⟩

theorem LineState.KeepsWork.census (L : LineState) (c : Option Census) : L.KeepsWork { L with census := c } :=
  ⟨rfl, ⟨rfl, rfl, rfl⟩, rfl⟩

/-- A claim that changes nobody's binding and keeps the operation in progress only brings counts to 0. -/
theorem State.settle_setLine_of_bound {s v : State} (hs : Settled s) (k : Beside s v) {l : Line} {L : LineState}
    (hL : (s.line l).KeepsWork L) : (v.setLine l L).settle = v.setLine l (countsLeft L) := by
  obtain ⟨hp, hc, hop⟩ := hL
  rw [State.settle_setLine hs k.clock k.params (.of_op hp hc hop) (fun m _ => k.line m) fun m _ => k.bound m]
  rw [cycleAfter_of_settled (waitLaw_of_settled hs l)
    (fun n => (congrFun (congrFun (State.memberBound_congr rfl) _) _).trans (k.bound l n))]
  · exact hp
  · show L.op.any LineOp.isPoll = _
    rw [hop]
    rfl

theorem State.settle_of_wait {s : State} (hs : Settled s) : s.settle = s := by
  have h := State.settle_of_lines (otherLine_ne .A) (lineSettled_of_same (waitLaw_of_settled hs .A) rfl fun _ => rfl)
    (lineSettled_of_same (waitLaw_of_settled hs (otherLine .A)) rfl fun _ => rfl)
  rwa [State.setLine_line, State.setLine_line] at h

/-- Closings and settling do not meet. -/
theorem State.settle_closeAll (s : State) (rs : List Report) : (s.closeAll rs).settle = s.settle.closeAll rs := by
  have hline : ∀ l, lineSettled (s.closeAll rs) l = lineSettled s l := fun l => lineSettled_congr (State.closeAll_roster ..)
    (State.closeAll_clock ..) (State.closeAll_params ..) (State.line_closeAll ..)
  rw [State.settle_eq, State.settle_eq, hline, hline, State.closeAll_setLine, State.closeAll_setLine]

/-- Where the census stands as it was, so does the sequencer's count. -/
theorem passedC_of_waitLaw {s : State} {l : Line} (h : WaitLaw s l) :
    (if (s.line l).census = none then 0 else (s.line l).passedC) = (s.line l).passedC := by
  split
  · rename_i hnone
    exact ((waitLaw_iff.mp h).1.2.2 (by simp [State.waitsC, hnone])).symm
  · rfl

/-- Where the queue stands as it was, so does the executor's count. -/
theorem passedT_of_waitLaw {s : State} {l : Line} (h : WaitLaw s l) : passedWith (s.line l) (s.line l).queue = (s.line l).passedT := by
  rw [passedWith]
  split
  · rename_i hnone
    exact ((waitLaw_iff.mp h).1.1 (by simp [State.waitsT, hnone])).symm
  · rfl

end Sys2Proof.Machine
end

section
/-! The halt claims of a CANCEL or a STOP in closed form (R71, R72, R116, R120), and CANCEL (R152). -/

namespace Sys2Proof.Machine

open Sys2Proof.Statements

/-! ## The one element of a list with a key -/

section
variable {α β : Type} [DecidableEq β] {key : α → β} {ahead behind : List α} {x : α}

theorem find?_keyed (h : ∀ y ∈ ahead ++ behind, key y ≠ key x) :
    (ahead ++ x :: behind).find? (fun y => key y == key x) = some x := by
  have hahead : ahead.find? (fun y => key y == key x) = none :=
    List.find?_eq_none.mpr fun y hy => by simpa using h y (List.mem_append_left _ hy)
  rw [List.find?_append, hahead, Option.none_or, List.find?_cons_of_pos (by simp)]

theorem map_keyed (h : ∀ y ∈ ahead ++ behind, key y ≠ key x) (f : α → α) :
    ((ahead ++ x :: behind).map fun y => if key y = key x then f y else y) = ahead ++ f x :: behind := by
  have hsame : ∀ ys : List α, (∀ y ∈ ys, y ∈ ahead ++ behind) → (ys.map fun y => if key y = key x then f y else y) = ys :=
    fun ys hys => (List.map_congr_left fun y hy => if_neg (h y (hys y hy))).trans (List.map_id' ys)
  rw [List.map_append, List.map_cons, if_pos rfl, hsame ahead fun y => List.mem_append_left _,
    hsame behind fun y => List.mem_append_right _]

theorem filter_keyed (h : ∀ y ∈ ahead ++ behind, key y ≠ key x) :
    (ahead ++ x :: behind).filter (fun y => key y != key x) = ahead ++ behind := by
  have hkeep : ∀ ys : List α, (∀ y ∈ ys, y ∈ ahead ++ behind) → ys.filter (fun y => key y != key x) = ys :=
    fun ys hys => List.filter_eq_self.mpr fun y hy => by simpa using h y (hys y hy)
  rw [List.filter_append, List.filter_cons_of_neg (by simp), hkeep ahead fun y => List.mem_append_left _,
    hkeep behind fun y => List.mem_append_right _]

end

theorem openAt_of_nodup {s : State} {front back : List Req} {q : Req} (hn : (s.table.map (·.tag)).Nodup)
    (h : s.table = front ++ q :: back) : OpenAt s q.tag front q back := by
  refine ⟨h, rfl, fun r hr heq => ?_⟩
  rw [h, List.map_append, List.map_cons, List.nodup_middle, List.nodup_cons, ← List.map_append] at hn
  exact hn.1 (List.mem_map.mpr ⟨r, hr, heq⟩)

/-! ## The halt claims -/

/-- The table with the request of a tag HALTING (R150). -/
abbrev haltingIn (tag : Tag) (table : List Req) : List Req :=
  table.map fun q => if q.tag = tag then { q with state := .halting } else q

theorem haltingIn_of_openAt {s : State} {tag : Tag} {front back : List Req} {q : Req} (h : OpenAt s tag front q back) :
    haltingIn tag s.table = front ++ { q with state := .halting } :: back := by
  obtain ⟨htable, rfl, hother⟩ := h
  rw [htable]
  exact map_keyed (key := Req.tag) hother fun q => { q with state := .halting }

theorem haltOutcome_eq (m : Halt) : m.outcome = haltOutcome m := by cases m <;> rfl

theorem haltOutcome_ne_done (m : Halt) : m.outcome ≠ .done := by cases m <;> decide

/-- The entries with the one of an identity no longer forgetting and without its RELEASE (R33, R36). -/
abbrev unforgotten (i : Ident) (es : List Entry) : List Entry :=
  withEntry i (fun e => { e with forgetting := none, pendingTx := e.pendingTx - 1 }) es

section
variable {s : State} {l : Line} {ahead behind : List Txn} {r : Txn}

/-- A record in flight takes the mark (R116). -/
theorem State.haltTxn_of_inFlight (hq : (s.line l).queue = ahead ++ r :: behind)
    (hne : ∀ x ∈ ahead ++ behind, x.tag ≠ r.tag) (h : r.inFlight = true) (m : Halt) :
    s.haltTxn l r.tag m = ({ s with table := haltingIn r.tag s.table } : State).setLine l { s.line l with
      queue := ahead ++ { r with halt := some (r.halt.getD m) } :: behind } := by
  have hfind := find?_keyed (key := Txn.tag) hne
  have hmap := map_keyed (key := Txn.tag) hne fun x => { x with halt := some (x.halt.getD m) }
  simp only [State.haltTxn, hq, hfind]
  rw [if_pos h, hmap]
  cases l <;> rfl

/-- A record queued or between attempts leaves the queue and closes (R116). -/
theorem State.haltTxn_of_waiting (hq : (s.line l).queue = ahead ++ r :: behind)
    (hne : ∀ x ∈ ahead ++ behind, x.tag ≠ r.tag) (h : r.inFlight = false) (hw : r.work ≠ .release) (m : Halt) :
    s.haltTxn l r.tag m = (({ s with roster := lessPending r.target s.roster } : State).setLine l { s.line l with
      queue := ahead ++ behind }).closeAll [report r.tag (.closed m.outcome (unfinished r))] := by
  have hfind := find?_keyed (key := Txn.tag) hne
  have hfilter := filter_keyed (key := Txn.tag) hne
  have hclosed : (closedTxn m.outcome r).toList = [report r.tag (.closed m.outcome (unfinished r))] := by
    rw [closedTxn, if_neg hw]
    rfl
  simp only [State.haltTxn, hq, hfind, h, Bool.false_eq_true, if_false]
  rw [hfilter, State.closeTxn_eq_closeAll (haltOutcome_ne_done m), hclosed]
  cases l <;> rfl

/-- A RELEASE without a grant leaves the queue and its FORGET closes (R33, R120). -/
theorem State.haltForget_of_queued (hq : (s.line l).queue = ahead ++ r :: behind)
    (hne : ∀ x ∈ ahead ++ behind, x.tag ≠ r.tag) (h : r.attempts = 0) (m : Halt) :
    s.haltForget l r.tag r.target m = (({ s with roster := unforgotten r.target s.roster } :
        State).setLine l { s.line l with queue := ahead ++ behind }).closeAll
          [report r.tag (.closed m.outcome (.forget r.target .none))] := by
  have hqueued : s.releaseQueued l r.tag = true := by
    rw [State.releaseQueued, hq, List.any_eq_true]
    exact ⟨r, by simp, by simp [h]⟩
  have hfilter := filter_keyed (key := Txn.tag) hne
  simp only [State.haltForget, hqueued, if_true, hq]
  rw [hfilter]
  cases l <;> rfl

end

section
variable {s : State} {l : Line} {c : Census}

/-- A census that has its mark keeps it (R71). -/
theorem State.haltCensus_of_marked (hc : (s.line l).census = some c) (h : c.halt ≠ none) (m : Halt) :
    s.haltCensus l m = s := by
  simp only [State.haltCensus, hc, if_pos (Option.isSome_iff_ne_none.mpr h)]

/-- A census in a slot operation takes the mark (R71). -/
theorem State.haltCensus_of_slot (hc : (s.line l).census = some c) (h : c.halt = none)
    (hslot : (s.line l).slotInProgress = true) (m : Halt) :
    s.haltCensus l m = ({ s with table := haltingIn c.tag s.table } : State).setLine l { s.line l with
      census := some { c with halt := some m } } := by
  simp only [State.haltCensus, hc, h, hslot, Option.isSome_none, Bool.false_eq_true, if_false, if_true]
  cases l <;> simp only [State.modCensus, State.modLine_eq_setLine, hc] <;> rfl

/-- A census between slots closes (R72). -/
theorem State.haltCensus_of_between (hc : (s.line l).census = some c) (h : c.halt = none)
    (hslot : (s.line l).slotInProgress = false) (m : Halt) :
    s.haltCensus l m = (s.setLine l { s.line l with census := none }).closeAll [censusClosed c m.outcome] := by
  simp only [State.haltCensus, hc, h, hslot, Option.isSome_none, Bool.false_eq_true, if_false]
  rw [State.closeCensus_eq, hc]
  rfl

end

/-! ## The claims settled -/

section
variable {s : State} {l : Line}

theorem State.settle_haltTxn_of_inFlight {ahead behind : List Txn} {r : Txn} (hs : Settled s)
    (hq : (s.line l).queue = ahead ++ r :: behind) (hne : ∀ x ∈ ahead ++ behind, x.tag ≠ r.tag) (h : r.inFlight = true)
    (m : Halt) :
    (s.haltTxn l r.tag m).settle = ({ s with table := haltingIn r.tag s.table } : State).setLine l { s.line l with
      queue := ahead ++ { r with halt := some (r.halt.getD m) } :: behind } := by
  rw [State.haltTxn_of_inFlight hq hne h, State.settle_setLine_of_bound hs (.with_table s _) (.queue _ _)]
  congr 1
  have hqueue : ahead ++ { r with halt := some (r.halt.getD m) } :: behind ≠ [] :=
    List.append_ne_nil_of_right_ne_nil _ (List.cons_ne_nil _ _)
  simp only [countsLeft, passedWith, if_neg hqueue, passedC_of_waitLaw (waitLaw_of_settled hs l)]

theorem State.settle_haltTxn_of_waiting {ahead behind : List Txn} {r : Txn} (hs : Settled s)
    (hq : (s.line l).queue = ahead ++ r :: behind) (hne : ∀ x ∈ ahead ++ behind, x.tag ≠ r.tag) (h : r.inFlight = false)
    (hw : r.work ≠ .release) (m : Halt) :
    (s.haltTxn l r.tag m).settle = (({ s with roster := lessPending r.target s.roster } : State).setLine l { s.line l with
      queue := ahead ++ behind, passedT := passedWith (s.line l) (ahead ++ behind) }).closeAll
        [report r.tag (.closed m.outcome (unfinished r))] := by
  rw [State.haltTxn_of_waiting hq hne h hw, State.settle_closeAll, State.settle_setLine_of_bound hs
    (.lessPending s _) (.queue _ _)]
  simp only [countsLeft, passedC_of_waitLaw (waitLaw_of_settled hs l)]

theorem State.settle_haltForget_of_queued {ahead behind : List Txn} {r : Txn} (hs : Settled s)
    (hq : (s.line l).queue = ahead ++ r :: behind) (hne : ∀ x ∈ ahead ++ behind, x.tag ≠ r.tag) (h : r.attempts = 0)
    (m : Halt) :
    (s.haltForget l r.tag r.target m).settle = (({ s with roster := unforgotten r.target s.roster } :
        State).setLine l { s.line l with
          queue := ahead ++ behind, passedT := passedWith (s.line l) (ahead ++ behind) }).closeAll
          [report r.tag (.closed m.outcome (.forget r.target .none))] := by
  rw [State.haltForget_of_queued hq hne h, State.settle_closeAll, State.settle_setLine_of_bound hs
    (.withEntry s _ (f := fun e => { e with forgetting := none, pendingTx := e.pendingTx - 1 }) fun _ => ⟨rfl, rfl, rfl⟩)
    (.queue _ _)]
  simp only [countsLeft, passedC_of_waitLaw (waitLaw_of_settled hs l)]

variable {c : Census}

theorem State.settle_haltCensus_of_slot (hs : Settled s) (hc : (s.line l).census = some c) (h : c.halt = none)
    (hslot : (s.line l).slotInProgress = true) (m : Halt) :
    (s.haltCensus l m).settle = ({ s with table := haltingIn c.tag s.table } : State).setLine l { s.line l with
      census := some { c with halt := some m } } := by
  rw [State.haltCensus_of_slot hc h hslot, State.settle_setLine_of_bound hs (.with_table s _) (.census _ _)]
  congr 1
  simp only [countsLeft, reduceCtorEq, if_false, passedT_of_waitLaw (waitLaw_of_settled hs l)]

theorem State.settle_haltCensus_of_between (hs : Settled s) (hc : (s.line l).census = some c) (h : c.halt = none)
    (hslot : (s.line l).slotInProgress = false) (m : Halt) :
    (s.haltCensus l m).settle = (s.setLine l { s.line l with census := none, passedC := 0 }).closeAll
      [censusClosed c m.outcome] := by
  rw [State.haltCensus_of_between hc h hslot, State.settle_closeAll, State.settle_setLine_of_bound hs (.refl s) (.census _ _)]
  simp only [countsLeft, if_true, passedT_of_waitLaw (waitLaw_of_settled hs l)]

end

/-! ## CANCEL -/

/-- A close claim of an open request, its place in the table known. -/
theorem State.setLine_closeAll_of_openAt {v : State} {tag : Tag} {front back : List Req} {q : Req}
    (h : OpenAt v tag front q back) (l : Line) (L : LineState) (o : CloseOutcome) (x : CloseResult) :
    (v.setLine l L).closeAll [report tag (.closed o x)] = ({ v with
      table := front ++ back
      reports := v.reports ++ [report tag (.closed o x)] ++ stopClosed v (front ++ back = [])
      stop := stopLeft v (front ++ back = []) } : State).setLine l L := by
  rw [← State.closeAll_setLine, ← State.close_eq_closeAll, State.close_of_openAt h]

/-- CANCEL of an open request that it can reach (R152). -/
theorem State.serveCancel_of_openAt {s : State} {front back : List Req} {q : Req} {target : Tag}
    (h : OpenAt s target front q back) (hc : s.cancellable q = true) (tag : Tag) :
    s.serveCancel tag target =
      (({ s with reports := s.reports ++ [report tag (.cancelReply target (some q.kind) .cancelling)] } :
        State).haltRequest .cancel q).settle := by
  obtain ⟨htable, hq, hother⟩ := h
  simp only [State.serveCancel, State.request_of_split htable hq fun r hr => hother r (List.mem_append_left _ hr), hc,
    if_true]
  rfl

end Sys2Proof.Machine

open Sys2Proof.Machine Sys2Proof.Statements

/-- Settles O18: in flight the record is marked, otherwise it leaves the queue and closes. -/
theorem cancelHaltsTransaction : Obligations.CancelHaltsTransaction := by
  intro s tag q r l ahead behind front back hs hsettled hn htable hq hl hkind hqueue hne hw reply emptied
  have hopen : OpenAt s r.tag front q back := hq ▸ openAt_of_nodup hn htable
  have hcan : s.cancellable q = true := by
    rcases hkind with h | h <;> simp [State.cancellable, h]
  have hhalt : ∀ u : State, u.haltRequest .cancel q = u.haltTxn l r.tag .cancel := fun u => by
    rcases hkind with h | h <;> simp only [State.haltRequest, h, hl, hq]
  have hexec := (Request.exec_cancel hs tag r.tag).trans (congrArg _ (State.serveCancel_of_openAt hopen hcan tag))
  rw [hhalt] at hexec
  let replied : State := { s with reports := s.reports ++ [reply] }
  have hreplied : (replied.line l).queue = ahead ++ r :: behind := (State.line_with_reports ..).symm ▸ hqueue
  refine ⟨fun hflight => hexec.trans ?_, fun hwaiting => hexec.trans ?_⟩
  · rw [State.settle_haltTxn_of_inFlight (s := replied) hsettled hreplied hne hflight, haltingIn_of_openAt
      (s := replied) hopen, State.line_with_reports]
  · rw [State.settle_haltTxn_of_waiting (s := replied) hsettled hreplied hne hwaiting hw,
      State.setLine_closeAll_of_openAt (v := { replied with roster := lessPending r.target s.roster }) hopen,
      State.line_with_reports, List.append_assoc s.reports]
    rfl

/-- Settles O19: the mark stays, is set, or the census closes. -/
theorem cancelHaltsCensus : Obligations.CancelHaltsCensus := by
  intro s tag q c l front back hs hsettled hn htable hq hl hkind hcensus reply
  have hopen : OpenAt s c.tag front q back := hq ▸ openAt_of_nodup hn htable
  have hcan : s.cancellable q = true := by simp [State.cancellable, hkind]
  have hexec := (Request.exec_cancel hs tag c.tag).trans (congrArg _ (State.serveCancel_of_openAt hopen hcan tag))
  have hhalt : ∀ u : State, u.haltRequest .cancel q = u.haltCensus l .cancel := fun u => by
    simp only [State.haltRequest, hkind, hl]
  rw [hhalt, hkind] at hexec
  let replied : State := { s with reports := s.reports ++ [reply] }
  have hreplied : (replied.line l).census = some c := (State.line_with_reports ..).symm ▸ hcensus
  refine ⟨fun hmarked => hexec.trans ?_, fun hhalt hslot => hexec.trans ?_, fun hhalt hslot => hexec.trans ?_⟩
  · rw [State.haltCensus_of_marked (s := replied) hreplied hmarked, State.settle_of_wait (s := replied) hsettled]
  · rw [State.settle_haltCensus_of_slot (s := replied) hsettled hreplied hhalt
      (by rw [State.line_with_reports]; exact hslot), haltingIn_of_openAt (s := replied) hopen, State.line_with_reports]
  · rw [State.settle_haltCensus_of_between (s := replied) hsettled hreplied hhalt
      (by rw [State.line_with_reports]; exact hslot), censusClosed,
      State.setLine_closeAll_of_openAt (v := replied) hopen, State.line_with_reports, List.append_assoc s.reports]
    rfl

/-- Settles O20: the RELEASE that has had no grant leaves, and its entry is restored. -/
theorem cancelRestoresForgottenEntry : Obligations.CancelRestoresForgottenEntry := by
  intro s tag q r l ahead behind front back hs hsettled hn htable hq hl hkind htarget hattempts hqueue hne
  have hopen : OpenAt s r.tag front q back := hq ▸ openAt_of_nodup hn htable
  have hcan : s.cancellable q = true := by
    simp only [State.cancellable, hkind, State.releaseQueued, hl, hqueue, hq, List.any_eq_true]
    exact ⟨r, by simp, by simp [hattempts]⟩
  have hexec := (Request.exec_cancel hs tag r.tag).trans (congrArg _ (State.serveCancel_of_openAt hopen hcan tag))
  have hhalt : ∀ u : State, u.haltRequest .cancel q = u.haltForget l r.tag r.target .cancel := fun u => by
    simp only [State.haltRequest, hkind, htarget, hl, hq]
  rw [hhalt, hkind] at hexec
  refine hexec.trans ?_
  let replied : State := { s with
    reports := s.reports ++ [report tag (.cancelReply r.tag (some .forget) .cancelling)] }
  have hreplied : (replied.line l).queue = ahead ++ r :: behind := (State.line_with_reports ..).symm ▸ hqueue
  rw [State.settle_haltForget_of_queued (s := replied) hsettled hreplied hne hattempts,
    State.setLine_closeAll_of_openAt (v := { replied with roster := unforgotten r.target s.roster }) hopen,
    State.line_with_reports, List.append_assoc s.reports]
  rfl
end

section
/-! STOP (R154, R155): its halt claims one after another in closed form, and what settles behind them. -/

namespace Sys2Proof.Machine

open Sys2Proof.Statements

/-! ## Both lines at once -/

/-- A state with both its lines replaced. -/
def State.withLines (s : State) (ls : Line → LineState) : State := { s with lineA := ls .A, lineB := ls .B }

@[simp] theorem State.line_withLines (s : State) (ls : Line → LineState) (l : Line) : (s.withLines ls).line l = ls l := by
  cases l <;> rfl

theorem State.withLines_setLine (s : State) (ls : Line → LineState) (l : Line) (L : LineState) :
    (s.withLines ls).setLine l L = s.withLines (Function.update ls l L) := by
  cases l <;> simp [State.withLines, State.setLine, Function.update]

theorem State.withLines_eq_setLine (s : State) (ls : Line → LineState) :
    s.withLines ls = (s.setLine .A (ls .A)).setLine .B (ls .B) := rfl

/-! ## What the halt claims of some tags leave -/

/-- A record that stays at a STOP: a READ or WRITE takes the mark unless it has one (R116). -/
abbrev stopMarked (r : Txn) : Txn := if r.work = .release then r else { r with halt := some (r.halt.getD .stop) }

/-- A record after the halt claims on some tags. -/
def haltedTxn (ts : List Tag) (r : Txn) : Option Txn :=
  if r.tag ∈ ts then if stopTakes r then none else some (stopMarked r) else some r

/-- The census of a line after the halt claims on some tags. -/
def haltedCensus (ts : List Tag) (L : LineState) : Option Census :=
  L.census.bind fun c =>
    if c.tag ∈ ts then
      if c.halt.isSome then some c else if L.slotInProgress then some { c with halt := some .stop } else none
    else some c

/-- A line after the halt claims on some tags. -/
def haltedLine (ts : List Tag) (L : LineState) : LineState :=
  { L with queue := L.queue.filterMap (haltedTxn ts), census := haltedCensus ts L }

/-- The records that the halt claims on some tags take out of the queues. -/
def haltedOut (ts : List Tag) (s : State) : List Txn :=
  ((s.line .A).queue ++ (s.line .B).queue).filter fun r => stopTakes r && decide (r.tag ∈ ts)

/-- The roster after some records have left the queues (R33, R36). -/
def haltedRoster (out : List Txn) (es : List Entry) : List Entry :=
  es.map fun e => { e with
    forgetting := if out.any (fun r => r.work == .release && r.target == e.identity) then none else e.forgetting
    pendingTx := e.pendingTx - out.countP (·.target == e.identity) }

/-- The table after the halt claims on some tags, before the closings. -/
def haltedTable (ts : List Tag) (s : State) (table : List Req) : List Req :=
  table.map fun q => if q.tag ∈ ts ∧ (stopCloses s q).isNone then stopMarks s q else q

/-- The state after the halt claims on some tags, before the closings; `t` is `s` with the STOP admitted. -/
def haltedBase (ts : List Tag) (s t : State) : State :=
  ({ t with table := haltedTable ts s s.table, roster := haltedRoster (haltedOut ts s) s.roster } : State).withLines
    fun l => haltedLine ts (s.line l)

/-! ## One tag more -/

theorem mem_append_singleton_of_ne {ts : List Tag} {x t : Tag} (h : x ≠ t) : x ∈ ts ++ [t] ↔ x ∈ ts := by simp [h]

theorem haltedTxn_of_ne {ts : List Tag} {t : Tag} {r : Txn} (h : r.tag ≠ t) :
    haltedTxn (ts ++ [t]) r = haltedTxn ts r := by
  simp only [haltedTxn, mem_append_singleton_of_ne h]

theorem haltedCensus_of_ne {ts : List Tag} {t : Tag} {L : LineState} (h : ∀ c ∈ L.census, c.tag ≠ t) :
    haltedCensus (ts ++ [t]) L = haltedCensus ts L := by
  unfold haltedCensus
  cases hc : L.census with
  | none => rfl
  | some c =>
    simp only [Option.bind_some]
    exact if_congr (mem_append_singleton_of_ne (h c hc)) rfl rfl

theorem filterMap_haltedTxn_of_ne {ts : List Tag} {t : Tag} {rs : List Txn} (h : ∀ r ∈ rs, r.tag ≠ t) :
    rs.filterMap (haltedTxn (ts ++ [t])) = rs.filterMap (haltedTxn ts) :=
  List.filterMap_congr fun r hr => haltedTxn_of_ne (h r hr)

/-- A line without work of the tag is not changed. -/
theorem haltedLine_of_absent {ts : List Tag} {t : Tag} {L : LineState} (hq : ∀ r ∈ L.queue, r.tag ≠ t)
    (hc : ∀ c ∈ L.census, c.tag ≠ t) : haltedLine (ts ++ [t]) L = haltedLine ts L := by
  simp only [haltedLine, filterMap_haltedTxn_of_ne hq, haltedCensus_of_ne hc]

theorem haltedOut_of_absent {ts : List Tag} {t : Tag} {s : State} (h : ∀ l, ∀ r ∈ (s.line l).queue, r.tag ≠ t) :
    haltedOut (ts ++ [t]) s = haltedOut ts s := by
  refine List.filter_congr fun r hr => ?_
  have hne : r.tag ≠ t := (List.mem_append.mp hr).elim (h .A r) (h .B r)
  simp only [mem_append_singleton_of_ne hne]

/-- The records that leave, with the one of the tag. -/
theorem haltedOut_of_queue {ts : List Tag} {s : State} {l : Line} {ahead behind : List Txn} {r : Txn}
    (hq : (s.line l).queue = ahead ++ r :: behind) (hne : ∀ x ∈ ahead ++ behind, x.tag ≠ r.tag)
    (hother : ∀ m, m ≠ l → ∀ x ∈ (s.line m).queue, x.tag ≠ r.tag) (hfresh : r.tag ∉ ts) :
    (haltedOut (ts ++ [r.tag]) s).Perm (if stopTakes r then r :: haltedOut ts s else haltedOut ts s) := by
  obtain ⟨pre, post, hall, hrest⟩ : ∃ pre post, (s.line .A).queue ++ (s.line .B).queue = pre ++ r :: post ∧
      ∀ x ∈ pre ++ post, x.tag ≠ r.tag := by
    cases l with
    | A =>
      refine ⟨ahead, behind ++ (s.line .B).queue, by rw [hq, List.append_assoc, List.cons_append], fun x hx => ?_⟩
      rw [← List.append_assoc] at hx
      exact (List.mem_append.mp hx).elim (hne x) (hother .B (by decide) x)
    | B =>
      refine ⟨(s.line .A).queue ++ ahead, behind, by rw [hq, List.append_assoc], fun x hx => ?_⟩
      rw [List.append_assoc] at hx
      exact (List.mem_append.mp hx).elim (hother .A (by decide) x) (hne x)
  have hold : ∀ xs : List Txn, (∀ x ∈ xs, x ∈ pre ++ post) →
      xs.filter (fun x => stopTakes x && decide (x.tag ∈ ts ++ [r.tag])) =
        xs.filter fun x => stopTakes x && decide (x.tag ∈ ts) := fun xs hxs =>
    List.filter_congr fun x hx => by simp only [mem_append_singleton_of_ne (hrest x (hxs x hx))]
  unfold haltedOut
  rw [hall, List.filter_append, List.filter_append, List.filter_cons, List.filter_cons, hold pre fun x =>
    List.mem_append_left _, hold post fun x => List.mem_append_right _]
  have hnew : decide (r.tag ∈ ts ++ [r.tag]) = true := by simp
  have hnot : decide (r.tag ∈ ts) = false := by simp [hfresh]
  simp only [hnew, hnot, Bool.and_true, Bool.and_false, Bool.false_eq_true, if_false]
  split
  · exact List.perm_middle
  · exact .refl _

theorem haltedRoster_perm {out out' : List Txn} (h : out.Perm out') (es : List Entry) :
    haltedRoster out es = haltedRoster out' es := by
  have hany : ∀ p : Txn → Bool, out.any p = out'.any p := fun p => by
    rw [Bool.eq_iff_iff, List.any_eq_true, List.any_eq_true]
    exact exists_congr fun x => and_congr_left fun _ => h.mem_iff
  unfold haltedRoster
  refine List.map_congr_left fun e _ => ?_
  rw [hany, h.countP_eq]

/-- One record more that leaves (R33, R36). -/
theorem haltedRoster_cons (r : Txn) (out : List Txn) (es : List Entry) :
    haltedRoster (r :: out) es = withEntry r.target (fun e => { e with
      forgetting := if r.work = .release then none else e.forgetting
      pendingTx := e.pendingTx - 1 }) (haltedRoster out es) := by
  unfold haltedRoster withEntry
  rw [List.map_map]
  refine List.map_congr_left fun e _ => ?_
  by_cases ht : r.target = e.identity
  · simp only [Function.comp, List.any_cons, List.countP_cons, if_true, ht]
    by_cases hw : r.work = .release
    · simp [hw, Nat.sub_sub]
    · have hw' : (r.work == TxnWork.release) = false := by simpa using hw
      simp [hw, hw', Nat.sub_sub]
  · have ht' : (r.target == e.identity) = false := by simpa using ht
    simp only [Function.comp, List.any_cons, ht', Bool.and_false, Bool.false_or, List.countP_cons, if_neg (Ne.symm ht),
      Bool.false_eq_true, if_false, Nat.add_zero]

/-! ## The table -/

/-- The one request of a tag. -/
theorem eq_of_tag {s : State} (hn : (s.table.map (·.tag)).Nodup) {x q : Req} (hx : x ∈ s.table) (hq : q ∈ s.table)
    (h : x.tag = q.tag) : x = q := List.inj_on_of_nodup_map hn hx hq h

theorem haltedTable_of_same {ts : List Tag} {s : State} {q : Req} (hn : (s.table.map (·.tag)).Nodup) (hq : q ∈ s.table)
    (h : (stopCloses s q).isNone = true → stopMarks s q = q) :
    haltedTable (ts ++ [q.tag]) s s.table = haltedTable ts s s.table := by
  refine List.map_congr_left fun x hx => ?_
  by_cases htag : x.tag = q.tag
  · obtain rfl := eq_of_tag hn hx hq htag
    split
    · rename_i hnew
      split
      · rfl
      · exact h hnew.2
    · rename_i hnew
      split
      · rename_i hold
        exact absurd ⟨List.mem_append_left _ hold.1, hold.2⟩ hnew
      · rfl
  · simp only [mem_append_singleton_of_ne htag]

theorem haltedTable_of_marked {ts : List Tag} {s : State} {q : Req} (hn : (s.table.map (·.tag)).Nodup) (hq : q ∈ s.table)
    (hfresh : q.tag ∉ ts) (hopen : (stopCloses s q).isNone = true) (hmark : stopMarks s q = { q with state := .halting }) :
    haltedTable (ts ++ [q.tag]) s s.table = haltingIn q.tag (haltedTable ts s s.table) := by
  unfold haltedTable haltingIn
  rw [List.map_map]
  refine List.map_congr_left fun x hx => ?_
  have hkeeps : ∀ y : Req, (stopMarks s y).tag = y.tag := fun y => by
    unfold stopMarks
    dsimp only
    split
    · split <;> rfl
    all_goals rfl
  by_cases htag : x.tag = q.tag
  · obtain rfl := eq_of_tag hn hx hq htag
    have hnew : x.tag ∈ ts ++ [x.tag] ∧ (stopCloses s x).isNone = true := ⟨by simp, hopen⟩
    have hold : ¬(x.tag ∈ ts ∧ (stopCloses s x).isNone = true) := fun h => hfresh h.1
    simp only [Function.comp, if_pos hnew, if_neg hold, if_true, hmark]
  · have hother : (if x.tag ∈ ts ∧ (stopCloses s x).isNone = true then stopMarks s x else x).tag ≠ q.tag := by
      split
      · rwa [hkeeps]
      · exact htag
    simp only [Function.comp, mem_append_singleton_of_ne htag, if_neg hother]

/-- Marking requests and closing others do not meet. -/
theorem State.closeAll_haltingIn (s : State) (rs : List Report) (t : Tag) :
    ({ s.closeAll rs with table := haltingIn t (s.closeAll rs).table } : State) =
      ({ s with table := haltingIn t s.table } : State).closeAll rs := by
  induction rs generalizing s with
  | nil => rfl
  | cons r rs ih =>
    have hone : ({ s.closeReport r with table := haltingIn t (s.closeReport r).table } : State) =
        ({ s with table := haltingIn t s.table } : State).closeReport r := by
      have hkeeps : ∀ q : Req, (if q.tag = t then { q with state := .halting } else q : Req).tag = q.tag := fun q => by
        split <;> rfl
      have hany : (haltingIn t s.table).any (·.tag == r.tag) = s.table.any (·.tag == r.tag) := by
        rw [List.any_map]
        exact congrArg (List.any s.table) (funext fun q => by rw [Function.comp, hkeeps])
      have hfilter : (haltingIn t s.table).filter (·.tag != r.tag) = haltingIn t (s.table.filter (·.tag != r.tag)) := by
        rw [List.filter_map]
        exact congrArg (List.map _) (List.filter_congr fun q _ => by rw [Function.comp, hkeeps])
      have hempty : (haltingIn t (s.table.filter (·.tag != r.tag)) = []) = (s.table.filter (·.tag != r.tag) = []) :=
        propext List.map_eq_nil_iff
      unfold State.closeReport
      dsimp only
      rw [hany, hfilter]
      split
      · simp only [State.settleStop_eq_stopClosed, stopClosed, stopLeft, hempty]
      · rfl
    rw [State.closeAll_cons, State.closeAll_cons, ← hone, ih]

/-! ## One request after another -/

/-- The state after the halt claims on the first requests of the table. -/
def haltedState (s t : State) (done : List Req) : State :=
  (haltedBase (done.map (·.tag)) s t).closeAll (done.filterMap (stopCloses s))

section
variable {s t : State} {ts : List Tag} {l : Line}

theorem line_haltedBase (ts : List Tag) (s t : State) (l : Line) : (haltedBase ts s t).line l = haltedLine ts (s.line l) :=
  State.line_withLines ..

/-- One tag more, on one line. -/
theorem haltedBase_append {x : Tag} {tb : List Req} {es : List Entry} {L : LineState}
    (ht : haltedTable (ts ++ [x]) s s.table = tb) (he : haltedRoster (haltedOut (ts ++ [x]) s) s.roster = es)
    (hl : haltedLine (ts ++ [x]) (s.line l) = L)
    (ho : ∀ m, m ≠ l → haltedLine (ts ++ [x]) (s.line m) = haltedLine ts (s.line m)) :
    haltedBase (ts ++ [x]) s t = ({ haltedBase ts s t with table := tb, roster := es } : State).setLine l L := by
  have hlines : (fun m => haltedLine (ts ++ [x]) (s.line m)) = Function.update (fun m => haltedLine ts (s.line m)) l L := by
    funext m
    by_cases hm : m = l
    · subst hm
      rw [Function.update_self, hl]
    · rw [Function.update_of_ne hm, ho m hm]
  rw [haltedBase, hlines, ht, he, ← State.withLines_setLine]
  rfl

end

/-- The work of the lines is told by its tags. -/
structure WorkTold (s : State) : Prop where
  nodup : (s.table.map (·.tag)).Nodup
  requests : RequestLaw s
  work : ∀ l, WorkLaw s l

section
variable {s : State} (h : WorkTold s) {q : Req} (hq : q ∈ s.table)
include h hq

theorem WorkTold.census_of_tag {l : Line} {c : Census} (hc : (s.line l).census = some c) (ht : c.tag = q.tag) :
    q.kind = .census ∧ q.line = l := by
  obtain ⟨x, hx, hxt, hxk, hxl⟩ := (h.work l).1 c hc
  obtain rfl := eq_of_tag h.nodup hx hq (hxt.trans ht)
  exact ⟨hxk, hxl⟩

theorem WorkTold.record_of_tag {l : Line} {r : Txn} (hr : r ∈ (s.line l).queue) (ht : r.tag = q.tag) :
    q.kind = r.work.kind ∧ q.line = l ∧ q.target = some r.target := by
  obtain ⟨x, hx, hxt, hxk, hxl, hxi⟩ := (h.work l).2.1 r hr
  obtain rfl := eq_of_tag h.nodup hx hq (hxt.trans ht)
  exact ⟨hxk, hxl, hxi⟩

/-- A request without records has none of its tag in either queue. -/
theorem WorkTold.no_record (hk : ∀ w : TxnWork, q.kind ≠ w.kind) (l : Line) : ∀ r ∈ (s.line l).queue, r.tag ≠ q.tag :=
  fun r hr ht => hk r.work (h.record_of_tag hq hr ht).1

/-- A request that is not for a census has none of its tag. -/
theorem WorkTold.no_census (hk : q.kind ≠ .census) (l : Line) : ∀ c ∈ (s.line l).census, c.tag ≠ q.tag :=
  fun _ hc ht => hk (h.census_of_tag hq hc ht).1

/-- The record of a request stands once in the queue of its line, and in no other. -/
theorem WorkTold.record_split {r : Txn} (hr : r ∈ (s.line q.line).queue) (ht : r.tag = q.tag) :
    ∃ ahead behind, (s.line q.line).queue = ahead ++ r :: behind ∧ (∀ x ∈ ahead ++ behind, x.tag ≠ r.tag) ∧
      ∀ m, m ≠ q.line → ∀ x ∈ (s.line m).queue, x.tag ≠ r.tag := by
  obtain ⟨ahead, behind, hqueue⟩ := List.append_of_mem hr
  refine ⟨ahead, behind, hqueue, fun x hx hxt => ?_, fun m hm x hx hxt => ?_⟩
  · have hn := (h.work q.line).2.2.1
    rw [hqueue, List.map_append, List.map_cons, List.nodup_middle, List.nodup_cons, ← List.map_append] at hn
    exact hn.1 (List.mem_map.mpr ⟨x, hx, hxt⟩)
  · exact hm (h.record_of_tag hq hx (hxt.trans ht)).2.1.symm

end

section
variable {s t : State} (h : WorkTold s) {q : Req} (hq : q ∈ s.table) {ts : List Tag} (hfresh : q.tag ∉ ts)
  (rs : List Report)
include h hq hfresh

/-- The halt claim on a census (R71, R72). -/
theorem haltedBase_census (hk : q.kind = .census) :
    ((haltedBase ts s t).closeAll rs).haltRequest .stop q =
      (haltedBase (ts ++ [q.tag]) s t).closeAll (rs ++ (stopCloses s q).toList) := by
  obtain ⟨c, hc, hct⟩ : ∃ c, (s.line q.line).census = some c ∧ c.tag = q.tag := by
    have hholds := h.requests q hq
    simp only [State.holds, hk, Option.any_eq_true, beq_iff_eq] at hholds
    exact hholds
  have hhalt : ∀ u : State, u.haltRequest .stop q = u.haltCensus q.line .stop := fun u => by
    simp only [State.haltRequest, hk]
  have hrecords := h.no_record hq (by rw [hk]; intro w; cases w <;> exact fun hw => nomatch hw)
  have hothers : ∀ m, m ≠ q.line → haltedLine (ts ++ [q.tag]) (s.line m) = haltedLine ts (s.line m) := fun m hm =>
    haltedLine_of_absent (hrecords m) fun x hx hxt => hm (h.census_of_tag hq hx hxt).2.symm
  have hout : haltedRoster (haltedOut (ts ++ [q.tag]) s) s.roster = (haltedBase ts s t).roster := by
    rw [haltedOut_of_absent hrecords]
    rfl
  have hline : ((haltedBase ts s t).closeAll rs).line q.line = haltedLine ts (s.line q.line) := by
    rw [State.line_closeAll, line_haltedBase]
  have hcensus : (((haltedBase ts s t).closeAll rs).line q.line).census = some c := by
    rw [hline]
    simp only [haltedLine, haltedCensus, hc, Option.bind_some, if_neg (hct ▸ hfresh)]
  have hnew : haltedLine (ts ++ [q.tag]) (s.line q.line) = { haltedLine ts (s.line q.line) with
      census := haltedCensus (ts ++ [q.tag]) (s.line q.line) } := by
    simp only [haltedLine, filterMap_haltedTxn_of_ne (hrecords q.line)]
  have hmem : c.tag ∈ ts ++ [q.tag] := by simp [hct]
  rw [hhalt]
  cases hmark : c.halt with
  | some m =>
    have hnone : stopCloses s q = none := by simp [stopCloses, hk, hc, hmark]
    have hkeep : stopMarks s q = q := by simp [stopMarks, hk, hc, hmark]
    have hsame : haltedLine (ts ++ [q.tag]) (s.line q.line) = haltedLine ts (s.line q.line) := by
      rw [hnew, haltedCensus, hc, Option.bind_some, if_pos hmem, hmark]
      rw [hline] at hcensus
      rw [Option.isSome_some, if_pos rfl, ← hcensus]
    rw [State.haltCensus_of_marked hcensus (by rw [hmark]; exact Option.some_ne_none m), hnone, Option.toList_none,
      List.append_nil, haltedBase_append (haltedTable_of_same h.nodup hq fun _ => hkeep) hout hsame hothers]
    congr 1
    rw [← line_haltedBase ts s t]
    exact (State.setLine_line ..).symm
  | none =>
    cases hslot : (s.line q.line).slotInProgress with
    | true =>
      have hnone : stopCloses s q = none := by simp [stopCloses, hk, hc, hslot]
      have hset : stopMarks s q = { q with state := .halting } := by simp [stopMarks, hk, hc, hmark]
      have hinslot : (((haltedBase ts s t).closeAll rs).line q.line).slotInProgress = true := by rw [hline]; exact hslot
      have hnow : haltedLine (ts ++ [q.tag]) (s.line q.line) =
          { haltedLine ts (s.line q.line) with census := some { c with halt := some .stop } } := by
        rw [hnew, haltedCensus, hc, Option.bind_some, if_pos hmem, hmark, hslot]
        rfl
      have htable : haltedTable (ts ++ [q.tag]) s s.table = haltingIn c.tag (haltedTable ts s s.table) := by
        rw [hct]
        exact haltedTable_of_marked h.nodup hq hfresh (by rw [hnone]; rfl) hset
      rw [State.haltCensus_of_slot hcensus hmark hinslot, hline, State.closeAll_haltingIn, State.closeAll_setLine,
        hnone, Option.toList_none, List.append_nil, haltedBase_append htable hout hnow hothers]
      rfl
    | false =>
      have hsome : stopCloses s q = some (censusClosed c .stopped) := by
        simp [stopCloses, hk, hc, hmark, hslot, censusClosed, hct]
      have hbetween : (((haltedBase ts s t).closeAll rs).line q.line).slotInProgress = false := by rw [hline]; exact hslot
      have hnow : haltedLine (ts ++ [q.tag]) (s.line q.line) = { haltedLine ts (s.line q.line) with census := none } := by
        rw [hnew, haltedCensus, hc, Option.bind_some, if_pos hmem, hmark, hslot]
        rfl
      rw [State.haltCensus_of_between hcensus hmark hbetween, hline, State.closeAll_setLine, State.closeAll_closeAll,
        hsome, haltedBase_append (haltedTable_of_same h.nodup hq (by simp [hsome])) hout hnow hothers]
      rfl

/-- The queue of a line around the record of the request, before and after the claims on some tags. -/
theorem haltedLine_around {ahead behind : List Txn} {r : Txn} (hk : q.kind ≠ .census)
    (hqueue : (s.line q.line).queue = ahead ++ r :: behind) (hne : ∀ x ∈ ahead ++ behind, x.tag ≠ r.tag)
    (hr : r.tag = q.tag) :
    (haltedLine ts (s.line q.line)).queue = ahead.filterMap (haltedTxn ts) ++ r :: behind.filterMap (haltedTxn ts) ∧
      (∀ x ∈ ahead.filterMap (haltedTxn ts) ++ behind.filterMap (haltedTxn ts), x.tag ≠ r.tag) ∧
      (stopTakes r = true → haltedLine (ts ++ [q.tag]) (s.line q.line) = { haltedLine ts (s.line q.line) with
        queue := ahead.filterMap (haltedTxn ts) ++ behind.filterMap (haltedTxn ts) }) ∧
      (stopTakes r = false → haltedLine (ts ++ [q.tag]) (s.line q.line) = { haltedLine ts (s.line q.line) with
        queue := ahead.filterMap (haltedTxn ts) ++ stopMarked r :: behind.filterMap (haltedTxn ts) }) := by
  have hkept : haltedTxn ts r = some r := if_neg (hr ▸ hfresh)
  have hnow : haltedTxn (ts ++ [q.tag]) r = if stopTakes r then none else some (stopMarked r) := if_pos (by simp [hr])
  have htags : ∀ xs : List Txn, (∀ x ∈ xs, x.tag ≠ r.tag) → ∀ x ∈ xs.filterMap (haltedTxn ts), x.tag ≠ r.tag := by
    intro xs hxs x hx
    obtain ⟨y, hy, hyx⟩ := List.mem_filterMap.mp hx
    have hsame : x.tag = y.tag := by
      unfold haltedTxn at hyx
      split at hyx
      · split at hyx
        · exact nomatch hyx
        · rw [← Option.some.inj hyx, stopMarked]
          split <;> rfl
      · rw [← Option.some.inj hyx]
    rw [hsame]
    exact hxs y hy
  have hahead : ∀ y ∈ ahead, y.tag ≠ q.tag := fun y hy => hr ▸ hne y (List.mem_append_left _ hy)
  have hbehind : ∀ y ∈ behind, y.tag ≠ q.tag := fun y hy => hr ▸ hne y (List.mem_append_right _ hy)
  refine ⟨?_, fun x hx => ?_, fun htakes => ?_, fun htakes => ?_⟩
  · simp only [haltedLine, hqueue, List.filterMap_append, List.filterMap_cons, hkept]
  · exact (List.mem_append.mp hx).elim (htags ahead (fun y hy => hne y (List.mem_append_left _ hy)) x)
      (htags behind (fun y hy => hne y (List.mem_append_right _ hy)) x)
  · rw [htakes, if_pos rfl] at hnow
    simp only [haltedLine, hqueue, List.filterMap_append, List.filterMap_cons, hnow,
      filterMap_haltedTxn_of_ne hahead, filterMap_haltedTxn_of_ne hbehind, haltedCensus_of_ne (h.no_census hq hk q.line)]
  · rw [htakes, if_neg Bool.false_ne_true] at hnow
    simp only [haltedLine, hqueue, List.filterMap_append, List.filterMap_cons, hnow,
      filterMap_haltedTxn_of_ne hahead, filterMap_haltedTxn_of_ne hbehind, haltedCensus_of_ne (h.no_census hq hk q.line)]

omit hfresh in
/-- The lines but the request's. -/
theorem haltedLine_other {ts : List Tag} {r : Txn} (hk : q.kind ≠ .census) (hr : r.tag = q.tag)
    (hother : ∀ m, m ≠ q.line → ∀ x ∈ (s.line m).queue, x.tag ≠ r.tag) (m : Line) (hm : m ≠ q.line) :
    haltedLine (ts ++ [q.tag]) (s.line m) = haltedLine ts (s.line m) :=
  haltedLine_of_absent (hr ▸ hother m hm) (h.no_census hq hk m)

/-- The halt claim on a READ or WRITE (R116). -/
theorem haltedBase_transaction (hk : q.kind = .readNode ∨ q.kind = .writeNode) :
    ((haltedBase ts s t).closeAll rs).haltRequest .stop q =
      (haltedBase (ts ++ [q.tag]) s t).closeAll (rs ++ (stopCloses s q).toList) := by
  have hcensus : q.kind ≠ .census := by rcases hk with hk | hk <;> rw [hk] <;> decide
  obtain ⟨r, hmem, hr, hkind⟩ : ∃ r ∈ (s.line q.line).queue, r.tag = q.tag ∧ r.work.kind = q.kind := by
    have hholds := h.requests q hq
    rcases hk with hk | hk <;> simp only [State.holds, hk, List.any_eq_true, Bool.and_eq_true, beq_iff_eq] at hholds <;>
      obtain ⟨r, hr, ⟨ht, hw⟩, -⟩ := hholds <;> exact ⟨r, hr, ht, by rw [hw, hk]⟩
  have hw : r.work ≠ .release := fun hw => by
    rw [hw] at hkind
    rcases hk with hk | hk <;> rw [hk] at hkind <;> exact nomatch hkind
  obtain ⟨ahead, behind, hqueue, hne, hother⟩ := h.record_split hq hmem hr
  obtain ⟨hnow, hnowne, hleaves, hstays⟩ := haltedLine_around h hq hfresh hcensus hqueue hne hr
  have hhalt : ∀ u : State, u.haltRequest .stop q = u.haltTxn q.line r.tag .stop := fun u => by
    rcases hk with hk | hk <;> simp only [State.haltRequest, hk, hr]
  have hline : ((haltedBase ts s t).closeAll rs).line q.line = haltedLine ts (s.line q.line) := by
    rw [State.line_closeAll, line_haltedBase]
  have hthere := (congrArg LineState.queue hline).trans hnow
  have hothers := haltedLine_other h hq (ts := ts) hcensus hr hother
  have hfind : (s.line q.line).queue.find? (·.tag == q.tag) = some r := by
    rw [hqueue, ← hr]
    exact find?_keyed (key := Txn.tag) hne
  have hcloses : stopCloses s q = if r.inFlight then none else some (report q.tag (.closed .stopped (unfinished r))) := by
    rcases hk with hk | hk <;> simp only [stopCloses, hk, hfind, Option.bind_some]
  have hout := haltedOut_of_queue hqueue hne hother (hr.symm ▸ hfresh)
  rw [hhalt]
  cases hflight : r.inFlight with
  | true =>
    have htakes : stopTakes r = false := by simp [stopTakes, hw, hflight]
    have hmark : stopMarks s q = { q with state := .halting } := by rcases hk with hk | hk <;> simp [stopMarks, hk]
    have hmarked : stopMarked r = { r with halt := some (r.halt.getD .stop) } := if_neg hw
    rw [hflight, if_pos rfl] at hcloses
    rw [htakes] at hout
    have htable : haltedTable (ts ++ [q.tag]) s s.table = haltingIn r.tag (haltedTable ts s s.table) := by
      rw [hr]
      exact haltedTable_of_marked h.nodup hq hfresh (by rw [hcloses]; rfl) hmark
    have hroster : haltedRoster (haltedOut (ts ++ [q.tag]) s) s.roster = (haltedBase ts s t).roster := by
      rw [← hr, haltedRoster_perm hout]
      rfl
    rw [State.haltTxn_of_inFlight hthere hnowne hflight, hline, State.closeAll_haltingIn, State.closeAll_setLine,
      hcloses, Option.toList_none, List.append_nil, haltedBase_append htable hroster (hstays htakes) hothers, hmarked]
    rfl
  | false =>
    have htakes : stopTakes r = true := by simp [stopTakes, hw, hflight]
    rw [hflight] at hcloses
    rw [htakes] at hout
    have hroster : haltedRoster (haltedOut (ts ++ [q.tag]) s) s.roster = lessPending r.target (haltedBase ts s t).roster := by
      rw [← hr, haltedRoster_perm hout, if_pos rfl, haltedRoster_cons]
      simp only [hw, if_false]
      rfl
    rw [State.haltTxn_of_waiting hthere hnowne hflight hw, hline, State.closeAll_with_roster, State.closeAll_setLine,
      State.closeAll_closeAll, State.closeAll_roster, hcloses,
      haltedBase_append (haltedTable_of_same h.nodup hq (by simp [hcloses])) hroster (hleaves htakes) hothers, hr]
    rfl

/-- The halt claim on a FORGET (R120, R121). -/
theorem haltedBase_forget (hk : q.kind = .forget) :
    ((haltedBase ts s t).closeAll rs).haltRequest .stop q =
      (haltedBase (ts ++ [q.tag]) s t).closeAll (rs ++ (stopCloses s q).toList) := by
  have hcensus : q.kind ≠ .census := by rw [hk]; decide
  obtain ⟨r, hmem, hr, hw, htarget⟩ : ∃ r ∈ (s.line q.line).queue, r.tag = q.tag ∧ r.work = .release ∧
      q.target = some r.target := by
    have hholds := h.requests q hq
    simp only [State.holds, hk, List.any_eq_true, Bool.and_eq_true, beq_iff_eq] at hholds
    obtain ⟨r, hr, ⟨ht, hw⟩, hi⟩ := hholds
    refine ⟨r, hr, ht, ?_, hi⟩
    cases hwork : r.work with
    | release => rfl
    | read _ _ => rw [hwork] at hw; exact nomatch hw
    | write _ _ => rw [hwork] at hw; exact nomatch hw
  obtain ⟨ahead, behind, hqueue, hne, hother⟩ := h.record_split hq hmem hr
  obtain ⟨hnow, hnowne, hleaves, hstays⟩ := haltedLine_around h hq hfresh hcensus hqueue hne hr
  have hhalt : ∀ u : State, u.haltRequest .stop q = u.haltForget q.line r.tag r.target .stop := fun u => by
    simp only [State.haltRequest, hk, htarget, hr]
  have hline : ((haltedBase ts s t).closeAll rs).line q.line = haltedLine ts (s.line q.line) := by
    rw [State.line_closeAll, line_haltedBase]
  have hthere := (congrArg LineState.queue hline).trans hnow
  have hothers := haltedLine_other h hq (ts := ts) hcensus hr hother
  have hfind : (s.line q.line).queue.find? (·.tag == q.tag) = some r := by
    rw [hqueue, ← hr]
    exact find?_keyed (key := Txn.tag) hne
  have hcloses : stopCloses s q = if r.attempts = 0 then some (report q.tag (.closed .stopped (.forget r.target .none)))
      else none := by simp only [stopCloses, hk, hfind, Option.bind_some]
  have hkeep : stopMarks s q = q := by simp only [stopMarks, hk]
  have hout := haltedOut_of_queue hqueue hne hother (hr.symm ▸ hfresh)
  rw [hhalt]
  by_cases hattempts : r.attempts = 0
  · have htakes : stopTakes r = true := by simp [stopTakes, hw, hattempts]
    rw [if_pos hattempts] at hcloses
    rw [htakes] at hout
    have hroster : haltedRoster (haltedOut (ts ++ [q.tag]) s) s.roster = unforgotten r.target (haltedBase ts s t).roster := by
      rw [← hr, haltedRoster_perm hout, if_pos rfl, haltedRoster_cons]
      simp only [hw, if_true]
      rfl
    rw [State.haltForget_of_queued hthere hnowne hattempts, hline, State.closeAll_with_roster, State.closeAll_setLine,
      State.closeAll_closeAll, State.closeAll_roster, hcloses,
      haltedBase_append (haltedTable_of_same h.nodup hq (by simp [hcloses])) hroster (hleaves htakes) hothers, hr]
    rfl
  · have htakes : stopTakes r = false := by simp [stopTakes, hw, hattempts]
    rw [if_neg hattempts] at hcloses
    rw [htakes] at hout
    have hroster : haltedRoster (haltedOut (ts ++ [q.tag]) s) s.roster = (haltedBase ts s t).roster := by
      rw [← hr, haltedRoster_perm hout]
      rfl
    have hgranted : ((haltedBase ts s t).closeAll rs).releaseQueued q.line r.tag = false := by
      rw [State.releaseQueued, hthere, Bool.eq_false_iff]
      intro hany
      obtain ⟨x, hx, hxr⟩ := List.any_eq_true.mp hany
      simp only [Bool.and_eq_true, beq_iff_eq] at hxr
      obtain ⟨htag, hzero⟩ := hxr
      rcases List.mem_append.mp hx with hx | hx
      · exact hnowne x (List.mem_append_left _ hx) htag
      · rcases List.mem_cons.mp hx with rfl | hx
        · exact hattempts hzero
        · exact hnowne x (List.mem_append_right _ hx) htag
    have hsame : haltedLine (ts ++ [q.tag]) (s.line q.line) = (haltedBase ts s t).line q.line := by
      rw [hstays htakes, stopMarked, if_pos hw, ← hnow, line_haltedBase]
    rw [State.haltForget, hgranted, if_neg Bool.false_ne_true, hcloses, Option.toList_none, List.append_nil,
      haltedBase_append (haltedTable_of_same h.nodup hq fun _ => hkeep) hroster hsame hothers]
    congr 1
    exact (State.setLine_line ..).symm

omit hfresh in
/-- An open LINE_POWER receives no halt claim (R154). -/
theorem haltedBase_linePower (hk : q.kind = .linePower) :
    ((haltedBase ts s t).closeAll rs).haltRequest .stop q =
      (haltedBase (ts ++ [q.tag]) s t).closeAll (rs ++ (stopCloses s q).toList) := by
  have hrecords := h.no_record hq (by rw [hk]; intro w; cases w <;> exact fun hw => nomatch hw)
  have hlines : ∀ m, haltedLine (ts ++ [q.tag]) (s.line m) = haltedLine ts (s.line m) := fun m =>
    haltedLine_of_absent (hrecords m) (h.no_census hq (by rw [hk]; decide) m)
  have hcloses : stopCloses s q = none := by simp only [stopCloses, hk]
  have hroster : haltedRoster (haltedOut (ts ++ [q.tag]) s) s.roster = (haltedBase ts s t).roster := by
    rw [haltedOut_of_absent hrecords]
    rfl
  have hhalt : ∀ u : State, u.haltRequest .stop q = u := fun u => by simp only [State.haltRequest, hk]
  have hsame : haltedLine (ts ++ [q.tag]) (s.line q.line) = (haltedBase ts s t).line q.line := by
    rw [hlines, line_haltedBase]
  rw [hhalt, hcloses, Option.toList_none, List.append_nil, haltedBase_append (l := q.line)
    (haltedTable_of_same h.nodup hq fun _ => by simp only [stopMarks, hk]) hroster hsame fun m _ => hlines m]
  congr 1
  exact (State.setLine_line ..).symm

/-- One halt claim more. -/
theorem haltedBase_haltRequest :
    ((haltedBase ts s t).closeAll rs).haltRequest .stop q =
      (haltedBase (ts ++ [q.tag]) s t).closeAll (rs ++ (stopCloses s q).toList) := by
  cases hk : q.kind with
  | census => exact haltedBase_census h hq hfresh rs hk
  | readNode => exact haltedBase_transaction h hq hfresh rs (.inl hk)
  | writeNode => exact haltedBase_transaction h hq hfresh rs (.inr hk)
  | forget => exact haltedBase_forget h hq hfresh rs hk
  | linePower => exact haltedBase_linePower h hq rs hk
  | stop =>
    have hholds := h.requests q hq
    simp [State.holds, hk] at hholds

end

/-- All halt claims, in table order (R154). -/
theorem foldl_haltRequest {s t : State} (h : WorkTold s) {done rest : List Req} (htable : done ++ rest = s.table) :
    rest.foldl (fun u q => u.haltRequest .stop q) (haltedState s t done) = haltedState s t s.table := by
  induction rest generalizing done with
  | nil => rw [List.foldl_nil, ← htable, List.append_nil]
  | cons q rest ih =>
    have hq : q ∈ s.table := htable ▸ List.mem_append_right _ (List.mem_cons_self ..)
    have hfresh : q.tag ∉ done.map (·.tag) := fun hmem => by
      have hn := h.nodup
      rw [← htable, List.map_append, List.map_cons, List.nodup_middle, List.nodup_cons] at hn
      exact hn.1 (List.mem_append_left _ hmem)
    have hstep : (haltedState s t done).haltRequest .stop q = haltedState s t (done ++ [q]) := by
      rw [haltedState, haltedBase_haltRequest h hq hfresh, haltedState, List.map_append, List.filterMap_append]
      congr 2
    rw [List.foldl_cons, hstep]
    exact ih (by rw [List.append_assoc]; exact htable)

/-! ## When all claims are taken -/

section
variable {s t : State} (h : WorkTold s)

theorem stopCloses_tag {q : Req} {r : Report} (hr : stopCloses s q = some r) : r.tag = q.tag := by
  have hgiven : ∀ {p : Prop} [Decidable p] {x y : CloseResult},
      (if p then some (report q.tag (.closed .stopped x)) else none) = some r ∨
        (if p then none else some (report q.tag (.closed .stopped y))) = some r → r.tag = q.tag := by
    intro p _ x y hx
    by_cases hp : p
    · simp only [hp, if_true, Option.some.injEq, reduceCtorEq, or_false] at hx
      rw [← hx]
    · simp only [hp, if_false, Option.some.injEq, reduceCtorEq, false_or] at hx
      rw [← hx]
  cases hk : q.kind <;> simp only [stopCloses, hk, Option.bind_eq_some_iff, reduceCtorEq] at hr
  case census =>
    obtain ⟨c, -, hc⟩ := hr
    exact hgiven (y := .census c.totals) (.inl hc)
  case forget =>
    obtain ⟨x, -, hx⟩ := hr
    exact hgiven (y := .forget x.target .none) (.inl hx)
  all_goals
    obtain ⟨x, -, hx⟩ := hr
    exact hgiven (x := unfinished x) (.inr hx)

theorem stopMarks_tag (q : Req) : (stopMarks s q).tag = q.tag := by
  unfold stopMarks
  dsimp only
  split
  · split <;> rfl
  all_goals rfl

/-- The tags of the closings are those of the requests they close. -/
theorem mem_stopCloses_iff (hn : (s.table.map (·.tag)).Nodup) {q : Req} (hq : q ∈ s.table) :
    (s.table.filterMap (stopCloses s)).all (·.tag != q.tag) = (stopCloses s q).isNone := by
  rw [Bool.eq_iff_iff, List.all_eq_true, Option.isNone_iff_eq_none]
  constructor
  · intro hall
    cases hc : stopCloses s q with
    | none => rfl
    | some r =>
      have hne := hall r (List.mem_filterMap.mpr ⟨q, hq, hc⟩)
      simp [stopCloses_tag hc] at hne
  · intro hnone r hr
    obtain ⟨x, hx, hxr⟩ := List.mem_filterMap.mp hr
    refine bne_iff_ne.mpr fun heq => ?_
    obtain rfl := eq_of_tag hn hx hq ((stopCloses_tag hxr).symm.trans heq)
    rw [hnone] at hxr
    exact nomatch hxr

theorem haltedTable_all : haltedTable (s.table.map (·.tag)) s s.table =
    s.table.map fun q => if (stopCloses s q).isNone then stopMarks s q else q :=
  List.map_congr_left fun _ hq => if_congr (and_iff_right (List.mem_map_of_mem hq)) rfl rfl

theorem tableLess_haltedTable (hn : (s.table.map (·.tag)).Nodup) :
    tableLess (s.table.filterMap (stopCloses s)) (haltedTable (s.table.map (·.tag)) s s.table) =
      (s.table.filter fun q => (stopCloses s q).isNone).map (stopMarks s) := by
  rw [haltedTable_all, tableLess, List.filter_map]
  have hkeep : ∀ q ∈ s.table, ((fun q : Req => (s.table.filterMap (stopCloses s)).all (·.tag != q.tag)) ∘ fun q : Req =>
      if (stopCloses s q).isNone then stopMarks s q else q) q = (stopCloses s q).isNone := fun q hq => by
    have htag : (if (stopCloses s q).isNone then stopMarks s q else q).tag = q.tag := by
      split
      · exact stopMarks_tag q
      · rfl
    rw [Function.comp, htag, mem_stopCloses_iff hn hq]
  rw [List.filter_congr hkeep]
  exact List.map_congr_left fun q hq => if_pos (List.mem_filter.mp hq).2

theorem allOpen_stopCloses (hn : (s.table.map (·.tag)).Nodup) (ts : List Tag) :
    AllOpen (haltedBase ts s t) (s.table.filterMap (stopCloses s)) := by
  constructor
  · refine hn.sublist ?_
    rw [List.map_filterMap]
    have hsub : ∀ qs : List Req, (qs.filterMap fun q => (stopCloses s q).map (·.tag)).Sublist (qs.map (·.tag)) := fun qs => by
      induction qs with
      | nil => exact .slnil
      | cons q qs ih =>
        cases hc : stopCloses s q with
        | none => rw [List.filterMap_cons_none (by rw [hc]; rfl)]; exact ih.cons _
        | some r =>
          rw [List.filterMap_cons_some (by rw [hc]; rfl), List.map_cons]
          exact (stopCloses_tag hc).symm ▸ ih.cons_cons _
    exact hsub s.table
  · intro r hr
    obtain ⟨q, hq, hqr⟩ := List.mem_filterMap.mp hr
    refine ⟨_, List.mem_map_of_mem hq, ?_⟩
    rw [stopCloses_tag hqr]
    split
    · exact stopMarks_tag q
    · rfl

/-- Closings with the check of the table behind them (R155). -/
theorem State.settleStop_closeAll {u : State} {rs : List Report} (ho : AllOpen u rs) :
    (u.closeAll rs).settleStop = { u with
      table := tableLess rs u.table
      reports := u.reports ++ rs ++ stopClosed u (tableLess rs u.table = [])
      stop := stopLeft u (tableLess rs u.table = []) } := by
  rw [State.closeAll_eq_closes ho, State.settleStop_eq_stopClosed]
  cases rs with
  | nil => simp [State.closes, Emptied, tableLess_nil, stopClosed, stopLeft]
  | cons r rs =>
    have hiff : Emptied u (r :: rs) ↔ tableLess (r :: rs) u.table = [] := and_iff_right (List.cons_ne_nil r rs)
    by_cases hempty : tableLess (r :: rs) u.table = []
    · simp [State.closes, stopClosed, stopLeft, hempty, Emptied]
    · simp [State.closes, stopClosed, stopLeft, hempty, Emptied]

include h

theorem haltedLine_all (l : Line) : countsLeft (haltedLine (s.table.map (·.tag)) (s.line l)) = stopLine (s.line l) := by
  have hopenTxn : ∀ r ∈ (s.line l).queue, r.tag ∈ s.table.map (·.tag) := fun r hr => by
    obtain ⟨q, hq, hqr, -⟩ := (h.work l).2.1 r hr
    exact List.mem_map.mpr ⟨q, hq, hqr⟩
  have hopenCensus : ∀ c ∈ (s.line l).census, c.tag ∈ s.table.map (·.tag) := fun c hc => by
    obtain ⟨q, hq, hqc, -⟩ := (h.work l).1 c hc
    exact List.mem_map.mpr ⟨q, hq, hqc⟩
  have hqueue : ∀ rs : List Txn, (∀ r ∈ rs, r.tag ∈ s.table.map (·.tag)) →
      rs.filterMap (haltedTxn (s.table.map (·.tag))) = (rs.filter (!stopTakes ·)).map stopMarked := by
    intro rs hrs
    induction rs with
    | nil => rfl
    | cons r rs ih =>
      have hone := ih fun x hx => hrs x (List.mem_cons_of_mem r hx)
      rw [List.filterMap_cons, hone, haltedTxn, if_pos (hrs r (List.mem_cons_self ..)), List.filter_cons]
      cases stopTakes r <;> rfl
  have hcensus : haltedCensus (s.table.map (·.tag)) (s.line l) = (s.line l).census.bind fun c =>
      if c.halt.isSome then some c
      else if (s.line l).slotInProgress then some { c with halt := some .stop } else none := by
    unfold haltedCensus
    cases hc : (s.line l).census with
    | none => rfl
    | some c => exact if_pos (hopenCensus c hc)
  simp only [countsLeft, haltedLine, hqueue _ hopenTxn, hcensus, stopLine, passedWith]

theorem haltedRoster_all : haltedRoster (haltedOut (s.table.map (·.tag)) s) s.roster = stopRoster s := by
  have hopen : ∀ l, ∀ r ∈ (s.line l).queue, r.tag ∈ s.table.map (·.tag) := fun l r hr => by
    obtain ⟨q, hq, hqr, -⟩ := (h.work l).2.1 r hr
    exact List.mem_map.mpr ⟨q, hq, hqr⟩
  have hout : haltedOut (s.table.map (·.tag)) s = ((s.line .A).queue ++ (s.line .B).queue).filter stopTakes := by
    refine List.filter_congr fun r hr => ?_
    have hmem : r.tag ∈ s.table.map (·.tag) := (List.mem_append.mp hr).elim (hopen .A r) (hopen .B r)
    rw [decide_eq_true hmem, Bool.and_true]
  rw [hout]
  rfl

/-- What settles behind a STOP's claims. -/
theorem State.settle_halted (hs : Settled s) {u : State} (hclock : u.clock = s.clock) (hparams : u.params = s.params)
    (hroster : u.roster = stopRoster s) (hline : ∀ l, u.line l = haltedLine (s.table.map (·.tag)) (s.line l)) :
    u.settle = (u.setLine .A (stopLine (s.line .A))).setLine .B (stopLine (s.line .B)) := by
  have hbound : ∀ l n, ({ s with roster := u.roster } : State).memberBound l n = s.memberBound l n := fun l n => by
    refine memberBound_map (s := s) hroster (fun x => ?_) n
    exact ⟨rfl, rfl⟩
  have hlines : ∀ l, lineSettled u l = stopLine (s.line l) := fun l => by
    have hw := waitLaw_of_settled hs l
    rw [lineSettled_of_ends hw hclock hparams (by rw [hline]; exact .of_op rfl ⟨rfl, rfl, rfl⟩ rfl), hline, haltedLine_all h]
    exact cycleAfter_of_settled hw (hbound l) rfl rfl
  exact State.settle_of_lines (otherLine_ne .A) (hlines .A) (hlines .B)

end

/-- A state with a STOP admitted and no claim taken yet (R154). -/
def State.stopTaken (s : State) (tag : Tag) : State :=
  { s with
    reports := s.reports ++ [report tag (.taken .stop)]
    stop := some { tag := tag, openCount := s.table.length } }

theorem State.admitStop_eq (s : State) (tag : Tag) :
    s.admitStop tag = (s.table.foldl (fun u q => u.haltRequest .stop q) (s.stopTaken tag)).settleStop.settle := rfl

theorem State.exec_stop {s : State} {tag : Tag} (hs : TakesNow s) (hzero : tag ≠ 0) (hfree : ∀ r ∈ s.table, r.tag ≠ tag)
    (hstop : s.stop = none) : exec (.stop tag []) s = .next (s.admitStop tag) := by
  have hadmit : s.admissionRefusal tag .stop = none := by
    rw [State.admissionRefusal_of_free .stop hzero hfree (by simp [hstop]), hstop]
    simp
  refine (Request.exec_takes hs (r := .stop) (by rfl) tag).trans ?_
  simp only [State.serve, State.serveStop, hadmit]

/-- No claim taken yet. -/
theorem haltedLine_nil (L : LineState) : haltedLine [] L = L := by
  have hqueue : L.queue.filterMap (haltedTxn []) = L.queue :=
    (List.filterMap_congr fun r _ => if_neg List.not_mem_nil).trans List.filterMap_some
  have hcensus : haltedCensus [] L = L.census := by
    unfold haltedCensus
    cases L.census <;> rfl
  rw [haltedLine, hqueue, hcensus]

theorem haltedState_nil (s : State) (tag : Tag) : haltedState s (s.stopTaken tag) [] = s.stopTaken tag := by
  have hout : haltedOut [] s = [] := List.filter_eq_nil_iff.mpr fun r _ => by simp
  have hroster : haltedRoster (haltedOut [] s) s.roster = s.roster := by
    rw [hout]
    exact List.map_id' s.roster
  have htable : haltedTable [] s s.table = s.table :=
    (List.map_congr_left fun q _ => if_neg fun hmem => List.not_mem_nil hmem.1).trans (List.map_id' s.table)
  have hlines : (fun l => haltedLine [] (s.line l)) = s.line := funext fun l => haltedLine_nil (s.line l)
  rw [haltedState, List.map_nil, List.filterMap_nil, State.closeAll_nil, haltedBase, hroster, htable, hlines]
  rfl

/-- STOP over a table whose requests stand for the work of their lines. -/
theorem State.admitStop_of_workTold {s : State} (h : WorkTold s) (hs : Settled s) (tag : Tag) :
    let left := (s.table.filter fun q => (stopCloses s q).isNone).map (stopMarks s)
    s.admitStop tag = (({ s with
      reports := s.reports ++ report tag (.taken .stop) :: s.table.filterMap (stopCloses s) ++
        if left = [] then [report tag (.closed .done (.stop s.table.length))] else []
      stop := if left = [] then none else some { tag := tag, openCount := s.table.length }
      table := left
      roster := stopRoster s } : State).setLine .A (stopLine (s.line .A))).setLine .B (stopLine (s.line .B)) := by
  intro left
  have hleft := tableLess_haltedTable (s := s) h.nodup
  rw [State.admitStop_eq, ← haltedState_nil, foldl_haltRequest h (List.nil_append _), haltedState,
    State.settleStop_closeAll (allOpen_stopCloses h.nodup _)]
  refine Eq.trans (State.settle_halted h hs ?_ ?_ ?_ fun l => ?_) ?_
  · rfl
  · rfl
  · exact haltedRoster_all h
  · cases l <;> rfl
  have htable : tableLess (s.table.filterMap (stopCloses s))
      (haltedBase (s.table.map (·.tag)) s (s.stopTaken tag)).table = left := hleft
  rw [htable, ← haltedRoster_all h, List.append_cons s.reports]
  rfl

end Sys2Proof.Machine
open Sys2Proof.Machine Sys2Proof.Statements

/-- Settles O21: the claims taken one after another in table order leave what the claims on all tags leave. -/
theorem stopHaltsAndCloses : Obligations.StopHaltsAndCloses := by
  intro s tag hs hsettled hzero hfree hstop
  have hexec := State.exec_stop hs hzero hfree hstop
  rw [State.admitStop_eq] at hexec
  have hset : Settled (s.stopTaken tag) := hsettled
  refine ⟨fun hnil => hexec.trans ?_, fun hne hpower => hexec.trans ?_,
    fun q c l htable hkind hl htag hcensus hhalt hslot => hexec.trans ?_, fun hn hreq hwork => ?_⟩
  · rw [hnil, List.foldl_nil, State.settleStop_eq_stopClosed]
    refine congrArg _ (Eq.trans (State.settle_of_wait ?_) ?_)
    · exact hset
    · simp [State.stopTaken, stopClosed, stopLeft, hnil, hstop]
  · have hfold : ∀ qs : List Req, (∀ q ∈ qs, q.kind = .linePower) → ∀ u : State,
        qs.foldl (fun u q => u.haltRequest .stop q) u = u := by
      intro qs hqs u
      induction qs with
      | nil => rfl
      | cons q qs ih =>
        rw [List.foldl_cons, State.haltRequest, hqs q (List.mem_cons_self ..)]
        exact ih fun x hx => hqs x (List.mem_cons_of_mem q hx)
    rw [hfold _ hpower, State.settleStop_eq_stopClosed]
    refine congrArg _ (Eq.trans (State.settle_of_wait ?_) ?_)
    · exact hset
    · simp [State.stopTaken, stopClosed, stopLeft, hne]
  · rw [htable, List.foldl_cons, List.foldl_nil]
    have hclaim : (s.stopTaken tag).haltRequest .stop q = (s.stopTaken tag).haltCensus l .stop := by
      simp only [State.haltRequest, hkind, hl]
    have hopen : OpenAt (s.stopTaken tag) c.tag [] q [] := ⟨htable, htag, fun r hr => nomatch hr⟩
    have hline : (s.stopTaken tag).line l = s.line l := by cases l <;> rfl
    let closed : State := { s with
      reports := s.reports ++ [report tag (.taken .stop), report c.tag (.closed .stopped (.census c.totals)),
        report tag (.closed .done (.stop 1))]
      table := [], stop := none }
    have hclosed : ((s.stopTaken tag).haltCensus l .stop).settleStop =
        closed.setLine l { s.line l with census := none } := by
      rw [State.haltCensus_of_between (hline ▸ hcensus) hhalt (hline ▸ hslot), censusClosed,
        State.setLine_closeAll_of_openAt hopen, hline, State.settleStop_eq_stopClosed]
      cases l <;> simp [State.stopTaken, stopClosed, stopLeft, htable, State.setLine, closed, Halt.outcome]
    have hbeside : Beside s closed := ⟨rfl, rfl, fun m => by cases m <;> rfl, fun _ _ => rfl⟩
    rw [hclaim, hclosed, State.settle_setLine_of_bound hsettled hbeside (.census _ _), countsLeft, if_pos rfl,
      passedT_of_waitLaw (waitLaw_of_settled hsettled l)]
    simp only [closed, ← hstop]
  · have h : WorkTold s := ⟨hn, hreq, fun l => by cases l; exacts [hwork.1, hwork.2]⟩
    exact (State.exec_stop hs hzero hfree hstop).trans (congrArg _ (State.admitStop_of_workTold h hsettled tag))
end

section
/-! Events brought one after another in closed form (R164), and how they stand to the lines, the requests and the end of a
claim. -/

namespace Sys2Proof.Machine

open Sys2Proof.Statements

theorem brought_nil (tag : Tag) (s : State) : brought tag [] s = s := rfl

theorem State.pushEvent_eq_brought (s : State) (tag : Tag) (e : Event) : s.pushEvent tag e = brought tag [e] s := by
  rw [brought, brought, State.pushEvent, bump16_eq_saturating]
  rfl

theorem brought_cons (tag : Tag) (e : Event) (es : List Event) (s : State) :
    brought tag (e :: es) s = brought tag es (s.pushEvent tag e) := by
  rw [State.pushEvent_eq_brought]
  rfl

theorem State.pushLineEvents_eq_brought (s : State) (es : List Event) : s.pushLineEvents es = brought 0 es s := by
  induction es generalizing s with
  | nil => rfl
  | cons e es ih =>
    rw [brought_cons, ← ih]
    rfl

/-- Events look at the room alone: two states whose host's sides agree get the same reports. -/
theorem brought_congr {s u : State} (hr : u.reports = s.reports) (ht : u.table = s.table) (hs : u.stop = s.stop)
    (hd : u.dropped = s.dropped) (tag : Tag) (es : List Event) :
    brought tag es u = { u with reports := (brought tag es s).reports, dropped := (brought tag es s).dropped } := by
  induction es generalizing s u with
  | nil => rw [brought_nil, brought_nil, ← hr, ← hd]
  | cons e es ih =>
    have hroom : u.room = s.room := by simp only [State.room, State.reserved, hr, ht, hs]
    have hpush : u.pushEvent tag e = { u with
        reports := (s.pushEvent tag e).reports, dropped := (s.pushEvent tag e).dropped } := by
      rw [State.pushEvent, State.pushEvent, hroom]
      split
      · simp only [State.push, hr, hd]
      · simp only [← hr, hd]
    obtain ⟨_, _, hsame, -, -⟩ := s.pushEvent_eq tag e
    rw [brought_cons, brought_cons, ih (s := s.pushEvent tag e) (u := u.pushEvent tag e)]
    · rw [hpush]
    · rw [hpush]
    · rw [hpush, hsame]; exact ht
    · rw [hpush, hsame]; exact hs
    · rw [hpush]

/-- Events change the report queue and the dropped count alone. -/
theorem brought_eq (tag : Tag) (es : List Event) (s : State) :
    brought tag es s = { s with reports := (brought tag es s).reports, dropped := (brought tag es s).dropped } :=
  brought_congr rfl rfl rfl rfl tag es

section
variable (tag : Tag) (es : List Event) (s : State) (l : Line)

@[simp] theorem brought_params : (brought tag es s).params = s.params := by rw [brought_eq]
@[simp] theorem brought_clock : (brought tag es s).clock = s.clock := by rw [brought_eq]
@[simp] theorem brought_roster : (brought tag es s).roster = s.roster := by rw [brought_eq]
@[simp] theorem brought_table : (brought tag es s).table = s.table := by rw [brought_eq]
@[simp] theorem brought_stop : (brought tag es s).stop = s.stop := by rw [brought_eq]
@[simp] theorem line_brought : (brought tag es s).line l = s.line l := by rw [brought_eq]; cases l <;> rfl

theorem brought_setLine (L : LineState) : brought tag es (s.setLine l L) = (brought tag es s).setLine l L := by
  rw [brought_congr (s := s) (State.setLine_reports ..) (State.setLine_table ..) (State.setLine_stop ..)
    (State.setLine_dropped ..), brought_eq tag es s]
  cases l <;> rfl

/-- Events and settling do not meet. -/
theorem settle_brought : (brought tag es s).settle = brought tag es s.settle := by
  have hline : ∀ m, lineSettled (brought tag es s) m = lineSettled s m := fun m =>
    lineSettled_congr (brought_roster ..) (brought_clock ..) (brought_params ..) (line_brought ..)
  rw [State.settle_eq, State.settle_eq, hline, hline, brought_setLine, brought_setLine]

end

end Sys2Proof.Machine
end

section
/-! The end of a slot operation (R61, R66 to R69, R72, R75) in the shape of `slotOver`, and the windows that end a slot
without the roster. -/

namespace Sys2Proof.Machine

open Sys2Proof.Statements

theorem FindEvent.report_eq (v : FindEvent) (round slot : Nat) : v.report round slot = findReport v round slot := by
  cases v <;> rfl

/-- The slot's event as it is brought (R79). -/
theorem State.tell_eq (s : State) (c : Census) (event : Option (Nat → Nat → Event)) :
    s.tell c event = brought c.tag (event.map fun v => v c.roundNumber c.slotIndex).toList s := by
  cases event with
  | none => rfl
  | some v => exact s.pushEvent_eq_brought c.tag _

theorem Census.nextExponent_eq (c : Census) : c.nextExponent = exponentAfter c := rfl

/-- The summary of a round with the next exponent brought into the limits (R67). -/
theorem Census.summary_eq (c : Census) (p : Params) :
    c.summary p = .roundSummary c.roundNumber c.exponent c.emptySlots c.singleSlots c.collidedSlots c.spoiledSlots
      c.boundNodes (if exponentAfter c < p.expMin then p.expMin
        else if p.expMax < exponentAfter c then p.expMax else exponentAfter c) := rfl

section
variable {t : State} {l : Line} (d : Census) (hoff : (t.line l).offOpen = false)
include hoff

/-- The census goes on, the line is free. -/
theorem endOp_of_census (x : Option Census) :
    (t.setLine l { t.line l with census := x }).endOp l = t.setLine l { t.line l with op := none, census := x } := by
  rw [State.endOp_of_no_off (by rw [State.line_setLine]; exact hoff), State.line_setLine, State.setLine_setLine]

/-- The census closes, the line is free (R74, R75). -/
theorem endOp_closeCensus {front back : List Req} {q : Req} (hopen : OpenAt t d.tag front q back) (o : CloseOutcome) :
    ((t.setLine l { t.line l with census := some d }).closeCensus l o).endOp l =
      censusCloses t l d o (front ++ back) := by
  have hclosed : (t.setLine l { t.line l with census := some d }).closeCensus l o = ({ t with
      table := front ++ back
      reports := t.reports ++ [report d.tag (.closed o (.census d.totals))] ++ stopClosed t (front ++ back = [])
      stop := stopLeft t (front ++ back = []) } : State).setLine l { t.line l with census := none } := by
    rw [State.closeCensus_eq, State.line_setLine, State.setLine_setLine, Option.map_some, Option.toList_some, censusClosed,
      State.setLine_closeAll_of_openAt hopen]
  rw [hclosed, State.endOp_of_no_off (by rw [State.line_setLine]; exact hoff), State.line_setLine, State.setLine_setLine]

end

/-- A slot ends with its event and the context that counts it. -/
theorem State.slotEnd_setLine (u : State) (l : Line) (c : Census) (event : Option (Nat → Nat → Event)) :
    (u.setLine l { u.line l with census := some c }).slotEnd l event =
      ((brought c.tag (event.map fun v => v c.roundNumber c.slotIndex).toList u).setLine l
        { u.line l with census := some c }).passSlot l (slotCounted c) := by
  have hcensus : ((u.setLine l { u.line l with census := some c }).line l).census = some c := by rw [State.line_setLine]
  rw [State.slotEnd_of_census hcensus, State.tell_eq, brought_setLine]

/-- The end of a slot that is not the last of its round and that nothing halts (R61). -/
theorem State.finishSlot_of_goesOn {u : State} {l : Line} {c : Census} (hmid : c.slotIndex + 1 < 2 ^ c.exponent)
    (hhalt : c.halt = none) (hoff : (u.line l).offOpen = false) (event : Option (Nat → Nat → Event)) :
    (u.setLine l { u.line l with census := some c }).finishSlot l event =
      brought c.tag (event.map fun v => v c.roundNumber c.slotIndex).toList
        (u.setLine l { u.line l with op := none, census := some (slotCounted c) }) := by
  rw [State.finishSlot, State.slotEnd_setLine, State.passSlot, State.modLine_eq_setLine, State.line_setLine,
    State.setLine_setLine, if_neg (Nat.not_le.mpr hmid), brought_setLine]
  simp only [hhalt]
  rw [← line_brought c.tag (event.map fun v => v c.roundNumber c.slotIndex).toList u l]
  exact endOp_of_census (by rw [line_brought]; exact hoff) _

/-- The end of a slot, wherever it stands in its round: `u` is the state with what the slot did, `c` the context with
that slot's counters. -/
theorem State.finishSlot_eq_slotOver {u : State} {l : Line} {c : Census} {front back : List Req} {q : Req}
    (hoff : (u.line l).offOpen = false) (hopen : OpenAt u c.tag front q back) (event : Option (Nat → Nat → Event)) :
    (u.setLine l { u.line l with census := some c }).finishSlot l event =
      slotOver u l c (event.map fun v => v c.roundNumber c.slotIndex) (front ++ back) := by
  let told := brought c.tag (event.map fun v => v c.roundNumber c.slotIndex).toList u
  have htold : told.line l = u.line l := line_brought ..
  have hopen' : OpenAt told c.tag front q back := by
    obtain ⟨htable, hrest⟩ := hopen
    exact ⟨(brought_table ..).trans htable, hrest⟩
  have hoff' : (told.line l).offOpen = false := by rw [htold]; exact hoff
  let summed := brought c.tag [(slotCounted c).summary u.params] told
  have hsummed : summed.line l = u.line l := (line_brought ..).trans htold
  have hopenSummed : OpenAt summed c.tag front q back := by
    obtain ⟨htable, hrest⟩ := hopen'
    exact ⟨(brought_table ..).trans htable, hrest⟩
  have hoffSummed : (summed.line l).offOpen = false := by rw [hsummed]; exact hoff
  rw [State.finishSlot, State.slotEnd_setLine, State.passSlot, State.modLine_eq_setLine, State.line_setLine,
    State.setLine_setLine, slotOver]
  by_cases hmid : c.slotIndex + 1 < 2 ^ c.exponent
  · rw [if_neg (Nat.not_le.mpr hmid), if_pos hmid]
    cases hm : c.halt with
    | some m =>
      simp only [haltOutcome_eq, ← htold]
      exact endOp_closeCensus (slotCounted c) hoff' hopen' _
    | none =>
      simp only [← htold]
      exact endOp_of_census hoff' _
  · rw [if_pos (Nat.not_lt.mp hmid), if_neg hmid]
    have hround : (told.setLine l { u.line l with census := some (slotCounted c) }).pushEvent (slotCounted c).tag
        ((slotCounted c).summary (told.setLine l { u.line l with census := some (slotCounted c) }).params) =
        summed.setLine l { summed.line l with census := some (slotCounted c) } := by
      rw [State.pushEvent_eq_brought, brought_setLine, State.setLine_params, brought_params, hsummed]
    rw [State.roundEnd, hround]
    have hquiet : (slotCounted c).quiet = true ↔ c.singleSlots = 0 ∧ c.collidedSlots = 0 ∧ c.spoiledSlots = 0 := by
      simp only [Census.quiet, Bool.and_eq_true, beq_iff_eq, and_assoc]
    cases hm : c.halt with
    | some m =>
      simp only [haltOutcome_eq]
      exact endOp_closeCensus (slotCounted c) hoffSummed hopenSummed _
    | none =>
      simp only
      by_cases hq : c.singleSlots = 0 ∧ c.collidedSlots = 0 ∧ c.spoiledSlots = 0
      · rw [if_pos (hquiet.mpr hq), if_pos hq]
        exact endOp_closeCensus (slotCounted c) hoffSummed hopenSummed _
      · rw [if_neg (hquiet.not.mpr hq), if_neg hq]
        by_cases hb : c.budget ≤ c.totals.rounds
        · rw [if_pos hb, if_pos hb]
          exact endOp_closeCensus (slotCounted c) hoffSummed hopenSummed _
        · rw [if_neg hb, if_neg hb, State.modCensus, State.modLine_eq_setLine, State.line_setLine, State.setLine_setLine]
          exact (endOp_of_census hoffSummed _).trans (by rw [hsummed, ← hm]; rfl)

/-! ## The windows of a slot -/

theorem State.modCensus_eq {u : State} {l : Line} {c : Census} (h : (u.line l).census = some c) (f : Census → Census) :
    u.modCensus l f = u.setLine l { u.line l with census := some (f c) } := by
  rw [State.modCensus, State.modLine_eq_setLine, h]
  rfl

section
variable {s : State} {l : Line} {call : Call} (h : Heard)

theorem exec_slotWindow_of_open (hw : WindowOpen s l .slotOpening call) :
    exec (.slotWindow l h) s = .next (s.openingWindow l (call.classify h)) := by
  simp only [exec, execSlotWindow, LineState.window, hw, if_true]

theorem exec_claimWindow_of_open (hw : WindowOpen s l .slotClaim call) :
    exec (.claimWindow l h) s = .next (s.claimHeard l call.handle (call.classify h)).settle := by
  simp only [exec, execClaimWindow, LineState.window, hw, if_true]

theorem exec_bindOutcome_of_open {n : Nat} {i : Ident} {m : Nat} {v : FindEvent}
    (hw : WindowOpen s l (.slotBind n i m v) call) :
    exec (.bindOutcome l h) s = .next (s.bindHeard l n i m v call.bindAddress (call.classify h)) := by
  simp only [exec, execBindOutcome, LineState.window, hw, if_true]

theorem exec_hushWindow_of_open {i : Ident} {r : HushReason} {v : Option FindEvent} {matched : Bool}
    (hw : WindowOpen s l (.slotHush i r v matched) call) :
    exec (.hushWindow l h) s = .next (((s.countWindow l (call.classify h)).modCensus l fun c =>
      { c with totals := c.totals.hushed r }).finishSlot l (if matched then none else v.map FindEvent.report)) := by
  simp only [exec, execHushWindow, LineState.window, hw, if_true]

end

/-- A state with a window counted as classed (R135). -/
abbrev classed (s : State) (l : Line) (w : WindowClass) : State :=
  s.setLine l { s.line l with counters := classCounted w (s.line l).counters }

theorem slotHushed_eq (r : HushReason) (c : Census) : { c with totals := c.totals.hushed r } = slotHushed r c := by
  cases r <;> rfl

/-- A slot that ends with a window counted as classed and the context changed. -/
theorem State.modCensus_classed {s : State} {l : Line} {c : Census} (h : (s.line l).census = some c) (w : WindowClass)
    (f : Census → Census) :
    (s.countWindow l w).modCensus l f =
      (classed s l w).setLine l { (classed s l w).line l with census := some (f c) } := by
  rw [State.countWindow_eq, State.modCensus_eq (c := c) (by rw [State.line_setLine]; exact h)]

/-- A slot that changes the context and ends in the middle of its round (R61). -/
theorem State.finishSlot_modCensus {u : State} {l : Line} {c : Census} (h : SlotGoesOn u l c) {f : Census → Census}
    (hf : (f c).slotIndex = c.slotIndex ∧ (f c).exponent = c.exponent ∧ (f c).halt = c.halt)
    (event : Option (Nat → Nat → Event)) :
    (u.modCensus l f).finishSlot l event =
      brought (f c).tag (event.map fun v => v (f c).roundNumber (f c).slotIndex).toList (u.setLine l { u.line l with
        op := none, census := some (slotCounted (f c)) }) := by
  obtain ⟨hc, hmid, hhalt, hoff⟩ := h
  obtain ⟨hslot, hexp, hmark⟩ := hf
  rw [State.modCensus_eq hc, State.finishSlot_of_goesOn (by rw [hslot, hexp]; exact hmid) (hmark.trans hhalt) hoff]

/-- A slot that changes the context and ends anywhere in its round (R66, R67). -/
theorem State.finishSlot_modCensus_slotOver {u : State} {l : Line} {c : Census} {front back : List Req} {q : Req}
    (hc : (u.line l).census = some c) (hoff : (u.line l).offOpen = false) (hopen : OpenAt u c.tag front q back)
    {f : Census → Census} (hf : (f c).tag = c.tag) (event : Option (Nat → Nat → Event)) :
    (u.modCensus l f).finishSlot l event =
      slotOver u l (f c) (event.map fun v => v (f c).roundNumber (f c).slotIndex) (front ++ back) := by
  rw [State.modCensus_eq hc, State.finishSlot_eq_slotOver hoff (by rw [hf]; exact hopen)]

/-- A slot with its window counted as classed, in the middle of its round. -/
theorem State.finishSlot_classed {s : State} {l : Line} {c : Census} (h : SlotGoesOn s l c) (w : WindowClass)
    {f : Census → Census} (hf : (f c).slotIndex = c.slotIndex ∧ (f c).exponent = c.exponent ∧ (f c).halt = c.halt)
    (event : Option (Nat → Nat → Event)) :
    ((s.countWindow l w).modCensus l f).finishSlot l event =
      brought (f c).tag (event.map fun v => v (f c).roundNumber (f c).slotIndex).toList (s.setLine l { s.line l with
        op := none, counters := classCounted w (s.line l).counters, census := some (slotCounted (f c)) }) := by
  rw [State.countWindow_eq, State.finishSlot_modCensus (u := classed s l w) (c := c)
    (by rw [SlotGoesOn, State.line_setLine]; exact h) hf, State.line_setLine, State.setLine_setLine]

/-- A slot with its window counted as classed, anywhere in its round. -/
theorem State.finishSlot_classed_slotOver {s : State} {l : Line} {c : Census} {front back : List Req} {q : Req}
    (hc : (s.line l).census = some c) (hoff : (s.line l).offOpen = false) (hopen : OpenAt s c.tag front q back)
    (w : WindowClass) {f : Census → Census} (hf : (f c).tag = c.tag) (event : Option (Nat → Nat → Event)) :
    ((s.countWindow l w).modCensus l f).finishSlot l event =
      slotOver (classed s l w) l (f c) (event.map fun v => v (f c).roundNumber (f c).slotIndex) (front ++ back) := by
  obtain ⟨htable, hrest⟩ := hopen
  rw [State.countWindow_eq, State.finishSlot_modCensus_slotOver (u := classed s l w) (c := c)
    (by rw [State.line_setLine]; exact hc) (by rw [State.line_setLine]; exact hoff)
    ⟨(State.setLine_table ..).trans htable, hrest⟩ hf]

/-- The slot's event, unless a matching hush record stood (R66). -/
theorem hushEvent_map (matched : Bool) (v : Option FindEvent) (round slot : Nat) :
    ((if matched then none else v.map FindEvent.report).map fun f => f round slot) =
      if matched = true then none else v.map (findReport · round slot) := by
  cases matched
  · cases v with
    | none => rfl
    | some f => exact congrArg some (FindEvent.report_eq f round slot)
  · rfl

end Sys2Proof.Machine

open Sys2Proof.Machine Sys2Proof.Statements

/-- Settles O40: what is heard is classed by cases, and the opening window counts its slot. -/
theorem openingWindowClassesTheSlot : Obligations.OpeningWindowClassesTheSlot := by
  refine ⟨fun c a b => ?_, fun s l call h c hw => ⟨?_, ?_, fun k hc hk => ?_⟩⟩
  · refine ⟨rfl, rfl, ?_, fun ok late => ?_, fun late => ?_, ?_, fun x y => ?_⟩
    · cases hadmits : c.admits a <;> simp [Call.classify, Sys2Proof.Heard.alone, hadmits]
    all_goals simp [Call.classify]
  · intro hgoes hclass
    rw [exec_slotWindow_of_open h hw, hclass]
    simp only [State.openingWindow]
    rw [State.finishSlot_classed hgoes .silence ⟨rfl, rfl, rfl⟩]
    rfl
  · intro hgoes hclass
    rw [exec_slotWindow_of_open h hw, hclass]
    simp only [State.openingWindow]
    rw [State.finishSlot_classed hgoes .garbled ⟨rfl, rfl, rfl⟩]
    rfl
  · rw [exec_slotWindow_of_open h hw, hk]
    simp only [State.openingWindow]
    rw [State.modCensus_classed hc, State.beginOp, State.modLine_eq_setLine, State.line_setLine, State.setLine_setLine,
      State.line_setLine, State.setLine_setLine]

/-- Settles O44: the window ends the slot with the event it kept. -/
theorem hushEndsSlotWithOneEvent : Obligations.HushEndsSlotWithOneEvent := by
  intro s l i r v matched k t h c hw hgoes after
  have hexec : exec (.hushWindow l h) s = .next (brought c.tag
      (if matched = true then none else v.map (findReport · c.roundNumber c.slotIndex)).toList (s.setLine l after)) := by
    rw [exec_hushWindow_of_open h hw, State.finishSlot_classed hgoes _ ⟨rfl, rfl, rfl⟩, slotHushed_eq, hushEvent_map]
  refine ⟨fun hnone => hexec.trans ?_, fun f hm hv => hexec.trans ?_⟩
  · rcases hnone with rfl | rfl
    · rfl
    · cases matched <;> rfl
  · rw [hm, hv]
    rfl
end

section
/-! The CLAIM's window (R21 to R26, R62, R63, R65): the find, and the BIND or HUSH that it decides. -/

namespace Sys2Proof.Machine

open Sys2Proof.Statements

/-! ## Settling behind a find -/

/-- Two states of a line with the same work: they differ in addresses, counters and power alone. -/
structure LineState.SameWork (L M : LineState) : Prop where
  poll : M.poll = L.poll
  counts : M.passedT = L.passedT ∧ M.passedP = L.passedP ∧ M.passedC = L.passedC
  op : M.op = L.op
  queue : M.queue = L.queue
  census : M.census = L.census

theorem LineState.SameWork.refl (L : LineState) : L.SameWork L := ⟨rfl, ⟨rfl, rfl, rfl⟩, rfl, rfl, rfl⟩

/-- A cycle that had something left to do has it still when nobody leaves the line. -/
theorem cycleAfter_of_mono {s : State} {l : Line} (h : WaitLaw s l) {es : List Entry}
    (hb : ∀ n, s.memberBound l n = true → ({ s with roster := es } : State).memberBound l n = true) {L : LineState}
    (hp : L.poll = (s.line l).poll) (hop : L.pollInProgress = (s.line l).pollInProgress) : cycleAfter s l es L = L := by
  have hdone := h.2
  cases hpoll : L.poll with
  | none => simp only [cycleAfter, hpoll]
  | some c =>
    have hspoll : (s.line l).poll = some c := hp ▸ hpoll
    have hnot : ¬(c.running = true ∧ L.pollInProgress = false ∧ NoneLeft s l es c) := fun ⟨hrun, hprog, hnone⟩ => by
      refine Bool.eq_false_iff.mp hdone ((State.cycleDone_iff hspoll).mpr ⟨hrun, hop ▸ hprog, fun k hk => ?_⟩)
      exact Bool.eq_false_iff.mpr fun hbound => Bool.eq_false_iff.mp (hnone k hk) (hb k hbound)
    simp only [cycleAfter, hpoll, if_neg hnot]

/-- Nothing of its counts is left over where the queue and the census stand as they were. -/
theorem countsLeft_of_waitLaw {s : State} {l : Line} (h : WaitLaw s l) {M : LineState} (hq : M.queue = (s.line l).queue)
    (hc : M.census = none ↔ (s.line l).census = none) (ht : M.passedT = (s.line l).passedT)
    (hp : M.passedC = (s.line l).passedC) : countsLeft M = M := by
  have hT : passedWith M M.queue = M.passedT := by
    rw [passedWith, hq, ht]
    exact passedT_of_waitLaw h
  have hC : (if M.census = none then 0 else M.passedC) = M.passedC := by
    rw [hp, if_congr hc rfl rfl]
    exact passedC_of_waitLaw h
  rw [countsLeft, hT, hC]

/-- A claim whose work is on one line settles to that line, if nobody leaves the other. -/
theorem State.settle_setLine_of_work {s v : State} (hs : Settled s) (hclock : v.clock = s.clock)
    (hparams : v.params = s.params) {l : Line} {L : LineState} (k : (s.line l).EndsWork L)
    (hline : ∀ m, m ≠ l → (s.line m).SameWork (v.line m))
    (hb : ∀ m, m ≠ l → ∀ n, s.memberBound m n = true → v.memberBound m n = true) :
    (v.setLine l L).settle = v.setLine l (cycleAfter s l v.roster (countsLeft L)) := by
  have hne := otherLine_ne l
  have hthis : lineSettled (v.setLine l L) l = cycleAfter s l v.roster (countsLeft L) := by
    rw [lineSettled_of_ends (waitLaw_of_settled hs l) (by rw [State.setLine_clock, hclock]) (by rw [State.setLine_params, hparams])
      (by rwa [State.line_setLine]), State.line_setLine, State.setLine_roster]
  have hother : lineSettled (v.setLine l L) (otherLine l) = v.line (otherLine l) := by
    have hw := waitLaw_of_settled hs (otherLine l)
    have hsame := hline _ hne
    rw [lineSettled_of_ends hw (by rw [State.setLine_clock, hclock]) (by rw [State.setLine_params, hparams])
      (by rw [State.line_setLine_of_ne v hne L]; exact .of_op hsame.poll hsame.counts hsame.op),
      State.line_setLine_of_ne v hne L, State.setLine_roster,
      countsLeft_of_waitLaw hw hsame.queue (by rw [hsame.census]) hsame.counts.1 hsame.counts.2.2]
    exact cycleAfter_of_mono hw (fun n h => hb _ hne n h) hsame.poll (by
      rw [LineState.pollInProgress, hsame.op]
      rfl)
  rw [State.settle_of_lines hne hthis hother]
  cases l <;> rfl

/-- A claim that leaves nothing to settle. -/
theorem State.settle_setLine_of_same {s v : State} (hs : Settled s) (hclock : v.clock = s.clock)
    (hparams : v.params = s.params) {l : Line} {L : LineState} (k : (s.line l).EndsWork L)
    (hop : L.pollInProgress = (s.line l).pollInProgress) (hq : L.queue = (s.line l).queue)
    (hc : L.census = none ↔ (s.line l).census = none) (hline : ∀ m, m ≠ l → (s.line m).SameWork (v.line m))
    (hb : ∀ m n, s.memberBound m n = true → v.memberBound m n = true) :
    (v.setLine l L).settle = v.setLine l L := by
  have hw := waitLaw_of_settled hs l
  rw [State.settle_setLine_of_work hs hclock hparams k hline fun m _ => hb m,
    countsLeft_of_waitLaw hw hq hc k.counts.1 k.counts.2.2, cycleAfter_of_mono hw (fun n h => hb l n h) k.poll hop]

/-- Nobody leaves a line whose entries stay BOUND there under their serials. -/
theorem memberBound_mono {s t : State} {m : Line} {g : Entry → Entry} {more : List Entry}
    (hr : t.roster = s.roster.map g ++ more)
    (hg : ∀ x ∈ s.roster, (g x).serial = x.serial ∧ (x.boundOn m = true → (g x).boundOn m = true)) (n : Nat)
    (h : s.memberBound m n = true) : t.memberBound m n = true := by
  obtain ⟨x, hx, hxn⟩ := List.any_eq_true.mp h
  rw [Bool.and_eq_true, beq_iff_eq] at hxn
  obtain ⟨hserial, hbound⟩ := hg x hx
  refine List.any_eq_true.mpr ⟨g x, hr ▸ List.mem_append_left _ (List.mem_map_of_mem hx), ?_⟩
  rw [Bool.and_eq_true, beq_iff_eq, hserial]
  exact ⟨hxn.1, hbound hxn.2⟩

/-! ## The claim on a find -/

/-- What a find leaves before its BIND or HUSH goes out: the finding line with the new pool, perhaps another with an
address given back. -/
structure Found (s v : State) (l : Line) (L : LineState) : Prop where
  clock : v.clock = s.clock
  params : v.params = s.params
  this : (s.line l).SameWork L
  other : ∀ m, m ≠ l → (s.line m).SameWork (v.line m)
  bound : ∀ m n, s.memberBound m n = true → v.memberBound m n = true

section
variable {s v : State} {l : Line} {L : LineState} (hs : Settled s) (hslot : (s.line l).slotInProgress = true)
  (k : Found s v l L)
include hs hslot k

/-- The next call of the slot goes out. -/
theorem Found.settle {o : LineOp} (ho : o.isSlot = true) :
    (v.setLine l { L with op := some o }).settle = v.setLine l { L with op := some o } := by
  have hworks : ∀ p : LineOp, p.isSlot = true → p.isPoll = false := fun p hp => by
    revert hp
    cases hw : p.work <;> simp [LineOp.isSlot, LineOp.isPoll, hw]
  refine State.settle_setLine_of_same hs k.clock k.params (.of_slot k.this.poll k.this.counts hslot rfl ho) ?_
    k.this.queue (by rw [k.this.census]) k.other k.bound
  obtain ⟨p, hp, hps⟩ : ∃ p, (s.line l).op = some p ∧ p.isSlot = true := by
    simpa only [LineState.slotInProgress, Option.any_eq_true] using hslot
  rw [LineState.pollInProgress, LineState.pollInProgress, Option.any_some, hp, Option.any_some, hworks o ho, hworks p hps]

end

section
variable {s v : State} {l : Line} {i : Ident} {m : Nat} {x : Handle}

theorem validIdentity_iff : validIdentity i = true ↔ i ≠ 0 ∧ i ≠ BitVec.allOnes 64 := by
  simp [validIdentity]

/-- No usable identity (R62): the slot is spoiled. -/
abbrev Spoils (w : WindowClass) : Prop :=
  w = .silence ∨ w = .garbled ∨ ∃ i m, w = .valid (.identity i m) ∧ (i = 0 ∨ i = BitVec.allOnes 64)

theorem State.claimHeard_of_spoils {w : WindowClass} (h : Spoils w) :
    s.claimHeard l x w = ((s.countWindow l w).modCensus l fun c => { c with
      spoiledSlots := c.spoiledSlots + 1, totals := { c.totals with spoiled := c.totals.spoiled + 1 } }).finishSlot l none := by
  rcases h with rfl | rfl | ⟨i, m, rfl, hi⟩
  · rfl
  · rfl
  · have hinvalid : validIdentity i = false := by rcases hi with rfl | rfl <;> rfl
    simp only [State.claimHeard, hinvalid, Bool.false_eq_true, if_false]

/-- A usable identity whose find binds. -/
theorem State.claimHeard_of_bind {n : Nat} {a : Address} {lease : Nat} {e : FindEvent} (hi : validIdentity i = true)
    (hf : s.find l i m = (v, .bind n a lease e)) :
    s.claimHeard l x (.valid (.identity i m)) =
      v.setLine l { v.line l with op := some ⟨.slotBind n i m e, .bind x a lease, false⟩ } := by
  have hcount : s.countWindow l (.valid (.identity i m)) = s := by
    rw [State.countWindow_eq]
    exact State.setLine_line ..
  simp only [State.claimHeard, hcount, hi, if_true, hf]
  rfl

/-- A usable identity whose find hushes. -/
theorem State.claimHeard_of_hush {r : HushReason} {e : Option FindEvent} (hi : validIdentity i = true)
    (hf : s.find l i m = (v, .hush r e)) :
    s.claimHeard l x (.valid (.identity i m)) =
      v.setLine l { v.line l with op := some ⟨.slotHush i r e false, .hush x v.params.hushTime, false⟩ } := by
  have hcount : s.countWindow l (.valid (.identity i m)) = s := by
    rw [State.countWindow_eq]
    exact State.setLine_line ..
  simp only [State.claimHeard, hcount, hi, if_true, hf]
  rfl

end

/-! ## The find -/

/-- The address that an entry gives up when its node is found (R23, R24). -/
abbrev givenUp (e : Entry) : Option Address :=
  match e.standing with
  | .bound x _ => some x
  | .lost x => x
  | .unbound => none

/-- A line with the address of an entry given back to its pool, and out of quarantine if it was held (R50). -/
abbrev lineGivenUp (s : State) (e : Entry) : LineState :=
  { s.line e.line with
    pool := (s.line e.line).pool ++ (givenUp e).toList
    quarantine := (s.line e.line).quarantine.filter fun r => !decide (e.standing = .lost (some r.address)) }

/-- The entry of a found node with its new binding (R23, R24). -/
abbrev bindFound (s : State) (l : Line) (m : Nat) (a : Address) (x : Entry) : Entry :=
  { x with
    line := l, standing := .bound a s.params.nodeLease, misses := 0
    returns := if x.returns < 255 then x.returns + 1 else 255, memorySize := m, lastSeen := s.clock }

/-- The entry of a found node for which there is no address (R25). -/
abbrev unbindFound (s : State) (l : Line) (m : Nat) (x : Entry) : Entry :=
  { x with line := l, standing := .unbound, memorySize := m, lastSeen := s.clock }

/-- The event of a known node that binds (R23, R24). -/
def foundAgain (e : Entry) (l : Line) : Address → Nat → FindEvent :=
  if e.line = l then .nodeReturned e.identity l else .nodeMoved e.identity e.line l

section
variable {s u : State} {l : Line} {i : Ident} {m : Nat} {e : Entry}

theorem State.find_of_new {a : Address} {rest : List Address} (h : s.lookup i = none) (hlen : s.roster.length < 256)
    (hp : (s.line l).pool = a :: rest) :
    s.find l i m = (({ s with
      roster := s.roster ++ [newEntry s l i m (.bound a s.params.nodeLease)], nextSerial := s.nextSerial + 1
      hush := s.hush.filter (·.identity != i) } : State).setLine l { s.line l with pool := rest },
      .bind s.nextSerial a s.params.nodeLease (.nodeFound i l a m)) := by
  have hroom : s.roster.length < Config.rosterMax := hlen
  simp only [State.find, h, hroom, if_true, State.createEntry, hp]
  cases l <;> simp [State.dropHead, State.modLine, State.setLine, State.hushRemove, hushWithout, State.line] at hp ⊢ <;> simp [hp]

theorem State.find_of_new_no_address (h : s.lookup i = none) (hlen : s.roster.length < 256) (hp : (s.line l).pool = []) :
    s.find l i m = ({ s with
      roster := s.roster ++ [newEntry s l i m .unbound], nextSerial := s.nextSerial + 1 },
      .hush .noAddress (some (.noAddress i l))) := by
  have hroom : s.roster.length < Config.rosterMax := hlen
  simp only [State.find, h, hroom, if_true, State.createEntry, hp]

theorem State.find_of_full (h : s.lookup i = none) (hlen : 256 ≤ s.roster.length) :
    s.find l i m = (s, .hush .rosterFull (some (.rosterFull i l))) := by
  have hroom : ¬s.roster.length < Config.rosterMax := Nat.not_lt.mpr hlen
  simp only [State.find, h, hroom, if_false]

theorem State.find_of_clash {a : Address} {lease : Nat} (h : s.lookup i = some e) (hb : e.standing = .bound a lease)
    (hl : e.line ≠ l) : s.find l i m = (s, .hush .clash (some (.identityClash i l e.line a))) := by
  simp only [State.find, h, hb, hl, if_false]

theorem State.find_of_forgotten {a : Address} {lease : Nat} {tag : Tag} (h : s.lookup i = some e)
    (hb : e.standing = .bound a lease) (hl : e.line = l) (hf : e.forgetting = some tag) :
    s.find l i m = (s.forgottenFound e a tag, .hush .forgotten none) := by
  simp only [State.find, h, hb, hl, if_true, hf]

theorem lineGivenUp_of_none (h : e.standing = .unbound ∨ e.standing = .lost none) : lineGivenUp s e = s.line e.line := by
  unfold lineGivenUp givenUp
  rcases h with h | h <;> rw [h] <;>
    simp only [reduceCtorEq, Standing.lost.injEq, decide_false, Bool.not_false, Option.toList_none, List.append_nil,
      List.filter_true]

theorem lineGivenUp_of_held {x : Address} (h : e.standing = .lost (some x)) : lineGivenUp s e = { s.line e.line with
    pool := (s.line e.line).pool ++ [x], quarantine := (s.line e.line).quarantine.filter (·.address != x) } := by
  have hrecord : ∀ r : QuarantineRec, (!decide (Standing.lost (some x) = .lost (some r.address))) = (r.address != x) := by
    intro r
    rw [Bool.eq_iff_iff]
    simp only [bne_iff_ne, Bool.not_eq_true', decide_eq_false_iff_not, Standing.lost.injEq, Option.some.injEq]
    exact ne_comm
  unfold lineGivenUp givenUp
  simp only [h, hrecord, Option.toList_some]

/-- A held address leaves quarantine and goes to the tail of the pool (R50). -/
theorem State.releaseHeld_eq (hb : e.standing.isBound = false) :
    s.releaseHeld e.line e.held = s.setLine e.line (lineGivenUp s e) := by
  cases hst : e.standing with
  | bound a lease => rw [hst] at hb; exact nomatch hb
  | unbound =>
    have hheld : e.held = none := by simp [Entry.held, hst]
    rw [lineGivenUp_of_none (.inl hst), State.setLine_line, hheld]
    rfl
  | lost x =>
    have hheld : e.held = x := by simp [Entry.held, hst]
    rw [hheld]
    cases x with
    | none =>
      rw [lineGivenUp_of_none (.inr hst), State.setLine_line]
      rfl
    | some x =>
      rw [lineGivenUp_of_held hst]
      rfl

/-- The find of a known node that is to be bound: its address is given up first. -/
theorem State.find_of_known (h : s.lookup i = some e) (hb : e.standing.isBound = true → e.line = l ∧ e.forgetting = none) :
    s.find l i m = (s.setLine e.line (lineGivenUp s e)).bindEntry e l m (foundAgain e l) := by
  have hi : e.identity = i := (State.mem_of_lookup h).2
  have hevent : ∀ v : State, (if e.line = l then v.bindEntry e l m (.nodeReturned i l)
      else v.bindEntry e l m (.nodeMoved i e.line l)) = v.bindEntry e l m (foundAgain e l) := fun v => by
    rw [foundAgain, hi]
    split <;> rfl
  cases hbound : e.standing.isBound with
  | true =>
    obtain ⟨a, lease, hst⟩ : ∃ a lease, e.standing = .bound a lease := by
      cases hst : e.standing <;> rw [hst] at hbound
      · exact ⟨_, _, rfl⟩
      all_goals exact nomatch hbound
    obtain ⟨hl, hf⟩ := hb hbound
    simp only [State.find, h, hst, hl, if_true, hf, State.giveBack, State.modLine_eq_setLine, foundAgain, hi,
      lineGivenUp, givenUp, reduceCtorEq, decide_false, Bool.not_false, List.filter_true, Option.toList_some]
  | false =>
    have hfind : s.find l i m = (s.releaseHeld e.line e.held).bindEntry e l m (foundAgain e l) := by
      rw [← hevent, State.find, h]
      cases hst : e.standing <;> rw [hst] at hbound
      · exact nomatch hbound
      all_goals simp only [hst]
    rw [hfind, State.releaseHeld_eq hbound]

end

/-! ## A known node -/

section
variable {s : State} {l : Line} {m : Nat} {e : Entry}

/-- The state in which a known node's address has been given up, with another roster and hush list. -/
abbrev givingUp (s : State) (e : Entry) (es : List Entry) (hs : List HushRec) : State :=
  ({ s with roster := es, hush := hs } : State).setLine e.line (lineGivenUp s e)

theorem sameWork_givingUp (es : List Entry) (hs : List HushRec) (m : Line) :
    (s.line m).SameWork ((givingUp s e es hs).line m) := by
  by_cases hm : m = e.line
  · subst hm
    rw [State.line_setLine]
    exact ⟨rfl, ⟨rfl, rfl, rfl⟩, rfl, rfl, rfl⟩
  · rw [State.line_setLine_of_ne _ hm, State.line_with_hush, State.line_with_roster]
    exact .refl _

/-- Roster and hush list written into a state whose line has been replaced. -/
theorem setLine_with_find (s : State) (o : Line) (M : LineState) (es : List Entry) (hs : List HushRec) :
    ({ s.setLine o M with roster := es, hush := hs } : State) = ({ s with roster := es, hush := hs } : State).setLine o M := by
  cases o <;> rfl

/-- Without an address the entry is UNBOUND (R25). -/
theorem State.bindEntry_of_empty {u : State} (hp : (u.line l).pool = []) (ev : Address → Nat → FindEvent) :
    u.bindEntry e l m ev = ({ u with
      roster := u.roster.map fun x => if x.serial = e.serial then
        { x with line := l, standing := .unbound, memorySize := m, lastSeen := u.clock } else x
      hush := u.hush }, .hush .noAddress (some (.noAddress e.identity l))) := by
  simp only [State.bindEntry, hp, State.updEntry]

/-- The entry takes the head of the pool (R23, R24). -/
theorem State.bindEntry_of_pool {u : State} {a : Address} {rest : List Address} (hp : (u.line l).pool = a :: rest)
    (ev : Address → Nat → FindEvent) :
    u.bindEntry e l m ev = (({ u with
      roster := u.roster.map fun x => if x.serial = e.serial then
        { x with line := l, standing := .bound a u.params.nodeLease, misses := 0, returns := min 255 (e.returns + 1)
                 memorySize := m, lastSeen := u.clock } else x
      hush := u.hush.filter (·.identity != e.identity) } : State).setLine l { u.line l with pool := rest },
      .bind e.serial a u.params.nodeLease (ev a (min 255 (e.returns + 1)))) := by
  simp only [State.bindEntry, hp, State.dropHead, State.updEntry, State.hushRemove, hushWithout, State.modLine_eq_setLine,
    List.tail_cons]
  cases l <;> rfl

theorem bindEntry_givingUp (hr : RosterLaw s) (he : e ∈ s.roster) {a : Address} {rest : List Address}
    (hp : ((s.setLine e.line (lineGivenUp s e)).line l).pool = a :: rest) (ev : Address → Nat → FindEvent) :
    (s.setLine e.line (lineGivenUp s e)).bindEntry e l m ev =
      ((givingUp s e (withEntry e.identity (bindFound s l m a) s.roster) (s.hush.filter (·.identity != e.identity))).setLine l
        { (s.setLine e.line (lineGivenUp s e)).line l with pool := rest },
        .bind e.serial a s.params.nodeLease (ev a (if e.returns < 255 then e.returns + 1 else 255))) := by
  have hback : min 255 (e.returns + 1) = if e.returns < 255 then e.returns + 1 else 255 := by
    split <;> omega
  have hroster : (s.roster.map fun x => if x.serial = e.serial then
      { x with line := l, standing := .bound a s.params.nodeLease, misses := 0
               returns := if e.returns < 255 then e.returns + 1 else 255, memorySize := m, lastSeen := s.clock } else x) =
      withEntry e.identity (bindFound s l m a) s.roster := by
    refine List.map_congr_left fun x hx => ?_
    rw [if_congr (hr.serial_iff hx he) rfl rfl]
    split
    · rename_i hi
      obtain rfl := hr.identity_inj hx he hi
      rfl
    · rfl
  rw [State.bindEntry_of_pool hp, hback, setLine_with_find]
  simp only [State.setLine_roster, State.setLine_params, State.setLine_clock, State.setLine_hush, hroster]

theorem bindEntry_givingUp_of_empty (hr : RosterLaw s) (he : e ∈ s.roster)
    (hp : ((s.setLine e.line (lineGivenUp s e)).line l).pool = []) (ev : Address → Nat → FindEvent) :
    (s.setLine e.line (lineGivenUp s e)).bindEntry e l m ev =
      (givingUp s e (withEntry e.identity (unbindFound s l m) s.roster) s.hush,
        .hush .noAddress (some (.noAddress e.identity l))) := by
  have hroster := hr.map_serial he (unbindFound s l m)
  rw [State.bindEntry_of_empty hp, setLine_with_find]
  simp only [State.setLine_roster, State.setLine_clock, State.setLine_hush, hroster]

/-- Whom a find of a known node does not concern stays BOUND, and so does the node. -/
theorem memberBound_found (hr : RosterLaw s) (he : e ∈ s.roster) {f : Entry → Entry} (hf : (f e).serial = e.serial)
    (hb : ∀ n, e.boundOn n = true → (f e).boundOn n = true) (n : Line) (k : Nat) (h : s.memberBound n k = true) {v : State}
    (hv : v.roster = withEntry e.identity f s.roster) : v.memberBound n k = true := by
  refine memberBound_mono (more := []) (hv.trans (List.append_nil _).symm) (fun x hx => ?_) k h
  split
  · rename_i hi
    obtain rfl := hr.identity_inj hx he hi
    exact ⟨hf, hb n⟩
  · exact ⟨rfl, id⟩

theorem slotInProgress_of_claim {c : Handle} (hw : WindowOpen s l .slotClaim (.claim c)) :
    (s.line l).slotInProgress = true := by
  simp [LineState.slotInProgress, hw, LineOp.isSlot]

/-- The removal of a forgotten node's entry, its address back at once (R26, R115). -/
theorem State.forgottenFound_eq (hr : RosterLaw s) (he : e ∈ s.roster) {a old : Nat} (hb : e.standing = .bound a old)
    (tag : Tag) :
    s.forgottenFound e a tag = (({ s with roster := s.roster.filter (·.identity != e.identity) } : State).setLine e.line
      { s.line e.line with
        pool := (s.line e.line).pool ++ [a], queue := purged (s.line e.line).queue e.identity }).closeAll
      (lostReports (s.line e.line).queue e.identity ++ [report tag (.closed .done (.forget e.identity .found))]) := by
  have htargets := mem_filter_target (queue := (s.line e.line).queue) (i := e.identity)
  have hserial : ∀ x ∈ lessPendingBy ((s.line e.line).queue.filter (·.target == e.identity)) s.roster,
      (x.serial != e.serial) = (x.identity != e.identity) := fun x hx => by
    obtain ⟨y, hy, rfl⟩ := List.mem_map.mp hx
    rw [Bool.eq_iff_iff, bne_iff_ne, bne_iff_ne]
    exact (hr.serial_iff hy he).not
  simp only [State.forgottenFound, State.giveBack, State.modLine_eq_setLine, State.purge_eq_closeAll,
    State.closeAll_with_roster, State.closeAll_roster, State.closeForget, State.close_eq_closeAll,
    State.closeAll_closeAll, State.removeEntry_of_bound _ hb, State.line_setLine, State.setLine_roster,
    State.setLine_with_roster, State.setLine_setLine]
  rw [List.filter_congr hserial, filter_lessPendingBy htargets]

variable {i : Ident} {c : Handle} {h : Heard} (hs : Settled s) (hr : RosterLaw s)
  (hw : WindowOpen s l .slotClaim (.claim c)) (hi : i ≠ 0 ∧ i ≠ BitVec.allOnes 64)
  (hclass : (Call.claim c).classify h = .valid (.identity i m))
include hs hw hi hclass

/-- A find that binds sends BIND. -/
theorem exec_claimWindow_of_bind {v : State} {L : LineState} {n : Nat} {a : Address} {lease : Nat} {ev : FindEvent}
    (hf : s.find l i m = (v.setLine l L, .bind n a lease ev)) (k : Found s v l L) :
    exec (.claimWindow l h) s = .next (v.setLine l { L with
      op := some { work := .slotBind n i m ev, call := .bind c a lease, listening := false } }) := by
  rw [exec_claimWindow_of_open h hw, hclass, State.claimHeard_of_bind (validIdentity_iff.mpr hi) hf, State.line_setLine,
    State.setLine_setLine]
  exact congrArg _ (k.settle hs (slotInProgress_of_claim hw) rfl)

/-- A find that hushes sends HUSH. -/
theorem exec_claimWindow_of_hush {v : State} {r : HushReason} {ev : Option FindEvent}
    (hf : s.find l i m = (v, .hush r ev)) (k : Found s v l (v.line l)) :
    exec (.claimWindow l h) s = .next (v.setLine l { v.line l with
      op := some { work := .slotHush i r ev false, call := .hush c s.params.hushTime, listening := false } }) := by
  rw [exec_claimWindow_of_open h hw, hclass, State.claimHeard_of_hush (validIdentity_iff.mpr hi) hf, k.params]
  exact congrArg _ (k.settle hs (slotInProgress_of_claim hw) rfl)

include hr

/-- A known node that binds: its address is given up and the head of the pool taken (R23, R24). -/
theorem exec_claimWindow_of_known (hlook : s.lookup i = some e)
    (hb : e.standing.isBound = true → e.line = l ∧ e.forgetting = none) {a : Address} {rest : List Address}
    (hp : ((s.setLine e.line (lineGivenUp s e)).line l).pool = a :: rest) :
    exec (.claimWindow l h) s = .next ((givingUp s e (withEntry i (bindFound s l m a) s.roster)
      (s.hush.filter (·.identity != i))).setLine l { (s.setLine e.line (lineGivenUp s e)).line l with
        pool := rest
        op := some { work := .slotBind e.serial i m (foundAgain e l a (if e.returns < 255 then e.returns + 1 else 255)),
                     call := .bind c a s.params.nodeLease, listening := false } }) := by
  obtain ⟨he, rfl⟩ := State.mem_of_lookup hlook
  have hf := (State.find_of_known (m := m) hlook hb).trans (bindEntry_givingUp hr he hp _)
  refine exec_claimWindow_of_bind hs hw hi hclass hf ⟨?_, ?_, ?_, fun n _ => sameWork_givingUp .., fun n k hk => ?_⟩
  · exact State.setLine_clock ..
  · exact State.setLine_params ..
  · obtain ⟨hpoll, hcounts, hop, hqueue, hcensus⟩ := sameWork_givingUp (s := s) (e := e) s.roster s.hush l
    exact ⟨hpoll, hcounts, hop, hqueue, hcensus⟩
  · refine memberBound_found hr he (f := bindFound s l m a) rfl (fun n hn => ?_) n k hk (State.setLine_roster ..)
    simp only [Entry.boundOn, Bool.and_eq_true, beq_iff_eq] at hn ⊢
    exact ⟨(hb hn.2).1.symm.trans hn.1, rfl⟩

/-- A known node for which the pool is empty: UNBOUND and hushed (R25). -/
theorem exec_claimWindow_of_unbound (hlook : s.lookup i = some e) (hb : e.standing.isBound = false)
    (hp : ((s.setLine e.line (lineGivenUp s e)).line l).pool = []) :
    exec (.claimWindow l h) s = .next ((givingUp s e (withEntry i (unbindFound s l m) s.roster) s.hush).setLine l
      { (givingUp s e (withEntry i (unbindFound s l m) s.roster) s.hush).line l with
        op := some { work := .slotHush i .noAddress (some (.noAddress i l)) false,
                     call := .hush c s.params.hushTime, listening := false } }) := by
  obtain ⟨he, rfl⟩ := State.mem_of_lookup hlook
  have hf := (State.find_of_known (m := m) hlook fun hbound => Bool.noConfusion (hb.symm.trans hbound)).trans
    (bindEntry_givingUp_of_empty hr he hp _)
  refine exec_claimWindow_of_hush hs hw hi hclass hf ⟨?_, ?_, sameWork_givingUp .., fun n _ => sameWork_givingUp ..,
    fun n k hk => ?_⟩
  · exact State.setLine_clock ..
  · exact State.setLine_params ..
  · refine memberBound_found hr he (f := unbindFound s l m) rfl (fun n hn => ?_) n k hk (State.setLine_roster ..)
    rw [Entry.boundOn, hb, Bool.and_false] at hn
    exact nomatch hn

/-- A forgotten node found on its own line (R26, R98): its entry is removed, its records and its FORGET close. -/
theorem exec_claimWindow_of_forgotten (hlook : s.lookup i = some e) {a old : Nat} {tag : Tag} (hl : e.line = l)
    (hb : e.standing = .bound a old) (hf : e.forgetting = some tag) :
    let queue := purged (s.line l).queue i
    let roster := s.roster.filter (·.identity != i)
    let L : LineState := { nextCall s l (.slotHush i .forgotten none false) (.hush c s.params.hushTime) with
      pool := (s.line l).pool ++ [a], queue := queue }
    exec (.claimWindow l h) s = .next (({ s with roster := roster } : State).setLine l
      (cycleAfter s l roster (countsLeft L)) |>.closeAll
        (lostReports (s.line l).queue i ++ [report tag (.closed .done (.forget i .found))])) := by
  intro queue roster L
  obtain ⟨he, rfl⟩ := State.mem_of_lookup hlook
  subst hl
  have hfind := (State.find_of_forgotten (m := m) hlook hb rfl hf).trans
    (congrArg (·, _) (State.forgottenFound_eq hr he hb tag))
  have hslot := slotInProgress_of_claim hw
  have hgone : ∀ n, n ≠ e.line → ∀ k, s.memberBound n k = true →
      ({ s with roster := roster } : State).memberBound n k = true := fun n hn k hk => by
    obtain ⟨x, hx, hxk⟩ := List.any_eq_true.mp hk
    refine List.any_eq_true.mpr ⟨x, List.mem_filter.mpr ⟨hx, bne_iff_ne.mpr fun hid => ?_⟩, hxk⟩
    obtain rfl := hr.identity_inj hx he hid
    simp only [Entry.boundOn, Bool.and_eq_true, beq_iff_eq] at hxk
    exact hn hxk.2.1.symm
  rw [exec_claimWindow_of_open h hw, hclass, State.claimHeard_of_hush (validIdentity_iff.mpr hi) hfind,
    State.closeAll_setLine, State.settle_closeAll, State.line_closeAll, State.line_setLine, State.setLine_setLine,
    State.closeAll_params, State.setLine_params]
  refine congrArg (fun u : State => Host.Outcome.next (u.closeAll _)) ?_
  exact State.settle_setLine_of_work (v := { s with roster := roster }) hs rfl rfl
    (.of_slot rfl ⟨rfl, rfl, rfl⟩ hslot rfl rfl) (fun n _ => by rw [State.line_with_roster]; exact .refl _) hgone

end

end Sys2Proof.Machine
open Sys2Proof.Machine Sys2Proof.Statements

/-- Settles O41: the slot is spoiled, or the find decides a HUSH. -/
theorem claimSpoilsOrHushes : Obligations.ClaimSpoilsOrHushes := by
  intro s l k h c hs hw hc w hushing
  refine ⟨fun hgoes hspoil => ?_, fun i m hclass hzero hones => ?_⟩
  · rw [exec_claimWindow_of_open h hw, Call.handle, State.claimHeard_of_spoils hspoil,
      State.finishSlot_classed hgoes _ ⟨rfl, rfl, rfl⟩]
    refine congrArg _ (State.settle_setLine_of_same hs rfl rfl (.of_end rfl ⟨rfl, rfl, rfl⟩ rfl) ?_ rfl (by simp [hc])
      (fun _ _ => .refl _) fun _ _ => id)
    simp [LineState.pollInProgress, hw, LineOp.isPoll]
  have hfound : Found s s l (s.line l) := ⟨rfl, rfl, .refl _, fun _ _ => .refl _, fun _ _ => id⟩
  refine ⟨fun e a lease hlook hb hl => ?_, fun hlook hfull => ?_, fun hlook hroom hp => ?_,
    fun e x hr hlook hlost hl hp => ?_, fun e hr hlook hst hp => ?_⟩
  · exact exec_claimWindow_of_hush hs hw ⟨hzero, hones⟩ hclass (State.find_of_clash hlook hb hl) hfound
  · exact exec_claimWindow_of_hush hs hw ⟨hzero, hones⟩ hclass (State.find_of_full hlook hfull) hfound
  · have hline : ∀ n, (s.line n).SameWork (({ s with
        roster := s.roster ++ [newEntry s l i m .unbound], nextSerial := s.nextSerial + 1 } : State).line n) := fun n => by
      cases n <;> exact .refl _
    refine (exec_claimWindow_of_hush hs hw ⟨hzero, hones⟩ hclass (State.find_of_new_no_address hlook hroom hp)
      ⟨rfl, rfl, hline l, fun n _ => hline n, fun n k hk => ?_⟩).trans ?_
    · exact memberBound_mono (g := id) (by rw [List.map_id]) (fun _ _ => ⟨rfl, id⟩) k hk
    · cases l <;> rfl
  · have hsame : ((s.setLine e.line (lineGivenUp s e)).line l) = s.line l := State.line_setLine_of_ne _ hl.symm _
    refine (exec_claimWindow_of_unbound hs hr hw ⟨hzero, hones⟩ hclass hlook (by rw [hlost]; rfl) (by rw [hsame]; exact hp)).trans ?_
    rw [givingUp, State.line_setLine_of_ne _ hl.symm, lineGivenUp_of_held hlost]
    cases l <;> rfl
  · have hsame : s.setLine e.line (lineGivenUp s e) = s := by rw [lineGivenUp_of_none hst, State.setLine_line]
    have hgiving : givingUp s e (withEntry i (unbindFound s l m) s.roster) s.hush =
        { s with roster := withEntry i (unbindFound s l m) s.roster } := by
      rw [givingUp, lineGivenUp_of_none hst]
      cases e.line <;> rfl
    refine (exec_claimWindow_of_unbound hs hr hw ⟨hzero, hones⟩ hclass hlook
      (by rcases hst with hst | hst <;> rw [hst] <;> rfl) (by rw [hsame]; exact hp)).trans ?_
    rw [hgiving, State.line_with_roster]

/-- Settles O42: a new node, a known one on either line, and a forgotten one. -/
theorem claimBindsOrCompletesForget : Obligations.ClaimBindsOrCompletesForget := by
  intro s l k h c i m hs hr hw hc hclass hzero hones lease hush back rebound
  refine ⟨fun a rest hlook hroom hp => ?_, fun e hlook => ⟨fun a rest hl hf hp => ?_, fun o a rest ho hol hb hp => ?_,
    fun a old tag hl hb hf hopen => ?_⟩⟩
  · let v : State := { s with
      roster := s.roster ++ [newEntry s l i m (.bound a s.params.nodeLease)], nextSerial := s.nextSerial + 1
      hush := s.hush.filter (·.identity != i) }
    have hline : ∀ n, (s.line n).SameWork (v.line n) := fun n => by cases n <;> exact .refl _
    exact exec_claimWindow_of_bind (v := v) hs hw ⟨hzero, hones⟩ hclass (State.find_of_new hlook hroom hp)
      ⟨rfl, rfl, ⟨rfl, ⟨rfl, rfl, rfl⟩, rfl, rfl, rfl⟩, fun n _ => hline n,
        fun n k hk => memberBound_mono (g := id) (by rw [List.map_id]) (fun _ _ => ⟨rfl, id⟩) k hk⟩
  · have hpool : ((s.setLine e.line (lineGivenUp s e)).line l).pool = a :: rest := by
      subst hl
      rw [State.line_setLine]
      exact hp
    refine (exec_claimWindow_of_known hs hr hw ⟨hzero, hones⟩ hclass hlook (fun _ => ⟨hl, hf⟩) hpool).trans ?_
    subst hl
    rw [State.line_setLine, State.setLine_setLine, foundAgain, if_pos rfl, (State.mem_of_lookup hlook).2]
  · have hne : l ≠ e.line := by rw [ho]; exact hol.symm
    have hpool : ((s.setLine e.line (lineGivenUp s e)).line l).pool = a :: rest := by
      rw [State.line_setLine_of_ne _ hne]
      exact hp
    refine (exec_claimWindow_of_known hs hr hw ⟨hzero, hones⟩ hclass hlook
      (fun hbound => Bool.noConfusion (hb.symm.trans hbound)) hpool).trans ?_
    have hgiven : givenUp e = match e.standing with | .lost x => x | _ => none := by
      unfold givenUp
      cases hst : e.standing with
      | bound _ _ => rw [hst] at hb; exact nomatch hb
      | lost x => rfl
      | unbound => rfl
    subst ho
    rw [State.line_setLine_of_ne _ hne, foundAgain, if_neg hne.symm, (State.mem_of_lookup hlook).2, givingUp, lineGivenUp,
      hgiven] <;> rfl
  · refine (exec_claimWindow_of_forgotten hs hr hw ⟨hzero, hones⟩ hclass hlook hl hb hf).trans ?_
    rw [← State.closeAll_setLine, State.closeAll_eq_closes (s := { s with roster := s.roster.filter (·.identity != i) }) hopen]
    have hcounts : ∀ L : LineState, L.census = some c → countsLeft L = { L with passedT := passedWith L L.queue } :=
      fun L hL => by rw [countsLeft, hL, if_neg (Option.some_ne_none c)]
    exact congrArg (fun L => Host.Outcome.next (State.setLine _ l
      (cycleAfter s l (s.roster.filter (·.identity != i)) L))) (hcounts _ hc)
end

section
/-! What an answer window tells (R4, R94, R111, R119, R135), and an entry counted out with a window counted (R29, R47). -/

namespace Sys2Proof.Machine

open Sys2Proof.Statements

/-! ## Windows -/

/-- A valid answer is one that the call admits (R4). -/
theorem Call.admits_of_classify {c : Call} {h : Heard} {a : Answer} (hc : c.classify h = .valid a) : c.admits a = true := by
  unfold Call.classify at hc
  split at hc
  · exact nomatch hc
  · split at hc
    · exact nomatch hc
    · split at hc
      · split at hc
        · rename_i x _ hx
          simp only [Bool.and_eq_true] at hx
          obtain rfl := WindowClass.valid.inj hc
          exact hx.2
        · exact nomatch hc
      · exact nomatch hc

/-- A window that holds no STUB and no IDENTITY: its answer, if it is valid, carries a check word. -/
def WindowClass.Checked (w : WindowClass) : Prop :=
  (∀ k, w ≠ .valid (.stub k)) ∧ ∀ i m, w ≠ .valid (.identity i m)

/-- The windows of the calls to a known node hold no STUB and no IDENTITY. -/
theorem Call.classify_checked {c : Call} (h : Heard) (hs : ∀ k, c.admits (.stub k) = false)
    (hi : ∀ i m, c.admits (.identity i m) = false) : (c.classify h).Checked :=
  ⟨fun k hk => Bool.noConfusion ((hs k).symm.trans (Call.admits_of_classify hk)),
    fun i m hk => Bool.noConfusion ((hi i m).symm.trans (Call.admits_of_classify hk))⟩

/-- A window of a call to a known node counted (R135). -/
theorem State.countHeard_eq (s : State) (l : Line) {w : WindowClass} (hw : w.Checked) (i : Ident) :
    (s.countWindow l w).countMismatch l (mismatch w i) = s.setLine l { s.line l with
      counters := windowCounted w i (s.line l).counters } := by
  rw [State.countWindow_eq, State.countMismatch_eq, State.line_setLine, State.setLine_setLine]
  congr 1
  cases w with
  | silence => rfl
  | garbled => rfl
  | valid a =>
    have hcheck : ∀ c : CheckWord, ∀ k : LineCounters,
        (if (!decide (c = i.setWidth 16)) = true then { k with mismatches := k.mismatches + 1 } else k) =
          if c = i.setWidth 16 then k else { k with mismatches := k.mismatches + 1 } := fun c k => by
      by_cases hc : c = i.setWidth 16 <;> simp [hc]
    cases a with
    | stub k => exact absurd rfl (hw.1 k)
    | identity i m => exact absurd rfl (hw.2 i m)
    | _ => exact congrArg (fun k => ({ s.line l with counters := k } : LineState)) (hcheck _ _)

/-- The ACK of the identity counts no mismatch. -/
theorem windowCounted_ack (i : Ident) (k : LineCounters) : windowCounted (.valid (.ack (i.setWidth 16))) i k = k := if_pos rfl

/-- A claim that changes nobody's binding and no line leaves nothing to settle. -/
theorem State.settle_of_beside {s v : State} (hs : Settled s) (k : Beside s v) : v.settle = v := by
  have hline : ∀ l, lineSettled v l = v.line l := fun l => by
    rw [k.line]
    exact lineSettled_of_same (waitLaw_of_settled hs l) (k.line l) (k.bound l)
  have h := State.settle_of_lines (otherLine_ne .A) (hline .A) (hline (otherLine .A))
  rwa [State.setLine_line, State.setLine_line] at h

/-! ## An entry counted out with a window counted -/

/-- Nobody but the entry itself leaves a line when it is counted out. -/
theorem memberBound_countedOut {s v : State} (hr : RosterLaw s) {e : Entry} (he : e ∈ s.roster) (a : Address)
    (hv : v.roster = countedOut e a s.roster) (m : Line) (hm : m ≠ e.line) (k : Nat) (h : s.memberBound m k = true) :
    v.memberBound m k = true := by
  obtain ⟨x, hx, hxk⟩ := List.any_eq_true.mp h
  refine List.any_eq_true.mpr ⟨x, hv ▸ mem_countedOut_of_ne hx fun hid => ?_, hxk⟩
  obtain rfl := hr.identity_inj hx he hid
  simp only [Entry.boundOn, Bool.and_eq_true, beq_iff_eq] at hxk
  exact hm hxk.2.1.symm

/-- The record of an address that enters quarantine takes its place among the others (R46, R47). -/
theorem oneMore_insertRecord (now : Clock) (r : QuarantineRec) (rs : List QuarantineRec) :
    OneMore now r rs (insertRecord now r rs) :=
  ⟨insertRecord_perm now r rs, fun _ h => inOrder_insertRecord h r⟩

/-- What finishes of a cycle does not look at the census, nor at an operation that is no poll. -/
theorem cycleAfter_with_op {s : State} {l : Line} {es : List Entry} {L : LineState} {o : Option LineOp}
    (hL : L.pollInProgress = false) (ho : o.any LineOp.isPoll = false) (c : Option Census) :
    cycleAfter s l es { L with op := o, census := c } = { cycleAfter s l es L with op := o, census := c } := by
  have hprog : L.op.any LineOp.isPoll = false := hL
  cases hp : L.poll with
  | none => simp only [cycleAfter, hp]
  | some x =>
    by_cases hdone : x.running = true ∧ NoneLeft s l es x
    · simp only [cycleAfter, hp, LineState.pollInProgress, hprog, ho, true_and, if_pos hdone]
    · simp only [cycleAfter, hp, LineState.pollInProgress, hprog, ho, true_and, if_neg hdone]

/-- A cycle that finishes leaves operation, census and queue of its line. -/
theorem cycleAfter_keeps (s : State) (l : Line) (es : List Entry) (L : LineState) :
    (cycleAfter s l es L).census = L.census ∧ (cycleAfter s l es L).openPower = L.openPower ∧
      (cycleAfter s l es L).op = L.op ∧ (cycleAfter s l es L).queue = L.queue := by
  cases hp : L.poll with
  | none => simp only [cycleAfter, hp, and_self]
  | some x =>
    simp only [cycleAfter, hp]
    split <;> exact ⟨rfl, rfl, rfl, rfl⟩

/-- The line that an entry counted out leaves behind, its counters aside. -/
abbrev outCounted (s : State) (e : Entry) (a lease : Nat) (k : LineCounters) : LineState :=
  { s.line e.line with
    counters := k
    quarantine := insertRecord s.clock (quarantined s e.line a lease (outOrigin e)) (s.line e.line).quarantine
    nextSeq := (s.line e.line).nextSeq + 1
    queue := purged (s.line e.line).queue e.identity
    passedT := passedWith (s.line e.line) (purged (s.line e.line).queue e.identity) }

section
variable {s : State} (hr : RosterLaw s) {e : Entry} (he : e ∈ s.roster) {a lease : Nat}
  (hb : e.standing = .bound a lease)
include hr he hb

/-- An entry counted out on a line whose counters have changed. -/
theorem State.countOut_counted (k : LineCounters) :
    (s.setLine e.line { s.line e.line with counters := k }).countOut e =
      (({ s with roster := countedOut e a s.roster } : State).setLine e.line
        { outLine s e a lease with counters := k }).closeAll (outReports (s.line e.line).queue e) := by
  rw [State.countOut_of_bound (hr.of_eq (State.setLine_roster ..) (State.setLine_nextSerial ..))
    (by rw [State.setLine_roster]; exact he) hb]
  have hout : outLine (s.setLine e.line { s.line e.line with counters := k }) e a lease =
      { outLine s e a lease with counters := k } := by
    simp only [outLine, quarantined, State.line_setLine, State.setLine_clock, State.setLine_params]
  rw [hout, State.setLine_with_roster, State.setLine_setLine, State.setLine_roster, State.line_setLine]

variable (hs : Settled s)
include hs

/-- An entry counted out during an operation on its line, the claim settled (R29, R98, R124). -/
theorem State.settle_countOut_counted (k : LineCounters) (hc : (s.line e.line).census.isSome = true) :
    ((s.setLine e.line { s.line e.line with counters := k }).countOut e).settle =
      (({ s with roster := countedOut e a s.roster } : State).setLine e.line
        (cycleAfter s e.line (countedOut e a s.roster) (outCounted s e a lease k))).closeAll
          (outReports (s.line e.line).queue e) := by
  have hcensus : (s.line e.line).census ≠ none := Option.isSome_iff_ne_none.mp hc
  have hsettle := State.settle_setLine_of_work (v := { s with roster := countedOut e a s.roster }) (l := e.line)
    (L := { outLine s e a lease with counters := k }) hs rfl rfl (.of_op rfl ⟨rfl, rfl, rfl⟩ rfl)
    (fun m _ => by rw [State.line_with_roster]; exact .refl _) (memberBound_countedOut hr he a rfl)
  rw [State.countOut_counted hr he hb, State.settle_closeAll, hsettle, countsLeft, if_neg hcensus]

end

end Sys2Proof.Machine
end

section
/-! The BIND's window (R27, R64), and the end of a slot of every sort (R61, R66 to R69, R72, R75). -/

namespace Sys2Proof.Machine

open Sys2Proof.Statements

/-! ## A slot's end settled -/

/-- What the end of a slot leaves of its line: free, the census as it goes on or none (R61, R67, R75). -/
theorem slotOver_eq_setLine (u : State) (l : Line) (c : Census) (event : Option Event) (rest : List Req) :
    ∃ v x, slotOver u l c event rest = v.setLine l { u.line l with op := none, census := x } ∧ HostOnly u v := by
  have htold : ∀ es t, HostOnly u t → HostOnly u (brought c.tag es t) := fun es t ht =>
    ht.trans ⟨by simp, by simp, by simp, by rw [brought_eq], fun m => by simp⟩
  have hcloses : ∀ t d o, HostOnly u t → ∃ v x, censusCloses t l d o rest =
      v.setLine l { u.line l with op := none, census := x } ∧ HostOnly u v := fun t d o ht =>
    ⟨{ t with
        table := rest, stop := stopLeft t (rest = [])
        reports := t.reports ++ [report d.tag (.closed o (.census d.totals))] ++ stopClosed t (rest = []) }, none,
      by rw [censusCloses, ht.line l], ht.trans ⟨rfl, rfl, rfl, rfl, fun m => by cases m <;> rfl⟩⟩
  have hgoes : ∀ t x, HostOnly u t → ∃ v y, t.setLine l { u.line l with op := none, census := x } =
      v.setLine l { u.line l with op := none, census := y } ∧ HostOnly u v := fun t x ht => ⟨t, x, rfl, ht⟩
  have hfirst := htold event.toList u (.refl u)
  unfold slotOver
  dsimp only
  split
  · split
    · exact hcloses _ _ _ hfirst
    · exact hgoes _ _ hfirst
  · split
    · exact hcloses _ _ _ (htold _ _ hfirst)
    · split
      · exact hcloses _ _ _ (htold _ _ hfirst)
      · split
        · exact hcloses _ _ _ (htold _ _ hfirst)
        · exact hgoes _ _ (htold _ _ hfirst)

/-- The end of a slot does not look at the operation that it ends. -/
theorem slotOver_with_op (v : State) (l : Line) (L : LineState) (o : Option LineOp) (c : Census) (event : Option Event)
    (rest : List Req) :
    slotOver (v.setLine l { L with op := o }) l c event rest = slotOver (v.setLine l L) l c event rest := by
  have hclose : ∀ (t : State) d x, censusCloses (t.setLine l { L with op := o }) l d x rest = censusCloses (t.setLine l L) l d x rest :=
    fun t d x => by cases l <;> rfl
  simp only [slotOver, brought_setLine, State.line_setLine, State.setLine_setLine, State.setLine_params, hclose]

/-- The end of a slot leaves nothing to settle: its sequencer waited for nothing while the slot went on (R124). -/
theorem slotOver_settle {s : State} {l : Line} (hs : Settled s) (hslot : (s.line l).slotInProgress = true) (w : WindowClass)
    (c : Census) (event : Option Event) (rest : List Req) :
    (slotOver (classed s l w) l c event rest).settle = slotOver (classed s l w) l c event rest := by
  obtain ⟨v, x, heq, hhost⟩ := slotOver_eq_setLine (classed s l w) l c event rest
  have hw := waitLaw_of_settled hs l
  have hzero : (s.line l).passedC = 0 := (waitLaw_iff.mp hw).1.2.2 (by simp [State.waitsC, hslot])
  have hpoll : (s.line l).pollInProgress = false := by
    obtain ⟨p, hp, hps⟩ : ∃ p, (s.line l).op = some p ∧ p.isSlot = true := by
      simpa only [LineState.slotInProgress, Option.any_eq_true] using hslot
    rw [LineState.pollInProgress, hp, Option.any_some]
    revert hps
    cases hwork : p.work <;> simp [LineOp.isSlot, LineOp.isPoll, hwork]
  have hbound : v.memberBound = s.memberBound :=
    State.memberBound_congr (hhost.roster.trans (State.setLine_roster ..))
  let L : LineState := { s.line l with counters := classCounted w (s.line l).counters, op := none, census := x }
  have hcounts : countsLeft L = L := by simp only [countsLeft, L, passedT_of_waitLaw hw, hzero, ite_self]
  have hcycle : cycleAfter s l v.roster L = L := cycleAfter_of_mono hw (fun n h => by
    rw [show ({ s with roster := v.roster } : State).memberBound = v.memberBound from State.memberBound_congr rfl, hbound]
    exact h) rfl (by rw [hpoll]; rfl)
  rw [heq, State.line_setLine]
  refine (State.settle_setLine_of_work (L := L) hs (hhost.clock.trans (State.setLine_clock ..))
    (hhost.params.trans (State.setLine_params ..)) (.of_end rfl ⟨rfl, rfl, rfl⟩ rfl)
    (fun m hm => by rw [hhost.line, State.line_setLine_of_ne _ hm]; exact .refl _)
    (fun m _ n h => by rw [hbound]; exact h)).trans ?_
  rw [hcounts, hcycle]

/-! ## The BIND's window -/

theorem slotBound_eq (v : FindEvent) (c : Census) :
    { c with boundNodes := c.boundNodes + 1, totals := c.totals.confirmed v } = slotBound v c := by
  cases v <;> rfl

section
variable {s : State} {l : Line} {n : Nat} {i : Ident} {m : Nat} {v : FindEvent} {x : Handle} {a lease : Nat} {h : Heard}

/-- A BIND is confirmed by the ACK with the node's check word alone (R27). -/
theorem judge_of_bind (i : Ident) :
    judge ((Call.bind x a lease).classify h) i = .finished none ↔
      (Call.bind x a lease).classify h = .valid (.ack (i.setWidth 16)) := by
  cases hw : (Call.bind x a lease).classify h with
  | silence => simp [judge]
  | garbled => simp [judge]
  | valid b =>
    have hadmits := Call.admits_of_classify hw
    cases b <;> simp [Call.admits] at hadmits
    rename_i w
    by_cases hcheck : w = i.setWidth 16 <;> simp [judge, carriesCheck, checkWord, hcheck]

theorem checked_of_bind : ((Call.bind x a lease).classify h).Checked :=
  Call.classify_checked h (fun _ => rfl) fun _ _ => rfl

variable {e : Entry} (hs : Settled s) (hr : RosterLaw s) (hw : WindowOpen s l (.slotBind n i m v) (.bind x a lease))
  (hentry : s.entryOf n = some e) (hi : e.identity = i) (hl : e.line = l) (hb : e.standing = .bound a lease)
include hs hr hw hentry hi hl hb

/-- A confirmed BIND: the entry is heard from (R27), and the slot ends with the find's event (R64). -/
theorem exec_bindOutcome_of_ack (hack : (Call.bind x a lease).classify h = .valid (.ack (i.setWidth 16))) :
    exec (.bindOutcome l h) s = .next
      ((({ s with roster := withEntry i (fun e => { e with lastSeen := s.clock }) s.roster } : State).modCensus l
        (slotBound v)).finishSlot l (some v.report)) := by
  obtain ⟨he, rfl⟩ := State.mem_of_entryOf hentry
  subst hi hl
  have hcount : (s.countWindow e.line (.valid (.ack (e.identity.setWidth 16)))).countMismatch e.line
      (mismatch (.valid (.ack (e.identity.setWidth 16))) e.identity) = s := by
    rw [State.countHeard_eq s e.line (hack ▸ checked_of_bind), windowCounted_ack]
    exact State.setLine_line ..
  have hclaim : s.bindOutcome e.serial true = { s with
      roster := withEntry e.identity (fun e => { e with lastSeen := s.clock }) s.roster } := by
    have hbound : e.standing.isBound = true := by rw [hb]; rfl
    simp only [State.bindOutcome, hentry, hbound, if_true, State.updEntry]
    rw [hr.map_serial he fun e => { e with lastSeen := s.clock }]
  have hjudge := (judge_of_bind e.identity).mpr hack
  rw [hack] at hjudge
  have hsame := State.settle_of_beside hs (.withEntry s e.identity (f := fun e => { e with lastSeen := s.clock })
    fun _ => ⟨rfl, rfl, rfl⟩)
  rw [exec_bindOutcome_of_open h hw, State.bindHeard, Call.bindAddress, hack, hcount, if_pos hjudge, hclaim, hsame]
  simp only [slotBound_eq]

/-- The line of a node whose BIND is not confirmed, before the slot ends (R27, R47, R98). -/
abbrev unboundLine (s : State) (e : Entry) (a lease : Nat) (w : WindowClass) : LineState :=
  cycleAfter s e.line (countedOut e a s.roster)
    (outCounted s e a lease (windowCounted w e.identity (s.line e.line).counters))

/-- A BIND that is not confirmed: the entry is counted out, and the slot ends with the find unconfirmed. -/
theorem exec_bindOutcome_of_silent (hc : (s.line l).census.isSome = true)
    (hack : (Call.bind x a lease).classify h ≠ .valid (.ack (i.setWidth 16))) :
    exec (.bindOutcome l h) s = .next ((((({ s with roster := countedOut e a s.roster } : State).setLine l
      (unboundLine s e a lease ((Call.bind x a lease).classify h))).closeAll (outReports (s.line l).queue e)).modCensus l
        slotUnconfirmed).finishSlot l (some fun round slot => .nodeFound i l a m round slot true)) := by
  obtain ⟨he, rfl⟩ := State.mem_of_entryOf hentry
  subst hi hl
  have hclaim : ∀ k : LineCounters, (s.setLine e.line { s.line e.line with counters := k }).bindOutcome e.serial false =
      (s.setLine e.line { s.line e.line with counters := k }).countOut e := fun k => by
    have hbound : e.standing.isBound = true := by rw [hb]; rfl
    have hfound : (s.setLine e.line { s.line e.line with counters := k }).entryOf e.serial = some e := by
      rw [State.entryOf, State.setLine_roster]
      exact hentry
    simp only [State.bindOutcome, hfound, hbound, if_true, Bool.false_eq_true, if_false]
  rw [exec_bindOutcome_of_open h hw, State.bindHeard, State.countHeard_eq s e.line checked_of_bind, Call.bindAddress,
    if_neg ((judge_of_bind e.identity).not.mpr hack), hclaim, State.settle_countOut_counted hr he hb hs _ hc]

end

end Sys2Proof.Machine
open Sys2Proof.Machine Sys2Proof.Statements

/-- Settles O43: the ACK confirms, anything else counts the entry out. -/
theorem bindIsConfirmedOrEntryLost : Obligations.BindIsConfirmedOrEntryLost := by
  intro s l n i m v k a lease h c e hs hr hw hgoes hentry hi hl hb w
  obtain ⟨hc, hmid, hhalt, hoff⟩ := hgoes
  refine ⟨fun hack => ?_, fun hack hopen => ⟨_, oneMore_insertRecord _ _ _, ?_⟩⟩
  · let u : State := { s with roster := withEntry i (fun e => { e with lastSeen := s.clock }) s.roster }
    have hu : u.line l = s.line l := State.line_with_roster ..
    rw [exec_bindOutcome_of_ack hs hr hw hentry hi hl hb hack, State.finishSlot_modCensus (u := u) (c := c)
      (by rw [SlotGoesOn, hu]; exact ⟨hc, hmid, hhalt, hoff⟩) ⟨rfl, rfl, rfl⟩, hu]
    exact congrArg (fun x => Host.Outcome.next (brought c.tag [x] _)) (FindEvent.report_eq v _ _)
  · subst hi hl
    obtain ⟨hcensus, hpower, -, -⟩ := cycleAfter_keeps s e.line (countedOut e a s.roster)
      (outCounted s e a lease (windowCounted w e.identity (s.line e.line).counters))
    let u : State := (({ s with roster := countedOut e a s.roster } : State).closes
      (outReports (s.line e.line).queue e)).setLine e.line (unboundLine s e a lease w)
    have hu : u.line e.line = unboundLine s e a lease w := State.line_setLine ..
    have hoff' : (u.line e.line).offOpen = false := by
      rw [hu, LineState.offOpen, hpower]
      exact hoff
    rw [exec_bindOutcome_of_silent hs hr hw hentry rfl rfl hb (by rw [hc]; rfl) hack, ← State.closeAll_setLine,
      State.closeAll_eq_closes (s := { s with roster := countedOut e a s.roster }) hopen,
      State.finishSlot_modCensus (u := u) (c := c)
        ⟨by rw [hu]; exact hcensus.trans hc, hmid, hhalt, hoff'⟩ ⟨rfl, rfl, rfl⟩, hu, State.setLine_setLine]
    have hpoll : (outCounted s e a lease (windowCounted w e.identity (s.line e.line).counters)).pollInProgress = false := by
      simp [LineState.pollInProgress, hw, LineOp.isPoll]
    refine congrArg (fun L => Host.Outcome.next (brought c.tag _ (State.setLine _ e.line L)))
      (cycleAfter_with_op hpoll (o := none) rfl (some (slotCounted (slotUnconfirmed c)))).symm

/-- Settles O45: every sort of slot ends by one and the same claim. -/
theorem slotEndGoesOnHaltsOrEndsRound : Obligations.SlotEndGoesOnHaltsOrEndsRound := by
  intro s l h c front back q hc hoff hopen counting
  refine ⟨fun call hw => ⟨fun hclass => ?_, fun hclass => ?_⟩, fun k hs hw hspoil => ?_,
    fun i r v matched k t hw => ?_, fun n i m v k a lease e hs hr hw hentry hi hl hb => ⟨fun hack => ?_, fun hack => ?_⟩⟩
  · rw [exec_slotWindow_of_open h hw, hclass]
    simp only [State.openingWindow]
    rw [State.finishSlot_classed_slotOver hc hoff hopen .silence (by rfl)]
    rfl
  · rw [exec_slotWindow_of_open h hw, hclass]
    simp only [State.openingWindow]
    rw [State.finishSlot_classed_slotOver hc hoff hopen .garbled (by rfl)]
    rfl
  · rw [exec_claimWindow_of_open h hw, Call.handle, State.claimHeard_of_spoils hspoil,
      State.finishSlot_classed_slotOver hc hoff hopen _ (by rfl),
      slotOver_settle hs (slotInProgress_of_claim hw)]
    rfl
  · rw [exec_hushWindow_of_open h hw, State.finishSlot_classed_slotOver hc hoff hopen _ (by rfl), hushEvent_map, slotHushed_eq]
  · let u : State := { s with roster := withEntry i (fun e => { e with lastSeen := s.clock }) s.roster }
    have hu : u.line l = s.line l := State.line_with_roster ..
    rw [exec_bindOutcome_of_ack hs hr hw hentry hi hl hb hack, State.finishSlot_modCensus_slotOver (u := u) (c := c)
      (hu ▸ hc) (hu ▸ hoff) hopen rfl]
    exact congrArg (fun x => Host.Outcome.next (slotOver u l (slotBound v c) (some x) _)) (FindEvent.report_eq v _ _)
  · intro rs queue roster hopens hother
    refine ⟨_, oneMore_insertRecord _ _ _, ?_⟩
    subst hi hl
    obtain ⟨htable, hq, hrest⟩ := hopen
    have hstays : rs.all (·.tag != q.tag) = true := List.all_eq_true.mpr fun r hr => by
      rw [hq]
      exact bne_iff_ne.mpr (hother r hr)
    have hsplit : tableLess rs s.table = tableLess rs front ++ q :: tableLess rs back := by
      simp only [htable, tableLess, List.filter_append, List.filter_cons, hstays, if_true]
    have hleft : ¬Emptied s rs := fun hempty => by
      rw [Emptied, hsplit] at hempty
      exact List.append_ne_nil_of_right_ne_nil _ (List.cons_ne_nil _ _) hempty.2
    let u : State := { s with roster := roster, table := tableLess rs s.table, reports := s.reports ++ rs }
    have hcloses : ({ s with roster := roster } : State).closes rs = u := by
      have hstop : stopLeft s (Emptied s rs) = s.stop := if_neg hleft
      have hreports : s.reports ++ rs ++ stopClosed s (Emptied s rs) = s.reports ++ rs := by
        rw [stopClosed, if_neg hleft, List.append_nil]
      exact (congrArg₂ (fun st r => ({ s with
        roster := roster, table := tableLess rs s.table, stop := st, reports := r } : State)) hstop hreports)
    let w := (Call.bind k a lease).classify h
    obtain ⟨hcensus, hpower, -, -⟩ := cycleAfter_keeps s e.line roster
      (outCounted s e a lease (windowCounted w e.identity (s.line e.line).counters))
    have hline : (u.setLine e.line (unboundLine s e a lease w)).line e.line = unboundLine s e a lease w :=
      State.line_setLine ..
    have hpoll : (outCounted s e a lease (windowCounted w e.identity (s.line e.line).counters)).pollInProgress = false := by
      simp [LineState.pollInProgress, hw, LineOp.isPoll]
    rw [exec_bindOutcome_of_silent hs hr hw hentry rfl rfl hb (by rw [hc]; rfl) hack, ← State.closeAll_setLine,
      State.closeAll_eq_closes (s := { s with roster := roster }) hopens, hcloses,
      State.finishSlot_modCensus_slotOver (c := c) (front := tableLess rs front) (back := tableLess rs back) (q := q)
        (by rw [hline]; exact hcensus.trans hc) (by rw [hline, LineState.offOpen, hpower]; exact hoff)
        ⟨(State.setLine_table ..).trans hsplit, hq, fun r hr => ?_⟩ rfl, ← slotOver_with_op _ _ _ none,
      ← List.filter_append]
    · have hpass := cycleAfter_with_op hpoll (s := s) (l := e.line) (es := roster) (o := none) rfl (s.line e.line).census
      have hended : { unboundLine s e a lease w with op := none } = _ :=
        (congrArg (fun x => ({ unboundLine s e a lease w with op := none, census := x } : LineState)) hcensus).trans
          hpass.symm
      exact congrArg (fun L => Host.Outcome.next (slotOver (u.setLine e.line L) e.line (slotUnconfirmed c) _ _)) hended
    · exact hrest r ((List.filter_append ..).symm ▸ hr |> List.mem_filter.mp).1
end

section
/-! The POLL's window (R28, R29, R94 to R98): what is heard is brought to the roster, and the cycle goes on or finishes. -/

namespace Sys2Proof.Machine

open Sys2Proof.Statements

/-! ## Both lines settled -/

theorem State.withLines_line (s : State) : s.withLines s.line = s := rfl

theorem State.setLine_eq_withLines (s : State) (l : Line) (L : LineState) :
    s.setLine l L = s.withLines (Function.update s.line l L) := by
  rw [← State.withLines_setLine, State.withLines_line]

theorem State.closeAll_withLines (s : State) (rs : List Report) (ls : Line → LineState) :
    (s.closeAll rs).withLines ls = (s.withLines ls).closeAll rs := by
  rw [State.withLines_eq_setLine, State.withLines_eq_setLine, State.closeAll_setLine, State.closeAll_setLine]

/-- A claim that ends the work of each line, or leaves it, settles line by line. -/
theorem State.settle_withLines {s v : State} (hs : Settled s) (hclock : v.clock = s.clock) (hparams : v.params = s.params)
    {ls : Line → LineState} (k : ∀ m, (s.line m).EndsWork (ls m)) :
    (v.withLines ls).settle = v.withLines fun m => cycleAfter s m v.roster (countsLeft (ls m)) := by
  have hline : ∀ m, lineSettled (v.withLines ls) m = cycleAfter s m v.roster (countsLeft (ls m)) := fun m => by
    rw [lineSettled_of_ends (u := v.withLines ls) (waitLaw_of_settled hs m) hclock hparams (by rw [State.line_withLines]; exact k m),
      State.line_withLines]
    rfl
  rw [State.settle_eq, hline, hline]
  rfl

/-! ## The poll heard -/

section
variable {s v : State} {l : Line} {n : Nat} {i : Ident} {a : Nat} {h : Heard} {ls : Line → LineState}

theorem checked_of_poll : ((Call.poll a).classify h).Checked :=
  Call.classify_checked h (fun _ => rfl) fun _ _ => rfl

theorem exec_pollWindow_of_open (h : Heard) (hw : WindowOpen s l (.poll n i) (.poll a)) :
    exec (.pollWindow l h) s = .next (((s.pollHeard l n i a ((Call.poll a).classify h)).endOp l).settle) := by
  simp only [exec, execPollWindow, LineState.window, hw, if_true, Call.address]

/-- The lines when a poll has been heard and its operation has ended. -/
def pollEnded (s : State) (l : Line) (es : List Entry) (ls : Line → LineState) (m : Line) : LineState :=
  cycleAfter s m es (countsLeft (if m = l then { ls m with op := none } else ls m))

/-- Whatever a poll brings, the operation ends and each line settles (R97, R98). -/
theorem exec_pollWindow_of_heard (hs : Settled s) (hw : WindowOpen s l (.poll n i) (.poll a))
    (hoff : (ls l).offOpen = false) (hclock : v.clock = s.clock) (hparams : v.params = s.params)
    (k : ∀ m, (s.line m).KeepsWork (ls m)) {evs : List Event} {rs : List Report}
    (hheard : s.pollHeard l n i a ((Call.poll a).classify h) = brought 0 evs ((v.withLines ls).closeAll rs)) :
    exec (.pollWindow l h) s =
      .next (brought 0 evs ((v.withLines (pollEnded s l v.roster ls)).closeAll rs)) := by
  have hline : (brought 0 evs ((v.withLines ls).closeAll rs)).line l = ls l := by
    rw [line_brought, State.line_closeAll, State.line_withLines]
  have hfree : Function.update ls l { ls l with op := none } = fun m => if m = l then { ls m with op := none } else ls m := by
    funext m
    by_cases hm : m = l
    · subst hm; simp
    · simp [hm]
  have hends : ∀ m, (s.line m).EndsWork ((fun m => if m = l then { ls m with op := none } else ls m) m) := fun m => by
    obtain ⟨hp, hc, hop⟩ := k m
    dsimp only
    split
    · exact .of_end hp hc rfl
    · exact .of_op hp hc hop
  rw [exec_pollWindow_of_open h hw, hheard, State.endOp_of_no_off (by rw [hline]; exact hoff), hline, ← brought_setLine,
    State.closeAll_setLine, State.withLines_setLine, hfree, settle_brought, State.settle_closeAll,
    State.settle_withLines hs hclock hparams hends]
  rfl

/-- A poll that changes the roster but nobody's binding, on its own line alone. -/
theorem exec_pollWindow_of_roster (hs : Settled s) (hw : WindowOpen s l (.poll n i) (.poll a))
    (hoff : (s.line l).offOpen = false) {es : List Entry}
    (hb : ∀ m k, ({ s with roster := es } : State).memberBound m k = s.memberBound m k) {evs : List Event} {k : LineCounters}
    (hheard : s.pollHeard l n i a ((Call.poll a).classify h) =
      brought 0 evs (({ s with roster := es } : State).setLine l { s.line l with counters := k })) :
    exec (.pollWindow l h) s = .next (brought 0 evs (({ s with roster := es } : State).setLine l
      (cycleAfter s l es { s.line l with op := none, counters := k }))) := by
  let L : LineState := { s.line l with counters := k }
  have hset : ∀ (u : State) M, u.line = s.line → u.setLine l M = u.withLines (Function.update s.line l M) := fun u M hu => by
    rw [State.setLine_eq_withLines, hu]
  have hthis : Function.update s.line l L l = L := Function.update_self ..
  have hother : ∀ m, m ≠ l → Function.update s.line l L m = s.line m := fun m hm => Function.update_of_ne hm ..
  have hwork : ∀ m, (s.line m).KeepsWork (Function.update s.line l L m) := fun m => by
    by_cases hm : m = l
    · subst hm
      rw [hthis]
      exact ⟨rfl, ⟨rfl, rfl, rfl⟩, rfl⟩
    · rw [hother m hm]
      exact ⟨rfl, ⟨rfl, rfl, rfl⟩, rfl⟩
  have hends : pollEnded s l es (Function.update s.line l L) =
      Function.update s.line l (cycleAfter s l es { L with op := none }) := by
    funext m
    have hwait := waitLaw_of_settled hs m
    by_cases hm : m = l
    · subst hm
      rw [Function.update_self, pollEnded, if_pos rfl, hthis,
        countsLeft_of_waitLaw (M := { L with op := none }) hwait rfl Iff.rfl rfl rfl]
    · rw [Function.update_of_ne hm, pollEnded, if_neg hm, hother m hm, countsLeft_of_waitLaw hwait rfl Iff.rfl rfl rfl]
      exact cycleAfter_of_settled hwait (hb m) rfl rfl
  have hlines : ({ s with roster := es } : State).line = s.line := funext fun m => State.line_with_roster ..
  rw [hset _ _ hlines] at hheard ⊢
  rw [exec_pollWindow_of_heard (v := { s with roster := es }) (rs := []) hs hw (by rw [hthis]; exact hoff) rfl rfl hwork
    hheard, hends]
  rfl

end

/-! ## The lines of an entry counted out -/

/-- The lines when an entry has been counted out with a window of the line `l` counted, before they settle. -/
abbrev outLines (s : State) (l : Line) (k : LineCounters) (e : Entry) (b lease : Nat) (m : Line) : LineState :=
  let L : LineState := if m = l then { s.line l with counters := k } else s.line m
  if m = e.line then { L with
    quarantine := insertRecord s.clock (quarantined s e.line b lease (outOrigin e)) (s.line e.line).quarantine
    nextSeq := (s.line e.line).nextSeq + 1
    queue := purged (s.line e.line).queue e.identity } else L

theorem outLines_keepsWork (s : State) (l : Line) (k : LineCounters) (e : Entry) (b lease : Nat) (m : Line) :
    (s.line m).KeepsWork (outLines s l k e b lease m) := by
  unfold outLines
  by_cases hm : m = e.line <;> by_cases hl : m = l
  · subst hl
    simp only [if_pos hm, if_true]
    exact ⟨rfl, ⟨rfl, rfl, rfl⟩, rfl⟩
  · simp only [if_pos hm, if_neg hl]
    exact ⟨rfl, ⟨rfl, rfl, rfl⟩, rfl⟩
  · subst hl
    simp only [if_neg hm, if_true]
    exact ⟨rfl, ⟨rfl, rfl, rfl⟩, rfl⟩
  · simp only [if_neg hm, if_neg hl]
    exact ⟨rfl, ⟨rfl, rfl, rfl⟩, rfl⟩

theorem outLines_openPower (s : State) (l : Line) (k : LineCounters) (e : Entry) (b lease : Nat) (m : Line) :
    (outLines s l k e b lease m).openPower = (s.line m).openPower := by
  unfold outLines
  by_cases hl : m = l
  · subst hl
    simp only [if_true]
    split <;> rfl
  · simp only [if_neg hl]
    split <;> rfl

/-- A line whose queue alone has changed has only the executor's count left to bring to 0. -/
theorem countsLeft_of_queue {s : State} {l : Line} (h : WaitLaw s l) {M : LineState}
    (hc : M.census = none ↔ (s.line l).census = none) (hp : M.passedC = (s.line l).passedC) :
    countsLeft M = { M with passedT := passedWith M M.queue } := by
  have hC : (if M.census = none then 0 else M.passedC) = M.passedC := by
    rw [hp, if_congr hc rfl rfl]
    exact passedC_of_waitLaw h
  rw [countsLeft, hC]

/-- The lines when the poll that counted an entry out has ended (R97, R98). -/
theorem pollEnded_outLines {s : State} (hs : Settled s) (l : Line) (es : List Entry) (k : LineCounters) (e : Entry)
    (b lease : Nat) :
    pollEnded s l es (outLines s l k e b lease) = fun m => cycleAfter s m es
      (let L : LineState := if m = l then { s.line l with op := none, counters := k } else s.line m
       if m = e.line then { L with
        quarantine := insertRecord s.clock (quarantined s e.line b lease (outOrigin e)) (s.line e.line).quarantine
        nextSeq := (s.line m).nextSeq + 1
        queue := purged (s.line e.line).queue e.identity
        passedT := passedWith (s.line m) (purged (s.line e.line).queue e.identity) } else L) := by
  funext m
  have hwait := waitLaw_of_settled hs m
  rw [pollEnded]
  congr 1
  unfold outLines
  by_cases hl : m = l
  · subst hl
    by_cases hm : m = e.line
    · simp only [if_pos hm, if_true]
      refine (countsLeft_of_queue hwait ?_ ?_).trans ?_
      · exact Iff.rfl
      · rfl
      · subst hm
        rfl
    · simp only [if_neg hm, if_true]
      exact countsLeft_of_waitLaw hwait rfl Iff.rfl rfl rfl
  · by_cases hm : m = e.line
    · simp only [if_pos hm, if_neg hl]
      refine (countsLeft_of_queue hwait ?_ ?_).trans ?_
      · exact Iff.rfl
      · rfl
      · subst hm
        rfl
    · simp only [if_neg hm, if_neg hl]
      exact countsLeft_of_waitLaw hwait rfl Iff.rfl rfl rfl

/-- A rise of the attention flag brings its event when attention_reports is on (R95). -/
theorem State.reportAttention_eq {s u : State} (hp : u.params = s.params) (hc : u.clock = s.clock) {l : Line} {e : Entry}
    {a : Address} {flag : Bool} :
    u.reportAttention l e a flag = brought 0
      (if flag = true ∧ e.attention = false ∧ s.params.attentionReports = 1 then [.attention e.identity l a s.clock]
        else []) u := by
  unfold State.reportAttention
  have hiff : (flag && !e.attention && u.params.attentionReports == 1) = true ↔
      flag = true ∧ e.attention = false ∧ s.params.attentionReports = 1 := by
    simp only [hp, Bool.and_eq_true, Bool.not_eq_true', beq_iff_eq, and_assoc]
  by_cases h : flag = true ∧ e.attention = false ∧ s.params.attentionReports = 1
  · rw [if_pos (hiff.mpr h), if_pos h, State.pushEvent_eq_brought, hc]
  · rw [if_neg (hiff.not.mpr h), if_neg h]
    rfl

/-! ## What a poll comes to -/

section
variable {s : State} {l : Line} {n : Nat} {i : Ident} {a b lease : Nat} {w : WindowClass} {e : Entry}

/-- The window counted, the rest of the poll's claim to come. -/
def counted (s : State) (l : Line) (w : WindowClass) (i : Ident) : State :=
  s.setLine l { s.line l with counters := windowCounted w i (s.line l).counters }

theorem roster_counted (s : State) (l : Line) (w : WindowClass) (i : Ident) : (counted s l w i).roster = s.roster :=
  State.setLine_roster ..

theorem params_counted (s : State) (l : Line) (w : WindowClass) (i : Ident) : (counted s l w i).params = s.params :=
  State.setLine_params ..

theorem clock_counted (s : State) (l : Line) (w : WindowClass) (i : Ident) : (counted s l w i).clock = s.clock :=
  State.setLine_clock ..

theorem entryOf_counted (s : State) (l : Line) (w : WindowClass) (i : Ident) (n : Nat) :
    (counted s l w i).entryOf n = s.entryOf n := by
  rw [State.entryOf, roster_counted]
  rfl

/-- A roster written into the state with its window counted. -/
theorem counted_with_roster (s : State) (l : Line) (w : WindowClass) (i : Ident) (es : List Entry) :
    ({ counted s l w i with roster := es } : State) = ({ s with roster := es } : State).setLine l
      { s.line l with counters := windowCounted w i (s.line l).counters } :=
  State.setLine_with_roster ..

variable (hw : w.Checked)
include hw

theorem State.countHeard (s : State) (l : Line) (i : Ident) :
    (s.countWindow l w).countMismatch l (mismatch w i) = counted s l w i := State.countHeard_eq s l hw i

/-- The STATUS of the polled member is an answered claim (R95). -/
theorem State.pollHeard_of_status (flag : Bool) (hwin : w = .valid (.status (checkWord i) flag)) (he : s.entryOf n = some e)
    (hb : e.standing.isBound = true) :
    s.pollHeard l n i a w = ((counted s l w i).answered n (some flag)).reportAttention l e a flag := by
  subst hwin
  unfold State.pollHeard
  rw [State.countHeard hw]
  simp only [if_true, entryOf_counted, he, hb]

/-- Anything else is a miss claim (R96). -/
theorem State.pollHeard_of_miss (hwin : ∀ flag, w ≠ .valid (.status (checkWord i) flag)) :
    s.pollHeard l n i a w = (counted s l w i).miss n .poll := by
  unfold State.pollHeard
  rw [State.countHeard hw]
  cases w with
  | silence => rfl
  | garbled => rfl
  | valid x =>
    cases x with
    | status c flag => exact if_neg fun hc => hwin flag (by rw [hc])
    | _ => rfl

/-- A claim for an entry that is not BOUND is ignored. -/
theorem State.pollHeard_of_unbound (hb : ∀ e, s.entryOf n = some e → e.standing.isBound = false) :
    s.pollHeard l n i a w = counted s l w i := by
  have hmiss : (counted s l w i).miss n .poll = counted s l w i := by
    unfold State.miss
    rw [entryOf_counted]
    cases he : s.entryOf n with
    | none => rfl
    | some e => simp only [hb e he, Bool.false_eq_true, if_false]
  by_cases hwin : ∃ flag, w = .valid (.status (checkWord i) flag)
  · obtain ⟨flag, rfl⟩ := hwin
    unfold State.pollHeard
    rw [State.countHeard hw]
    simp only [if_true, entryOf_counted]
    cases he : s.entryOf n with
    | none => rfl
    | some e => simp only [hb e he, Bool.false_eq_true, if_false]
  · rw [State.pollHeard_of_miss hw fun flag hf => hwin ⟨flag, hf⟩, hmiss]

omit hw

variable (hr : RosterLaw s) (he : s.entryOf n = some e) (hb : e.standing = .bound b lease)
include hr he hb

/-- A miss below the limit rises (R28). -/
theorem State.miss_counted (hlim : e.misses + 1 < s.params.missLimit) (c : LossCause) :
    (counted s l w i).miss n c =
      ({ s with roster := withEntry e.identity (fun x => { x with misses := x.misses + 1 }) s.roster } : State).setLine l
        { s.line l with counters := windowCounted w i (s.line l).counters } := by
  obtain ⟨hmem, rfl⟩ := State.mem_of_entryOf he
  have hbound : e.standing.isBound = true := by rw [hb]; rfl
  have hnot : ¬(counted s l w i).params.missLimit ≤ e.misses + 1 := by
    rw [params_counted]
    omega
  simp only [State.miss, entryOf_counted, he, hbound, if_true, if_neg hnot, State.updEntry]
  rw [roster_counted, hr.map_serial hmem fun x => { x with misses := x.misses + 1 }, counted_with_roster]

omit hr in
/-- A miss at the limit counts the entry out and brings its NODE_LOST (R29, R97). -/
theorem State.miss_counted_out (hlim : s.params.missLimit ≤ e.misses + 1) (c : LossCause) :
    (counted s l w i).miss n c = brought 0 (lossOf e b c) ((counted s l w i).countOut e) := by
  obtain ⟨hmem, rfl⟩ := State.mem_of_entryOf he
  have hbound : e.standing.isBound = true := by rw [hb]; rfl
  have hlim' : (counted s l w i).params.missLimit ≤ e.misses + 1 := by rw [params_counted]; exact hlim
  have hloss : e.lossEvents c = lossOf e b c := by
    unfold Entry.lossEvents lossOf
    cases hf : e.forgetting <;> simp [hb]
  simp only [State.miss, entryOf_counted, he, hbound, if_true, if_pos hlim']
  rw [State.pushLineEvents_eq_brought, hloss]

/-- An answer sets the entry's fields (R28). -/
theorem State.answered_counted (flag : Bool) :
    (counted s l w i).answered n (some flag) =
      ({ s with roster := withEntry e.identity (fun x => { x with
          misses := 0, lastSeen := s.clock, attention := flag }) s.roster } : State).setLine l
        { s.line l with counters := windowCounted w i (s.line l).counters } := by
  obtain ⟨hmem, rfl⟩ := State.mem_of_entryOf he
  have hroster : ((counted s l w i).roster.map fun x => if x.serial = e.serial then
      if x.standing.isBound then { x with misses := 0, lastSeen := (counted s l w i).clock, attention := flag } else x
      else x) = withEntry e.identity (fun x => { x with misses := 0, lastSeen := s.clock, attention := flag }) s.roster := by
    rw [roster_counted, clock_counted]
    refine List.map_congr_left fun x hx => ?_
    rw [if_congr (hr.serial_iff hx hmem) rfl rfl]
    split
    · rename_i hid
      obtain rfl := hr.identity_inj hx hmem hid
      exact if_pos (by rw [hb]; rfl)
    · rfl
  simp only [State.answered, State.updEntry, Option.getD_some]
  rw [hroster, counted_with_roster]

/-- The answered claim, with its ATTENTION when the flag rises. -/
theorem State.pollHeard_answered (hw : w.Checked) {flag : Bool} (hwin : w = .valid (.status (checkWord e.identity) flag)) :
    s.pollHeard l n e.identity a w = brought 0
      (if flag = true ∧ e.attention = false ∧ s.params.attentionReports = 1 then [.attention e.identity l a s.clock] else [])
      (({ s with roster := withEntry e.identity (fun x => { x with
          misses := 0, lastSeen := s.clock, attention := flag }) s.roster } : State).setLine l
        { s.line l with counters := windowCounted w e.identity (s.line l).counters }) := by
  rw [State.pollHeard_of_status hw flag hwin he (by rw [hb]; rfl), State.answered_counted hr he hb]
  refine State.reportAttention_eq (s := s) ?_ ?_
  · exact State.setLine_params ..
  · exact State.setLine_clock ..

/-- The entry of a miss at the limit counted out, on whichever line it is BOUND (R29). -/
theorem State.countOut_windowed : (counted s l w i).countOut e =
    (({ s with roster := countedOut e b s.roster } : State).withLines
      (outLines s l (windowCounted w i (s.line l).counters) e b lease)).closeAll (outReports (s.line e.line).queue e) := by
  obtain ⟨hmem, rfl⟩ := State.mem_of_entryOf he
  let K : LineState := { s.line l with counters := windowCounted w i (s.line l).counters }
  have hline : ∀ m, (counted s l w i).line m = if m = l then K else s.line m := fun m => by
    split
    · subst m
      exact State.line_setLine ..
    · exact State.line_setLine_of_ne _ ‹_› _
  have hfields : ∀ m, ((counted s l w i).line m).quarantine = (s.line m).quarantine ∧
      ((counted s l w i).line m).nextSeq = (s.line m).nextSeq ∧ ((counted s l w i).line m).queue = (s.line m).queue := by
    intro m
    rw [hline]
    split
    · subst m
      exact ⟨rfl, rfl, rfl⟩
    · exact ⟨rfl, rfl, rfl⟩
  obtain ⟨hquarantine, hseq, hqueue⟩ := hfields e.line
  have hout : outLine (counted s l w i) e b lease = { (if e.line = l then K else s.line e.line) with
      quarantine := insertRecord s.clock (quarantined s e.line b lease (outOrigin e)) (s.line e.line).quarantine
      nextSeq := (s.line e.line).nextSeq + 1
      queue := purged (s.line e.line).queue e.identity } := by
    simp only [outLine, quarantined, hquarantine, hseq, hqueue, clock_counted, params_counted]
    rw [hline]
  have hlines : ({ s with roster := countedOut e b s.roster } : State).line = s.line := funext fun m => State.line_with_roster ..
  rw [State.countOut_of_bound (hr.of_eq (roster_counted ..) (State.setLine_nextSerial ..))
    (by rw [roster_counted]; exact hmem) hb, roster_counted, counted_with_roster, hqueue, hout,
    State.setLine_eq_withLines _ l, State.withLines_setLine, hlines]
  refine congrArg (fun ls => (State.withLines _ ls).closeAll _) (funext fun m => ?_)
  by_cases hm : m = e.line
  · subst hm
    rw [Function.update_self, outLines, if_pos rfl]
  · rw [Function.update_of_ne hm, outLines, if_neg hm]
    by_cases hl : m = l
    · subst hl
      rw [Function.update_self, if_pos rfl]
    · rw [Function.update_of_ne hl, if_neg hl]

end

/-! ## Every poll that ends its cycle -/

/-- What a poll's claim has come to before its operation ends: no work of a line lost or won, nobody newly BOUND. -/
structure PollClaim (s : State) (l : Line) (v : State) (ls : Line → LineState) : Prop where
  clock : v.clock = s.clock
  params : v.params = s.params
  work : ∀ m, (s.line m).KeepsWork (ls m)
  power : (ls l).openPower = (s.line l).openPower
  overruns : (ls l).counters.overruns = (s.line l).counters.overruns
  bound : ∀ n, v.memberBound l n = true → s.memberBound l n = true

theorem overruns_windowCounted (w : WindowClass) (i : Ident) (k : LineCounters) :
    (windowCounted w i k).overruns = k.overruns := by
  cases w with
  | silence => rfl
  | garbled => rfl
  | valid x =>
    cases x with
    | stub _ | identity _ _ => rfl
    | ack c | status c _ | data c _ | refusal c _ =>
      simp only [windowCounted]
      split <;> rfl

/-- A claim that changes the entries' fields only. -/
theorem PollClaim.of_roster (s : State) (l : Line) (w : WindowClass) (i : Ident) {es : List Entry}
    (hb : ∀ m k, ({ s with roster := es } : State).memberBound m k = s.memberBound m k) :
    PollClaim s l { s with roster := es }
      (Function.update s.line l { s.line l with counters := windowCounted w i (s.line l).counters }) where
  clock := rfl
  params := rfl
  work m := by
    by_cases hm : m = l
    · subst hm
      rw [Function.update_self]
      exact ⟨rfl, ⟨rfl, rfl, rfl⟩, rfl⟩
    · rw [Function.update_of_ne hm]
      exact ⟨rfl, ⟨rfl, rfl, rfl⟩, rfl⟩
  power := by rw [Function.update_self]
  overruns := by rw [Function.update_self]; exact overruns_windowCounted ..
  bound n h := hb l n ▸ h

/-- A claim that counts an entry out. -/
theorem PollClaim.of_out {s : State} (hr : RosterLaw s) {e : Entry} (he : e ∈ s.roster) (b lease : Nat) (l : Line)
    (w : WindowClass) (i : Ident) : PollClaim s l { s with roster := countedOut e b s.roster }
      (outLines s l (windowCounted w i (s.line l).counters) e b lease) where
  clock := rfl
  params := rfl
  work := outLines_keepsWork s l _ e b lease
  power := outLines_openPower s l _ e b lease l
  overruns := by
    unfold outLines
    simp only [if_true]
    split <;> exact overruns_windowCounted ..
  bound n h := by
    obtain ⟨x, hx, hn⟩ := List.any_eq_true.mp h
    rcases mem_countedOut hr.2.1 he hx with ⟨hmem, -⟩ | ⟨-, rfl⟩
    · exact List.any_eq_true.mpr ⟨x, hmem, hn⟩
    · simp [Entry.boundOn, Standing.isBound] at hn

/-- Every poll's claim is one of these. -/
theorem State.pollHeard_claims {s : State} {l : Line} {n : Nat} {i : Ident} {a : Nat} {w : WindowClass} (hw : w.Checked)
    (hr : RosterLaw s) : ∃ v ls evs rs, PollClaim s l v ls ∧
      s.pollHeard l n i a w = brought 0 evs ((v.withLines ls).closeAll rs) := by
  have hset : ∀ (es : List Entry) L, ({ s with roster := es } : State).setLine l L =
      (({ s with roster := es } : State).withLines (Function.update s.line l L)).closeAll [] := fun es L => by
    rw [State.setLine_eq_withLines]
    rfl
  by_cases hbound : ∃ e b lease, s.entryOf n = some e ∧ e.standing = .bound b lease
  · obtain ⟨e, b, lease, he, hb⟩ := hbound
    by_cases hwin : ∃ flag, w = .valid (.status (checkWord i) flag)
    · obtain ⟨flag, hflag⟩ := hwin
      refine ⟨_, _, if flag = true ∧ e.attention = false ∧ s.params.attentionReports = 1 then
          [.attention e.identity l a s.clock] else [], [], .of_roster s l w i (es := withEntry e.identity (fun x => { x with
        misses := 0, lastSeen := s.clock, attention := flag }) s.roster)
        (Beside.withEntry s e.identity (f := fun x => { x with
          misses := 0, lastSeen := s.clock, attention := flag }) fun _ => ⟨rfl, rfl, rfl⟩).bound, ?_⟩
      rw [State.pollHeard_of_status hw flag hflag he (by rw [hb]; rfl), State.answered_counted hr he hb]
      refine (State.reportAttention_eq (s := s) ?_ ?_).trans ?_
      · exact State.setLine_params ..
      · exact State.setLine_clock ..
      · exact congrArg (brought 0 _) (hset _ _)
    · rw [State.pollHeard_of_miss hw fun flag hf => hwin ⟨flag, hf⟩]
      rcases Nat.lt_or_ge (e.misses + 1) s.params.missLimit with hlim | hlim
      · refine ⟨_, _, [], [], .of_roster s l w i (es := withEntry e.identity (fun x => { x with
          misses := x.misses + 1 }) s.roster) (Beside.withEntry s e.identity
          (f := fun x => { x with misses := x.misses + 1 }) fun _ => ⟨rfl, rfl, rfl⟩).bound, ?_⟩
        rw [State.miss_counted hr he hb hlim, hset]
        rfl
      · exact ⟨_, _, _, _, .of_out hr (State.mem_of_entryOf he).1 b lease l w i, by rw [State.miss_counted_out he hb hlim, State.countOut_windowed hr he hb]⟩
  · have hnot : ∀ e, s.entryOf n = some e → e.standing.isBound = false := fun e he => by
      cases hstanding : e.standing with
      | bound b lease => exact absurd ⟨e, b, lease, he, hstanding⟩ hbound
      | lost _ => rfl
      | unbound => rfl
    refine ⟨_, _, [], [], .of_roster s l w i (es := s.roster) fun _ _ => rfl, ?_⟩
    rw [State.pollHeard_of_unbound hw hnot]
    exact hset s.roster _

/-- A cycle that has nothing left to do finishes (R98, R99). -/
theorem cycleAfter_finishes {s : State} {l : Line} {es : List Entry} {L : LineState} {c : PollCycle} (hpoll : L.poll = some c)
    (hrun : c.running = true) (hprog : L.pollInProgress = false) (hleft : NoneLeft s l es c) :
    cycleAfter s l es L = { L with
      passedP := 0
      poll := some (if c.late = true then cycleFrom l s.clock s.params.pollPeriod es
        else { c with running := false, remaining := [] })
      counters := if c.late = true then { L.counters with overruns := L.counters.overruns + 1 } else L.counters } := by
  simp only [cycleAfter, hpoll]
  rw [if_pos ⟨hrun, hprog, hleft⟩]

/-- The line of a poll that leaves its cycle nothing to do. -/
theorem pollEnded_finishes {s v : State} {l : Line} {ls : Line → LineState} {c : PollCycle} (k : PollClaim s l v ls)
    (hpoll : (s.line l).poll = some c) (hrun : c.running = true) (hnone : ∀ n ∈ c.remaining, s.memberBound l n = false) :
    let L := pollEnded s l v.roster ls l
    L.op = none ∧ L.passedP = 0 ∧
      L.poll = some (if c.late = true then cycleFrom l s.clock s.params.pollPeriod v.roster
        else { c with running := false, remaining := [] }) ∧
      L.counters.overruns = (s.line l).counters.overruns + if c.late = true then 1 else 0 := by
  have hpoll' : (ls l).poll = some c := (k.work l).1.trans hpoll
  have hleft : NoneLeft s l v.roster c := fun n hn => by
    by_contra hbound
    exact absurd (k.bound n (Bool.eq_true_of_not_eq_false hbound)) (by rw [hnone n hn]; exact Bool.false_ne_true)
  intro L
  have hL : L = _ := (congrArg (cycleAfter s l v.roster) (congrArg countsLeft (if_pos rfl))).trans
    (cycleAfter_finishes (L := countsLeft { ls l with op := none }) hpoll' hrun rfl hleft)
  rw [hL]
  refine ⟨rfl, rfl, rfl, ?_⟩
  by_cases hlate : c.late = true
  · simp only [if_pos hlate, k.overruns]
  · simp only [if_neg hlate]
    exact k.overruns.trans (BitVec.add_zero _).symm

end Sys2Proof.Machine
open Sys2Proof.Machine Sys2Proof.Statements

/-- Settles O46: the claim by the entry's standing and by what is heard, then the cycle. -/
theorem pollIsAnsweredMissedOrLost : Obligations.PollIsAnsweredMissedOrLost := by
  intro s l n i a h hs hw hoff w after
  have hchecked : w.Checked := checked_of_poll
  refine ⟨fun hb => ?_, fun e b lease hr he hi hb => ⟨fun flag hflag => ?_, fun hmiss => ⟨fun hlim => ?_, fun hlim => ?_⟩⟩⟩
  · exact exec_pollWindow_of_roster (es := s.roster) (evs := []) hs hw hoff (fun _ _ => rfl)
      (State.pollHeard_of_unbound hchecked hb)
  · subst hi
    have hheard := State.pollHeard_answered (l := l) (a := a) hr he hb hchecked hflag
    have hexec := exec_pollWindow_of_roster hs hw hoff (fun m k => (Beside.withEntry s e.identity
      (f := fun x => { x with misses := 0, lastSeen := s.clock, attention := flag }) fun _ => ⟨rfl, rfl, rfl⟩).bound m k) hheard
    refine ⟨fun hrise => ?_, fun hquiet => ?_⟩
    · rwa [if_pos hrise] at hexec
    · have hnot : ¬(flag = true ∧ e.attention = false ∧ s.params.attentionReports = 1) := by
        rintro ⟨rfl, hatt, hon⟩
        rcases hquiet with h | h | h
        · exact nomatch h
        · exact Bool.noConfusion (hatt.symm.trans h)
        · omega
      rwa [if_neg hnot] at hexec
  · subst hi
    have hheard := (State.pollHeard_of_miss (l := l) (n := n) (a := a) hchecked hmiss).trans
      (State.miss_counted hr he hb hlim .poll)
    exact exec_pollWindow_of_roster (evs := []) hs hw hoff (fun m k => (Beside.withEntry s e.identity
      (f := fun x => { x with misses := x.misses + 1 }) fun _ => ⟨rfl, rfl, rfl⟩).bound m k) hheard
  · subst hi
    intro rs queue roster hopen
    refine ⟨_, oneMore_insertRecord _ _ _, ?_⟩
    have hheard := (State.pollHeard_of_miss (l := l) (n := n) (a := a) hchecked hmiss).trans
      ((State.miss_counted_out he hb hlim .poll).trans
        (congrArg (brought 0 _) (State.countOut_windowed (l := l) (w := w) (i := e.identity) hr he hb)))
    have hwork : ∀ m, (s.line m).KeepsWork (outLines s l (windowCounted w e.identity (s.line l).counters) e b lease m) :=
      outLines_keepsWork s l _ e b lease
    have hpower : (outLines s l (windowCounted w e.identity (s.line l).counters) e b lease l).offOpen = false := by
      rw [LineState.offOpen, outLines_openPower]
      exact hoff
    rw [exec_pollWindow_of_heard (v := { s with roster := countedOut e b s.roster }) hs hw hpower rfl rfl hwork hheard,
      ← State.closeAll_withLines, State.closeAll_eq_closes (s := { s with roster := countedOut e b s.roster }) hopen,
      pollEnded_outLines hs]
    rfl

/-- Settles O47: the due time by the scheduler's phase, and the cycle that any last poll finishes. -/
theorem cyclesStartAtDueTimeAndFinish : Obligations.CyclesStartAtDueTimeAndFinish := by
  intro s l
  refine ⟨fun h => ?_, fun c hc hdue => ⟨fun hrun => ?_, fun hidle => ?_⟩,
    fun c n i a h hs hr hpoll hrun hnone hw hoff => ?_⟩
  · simp only [exec, execPollDue, h]
  · simp only [exec, execPollDue, hc, if_pos hrun]
    rw [State.passTo_eq (by omega), State.modLine, State.line_with_clock]
  · simp only [exec, execPollDue, hc, hidle, Bool.false_eq_true, if_false]
    rw [State.passTo_eq (by omega), State.startCycle_eq, State.line_with_clock]
  · obtain ⟨v, ls, evs, rs, k, hheard⟩ := State.pollHeard_claims (n := n) (i := i) (a := a)
      (w := (Call.poll a).classify h) (l := l) checked_of_poll hr
    refine ⟨_, exec_pollWindow_of_heard hs hw ?_ k.clock k.params k.work hheard, ?_, ?_⟩
    · rw [LineState.offOpen, k.power]
      exact hoff
    · rw [brought_clock, State.closeAll_clock]
      exact k.clock
    · rw [line_brought, State.line_closeAll, State.line_withLines, brought_roster, State.closeAll_roster]
      exact pollEnded_finishes k hpoll hrun hnone
end

section
/-! The windows of the attempts of a record (R35, R111 to R114, R116, R119): what the target answers or not closes the record
or keeps it at the head, and the line is free. -/

namespace Sys2Proof.Machine

open Sys2Proof.Statements

/-! ## The end of an attempt -/

section
variable {s : State} {l : Line} {call : Call} (hs : Settled s) (hw : WindowOpen s l .attempt call)
include hs hw

/-- While an attempt is in flight the executor does not wait. -/
theorem passedT_of_attempt : (s.line l).passedT = 0 :=
  (waitLaw_iff.mp (waitLaw_of_settled hs l)).1.1 (by
    simp [State.waitsT, LineState.attemptInFlight, hw, LineOp.isAttempt])

/-- The line of an attempt once its window is judged: counters, queue, pool and quarantine may have changed. -/
abbrev attemptLine (L : LineState) (k : LineCounters) (queue : List Txn) (pool : List Address)
    (quarantine : List QuarantineRec) (n : Nat) : LineState :=
  { L with counters := k, queue := queue, pool := pool, quarantine := quarantine, nextSeq := n }

/-- Whatever the judgement brings, the claim settles and the line is free (R98, R130). -/
theorem State.endOp_settle_attempt (hoff : (s.line l).offOpen = false) {es : List Entry}
    (hb : ∀ m, m ≠ l → ∀ n, s.memberBound m n = true → ({ s with roster := es } : State).memberBound m n = true)
    (k : LineCounters) (queue : List Txn) (pool : List Address) (quarantine : List QuarantineRec) (n : Nat)
    (evs : List Event) (rs : List Report) :
    (brought 0 evs ((({ s with roster := es } : State).setLine l
      (attemptLine (s.line l) k queue pool quarantine n)).closeAll rs)).settle.endOp l =
      brought 0 evs ((({ s with roster := es } : State).setLine l
        (cycleAfter s l es { attemptLine (s.line l) k queue pool quarantine n with op := none })).closeAll rs) := by
  let L := attemptLine (s.line l) k queue pool quarantine n
  let v : State := { s with roster := es }
  have hwork : (s.line l).EndsWork L := .of_op rfl ⟨rfl, rfl, rfl⟩ rfl
  have hcounts : countsLeft L = L := by
    have hT : passedWith L queue = (s.line l).passedT := by
      rw [passedWith, passedT_of_attempt hs hw]
      exact ite_self 0
    have hC := passedC_of_waitLaw (waitLaw_of_settled hs l)
    simp only [countsLeft, L, hT]
    rw [hC]
  have hsettle : (v.setLine l L).settle = v.setLine l (cycleAfter s l es L) := by
    rw [State.settle_setLine_of_work (v := v) hs rfl rfl hwork
      (fun m _ => by rw [State.line_with_roster]; exact .refl _) hb, hcounts]
  have hprog : L.pollInProgress = false := by
    simp [L, LineState.pollInProgress, hw, LineOp.isPoll]
  have hfree : ({ cycleAfter s l es L with op := none } : LineState) = cycleAfter s l es { L with op := none } := by
    have h := cycleAfter_with_op (s := s) (l := l) (es := es) (L := L) (o := none) hprog rfl L.census
    rw [h, ← (cycleAfter_keeps s l es L).1]
  have hline : (brought 0 evs ((v.setLine l (cycleAfter s l es L)).closeAll rs)).line l = cycleAfter s l es L := by
    rw [line_brought, State.line_closeAll, State.line_setLine]
  rw [settle_brought, State.settle_closeAll, hsettle, State.endOp_of_no_off (by
    rw [hline, LineState.offOpen, (cycleAfter_keeps s l es L).2.1]
    exact hoff), hline, ← brought_setLine, State.closeAll_setLine, State.setLine_setLine, hfree]

/-- A judgement that leaves every binding finishes no cycle. -/
theorem State.endOp_settle_attempt_of_bound (hoff : (s.line l).offOpen = false) {es : List Entry}
    (hb : ∀ m n, s.memberBound m n = true → ({ s with roster := es } : State).memberBound m n = true)
    (k : LineCounters) (queue : List Txn) (rs : List Report) :
    ((({ s with roster := es } : State).setLine l { s.line l with counters := k, queue := queue }).closeAll rs).settle.endOp l =
      (({ s with roster := es } : State).setLine l
        { s.line l with op := none, counters := k, queue := queue }).closeAll rs := by
  have hprog : (s.line l).pollInProgress = false := by
    simp [LineState.pollInProgress, hw, LineOp.isPoll]
  refine (State.endOp_settle_attempt hs hw hoff (es := es) (fun m _ => hb m) k queue (s.line l).pool (s.line l).quarantine
    (s.line l).nextSeq [] rs).trans ?_
  rw [cycleAfter_of_mono (L := { s.line l with op := none, counters := k, queue := queue }) (waitLaw_of_settled hs l)
    (fun n => hb l n) rfl hprog.symm]
  rfl

end

/-! ## The window of an attempt -/

section
variable {s : State} {l : Line} {call : Call} {h : Heard}

theorem checked_of_attempt (hcall : call.isReadWrite = true ∨ call.isRelease = true) : (call.classify h).Checked :=
  Call.classify_checked h (fun _ => by cases call <;> simp [Call.isReadWrite, Call.isRelease, Call.admits] at hcall ⊢)
    fun _ _ => by cases call <;> simp [Call.isReadWrite, Call.isRelease, Call.admits] at hcall ⊢

theorem exec_attemptWindow_of_open (hw : WindowOpen s l .attempt call) (hcall : call.isReadWrite = true) :
    exec (.attemptWindow l h) s = .next ((s.attemptHeard l (call.classify h)).settle.endOp l) := by
  simp only [exec, execAttemptWindow, LineState.window, hw, if_true, LineOp.isAttempt, hcall, Bool.and_self]

theorem exec_releaseWindow_of_open (hw : WindowOpen s l .attempt call) (hcall : call.isRelease = true) :
    exec (.releaseWindow l h) s = .next ((s.releaseHeard l (call.classify h)).settle.endOp l) := by
  simp only [exec, execReleaseWindow, LineState.window, hw, if_true, LineOp.isAttempt, hcall, Bool.and_self]

/-- A window handed to nothing is classed and counted (R115, R121). -/
theorem State.endOp_settle_countWindow (hs : Settled s) (hw : WindowOpen s l .attempt call)
    (hoff : (s.line l).offOpen = false) (w : WindowClass) :
    (s.countWindow l w).settle.endOp l =
      s.setLine l { s.line l with op := none, counters := classCounted w (s.line l).counters } := by
  rw [State.countWindow_eq]
  exact State.endOp_settle_attempt_of_bound hs hw hoff (es := s.roster) (fun _ _ h => h) _ (s.line l).queue []

/-! ## The record of an attempt -/

theorem State.setQueue_setLine (v : State) (l : Line) (L : LineState) (queue : List Txn) :
    (v.setLine l L).setQueue l queue = v.setLine l { L with queue := queue } := by
  rw [State.setQueue, State.modLine_eq_setLine, State.line_setLine, State.setLine_setLine]

/-- What the CLOSED of a READ or WRITE says (R114). -/
abbrev closing (r : Txn) (stored : Stored) (bytes : Option (List Byte)) (code : Option RefusalCode) : CloseResult :=
  match r.work with
  | .read _ _ => .read r.attempts bytes code
  | _ => .write r.attempts stored code

/-- A READ or WRITE out of its queue closes (R36, R114). -/
theorem State.closeTxn_eq_closing (s : State) {r : Txn} (hw : r.work ≠ .release) (o : CloseOutcome)
    (bytes : Option (List Byte)) (code : Option RefusalCode) :
    s.closeTxn r o bytes code = ({ s with roster := lessPending r.target s.roster } : State).closeAll
      [report r.tag (.closed o (closing r (if o = .done then .yes else r.stored) bytes code))] := by
  unfold State.closeTxn closing
  cases hwork : r.work with
  | read off len => rfl
  | write off bs => rfl
  | release => exact absurd hwork hw

/-- An attempt that was heard leaves the record unsure only by the unheard ones before it (R114). -/
theorem stored_of_heard (r : Txn) : ({ r with inFlight := false } : Txn).stored = if r.unheard = 0 then .no else .unknown := by
  simp [Txn.stored]

theorem stored_of_unheard (r : Txn) (b : Bool) : ({ r with inFlight := b, unheard := r.unheard + 1 } : Txn).stored = .unknown := by
  simp [Txn.stored]

/-! ## What an attempt comes to -/

section
variable {r : Txn} {rest : List Txn} {w : WindowClass} (hq : (s.line l).queue = r :: rest)
  (hflight : r.inFlight = true)
include hq hflight

theorem State.attemptHeard_of_flight (w : WindowClass) :
    s.attemptHeard l w = (s.countWindow l w).attemptJudged l r rest w := by
  have hqueue : ((s.countWindow l w).line l).queue = r :: rest := by
    rw [State.countWindow_eq, State.line_setLine]
    exact hq
  unfold State.attemptHeard
  simp only [hqueue, hflight, if_true]

theorem State.releaseHeard_of_flight (w : WindowClass) :
    s.releaseHeard l w = (s.countWindow l w).releaseJudged l r rest w := by
  have hqueue : ((s.countWindow l w).line l).queue = r :: rest := by
    rw [State.countWindow_eq, State.line_setLine]
    exact hq
  unfold State.releaseHeard
  simp only [hqueue, hflight, if_true]

variable (hw : w.Checked)
include hw

/-- The judgements of an attempt (R111). -/
theorem State.attemptHeard_of_finished {bytes : Option (List Byte)} (hj : judge w r.target = .finished bytes) :
    s.attemptHeard l w = (((counted s l w r.target).answeredNamed r.target).setQueue l rest).closeTxn
      { r with inFlight := false } .done bytes none := by
  rw [State.attemptHeard_of_flight hq hflight, State.attemptJudged, State.countHeard hw]
  simp only [hj]

theorem State.attemptHeard_of_refused {c : RefusalCode} (hj : judge w r.target = .refused c) :
    s.attemptHeard l w = (((counted s l w r.target).answeredNamed r.target).setQueue l rest).closeTxn
      { r with inFlight := false } .nodeRefused none (some c) := by
  rw [State.attemptHeard_of_flight hq hflight, State.attemptJudged, State.countHeard hw]
  simp only [hj]

theorem State.attemptHeard_of_busy (hj : judge w r.target = .busy) :
    s.attemptHeard l w = ((counted s l w r.target).answeredNamed r.target).retryOrClose l
      { r with inFlight := false } rest .nodeBusy := by
  rw [State.attemptHeard_of_flight hq hflight, State.attemptJudged, State.countHeard hw]
  simp only [hj]

theorem State.attemptHeard_of_unheard (hj : judge w r.target = .unheard) :
    s.attemptHeard l w = (counted s l w r.target).retryOrClose l
      { r with inFlight := false, unheard := r.unheard + 1 } rest .noAnswer := by
  rw [State.attemptHeard_of_flight hq hflight, State.attemptJudged, State.countHeard hw]
  simp only [hj]

end

/-! ## The entry of an attempt -/

/-- An entry of the roster is found by its serial. -/
theorem RosterLaw.entryOf_of_mem {u : State} (hr : RosterLaw u) {e : Entry} (he : e ∈ u.roster) :
    u.entryOf e.serial = some e := by
  cases hentry : u.entryOf e.serial with
  | none => exact absurd (List.find?_eq_none.mp hentry e he) (by simp)
  | some x =>
    obtain ⟨hx, hserial⟩ := State.mem_of_entryOf hentry
    rw [hr.serial_inj hx he hserial]

section
variable {u : State} {i : Ident} {e : Entry} {a lease : Nat} (hr : RosterLaw u) (he : u.lookup i = some e)
  (hb : e.standing = .bound a lease)
include hr he hb

/-- An answer names its entry (R28). -/
theorem State.answeredNamed_of_bound : u.answeredNamed i = { u with
    roster := withEntry i (fun x => { x with misses := 0, lastSeen := u.clock }) u.roster } := by
  obtain ⟨hmem, rfl⟩ := State.mem_of_lookup he
  have hroster : (u.roster.map fun x => if x.serial = e.serial then
      if x.standing.isBound then { x with misses := 0, lastSeen := u.clock } else x else x) =
      withEntry e.identity (fun x => { x with misses := 0, lastSeen := u.clock }) u.roster := by
    refine List.map_congr_left fun x hx => ?_
    rw [if_congr (hr.serial_iff hx hmem) rfl rfl]
    split
    · obtain rfl := hr.identity_inj hx hmem ‹_›
      exact if_pos (by rw [hb]; rfl)
    · rfl
  simp only [State.answeredNamed, he, State.answered, State.updEntry, Option.getD_none]
  rw [hroster]

/-- A miss below the limit (R28). -/
theorem State.missNamed_of_below (hlim : e.misses + 1 < u.params.missLimit) (c : LossCause) :
    u.missNamed i c = { u with roster := withEntry i (fun x => { x with misses := x.misses + 1 }) u.roster } := by
  obtain ⟨hmem, rfl⟩ := State.mem_of_lookup he
  have hbound : e.standing.isBound = true := by rw [hb]; rfl
  have hentry : u.entryOf e.serial = some e := RosterLaw.entryOf_of_mem hr hmem
  simp only [State.missNamed, he, State.miss, hentry, hbound, if_true, if_neg (Nat.not_le.mpr hlim), State.updEntry]
  rw [hr.map_serial hmem fun x => { x with misses := x.misses + 1 }]

/-- A miss at the limit (R29, R97). -/
theorem State.missNamed_of_limit (hlim : u.params.missLimit ≤ e.misses + 1) (c : LossCause) :
    u.missNamed i c = brought 0 (lossOf e a c) (u.countOut e) := by
  obtain ⟨hmem, rfl⟩ := State.mem_of_lookup he
  have hbound : e.standing.isBound = true := by rw [hb]; rfl
  have hentry : u.entryOf e.serial = some e := RosterLaw.entryOf_of_mem hr hmem
  have hloss : e.lossEvents c = lossOf e a c := by
    unfold Entry.lossEvents lossOf
    cases hf : e.forgetting <;> simp [hb]
  simp only [State.missNamed, he, State.miss, hentry, hbound, if_true, if_pos hlim]
  rw [State.pushLineEvents_eq_brought, hloss]

end

/-! ## Records that stay and records that close -/

section
variable {es : List Entry} {rest : List Txn} {k : LineCounters} (hs : Settled s) (hwin : WindowOpen s l .attempt call)
  (hcall : call.isReadWrite = true) (hoff : (s.line l).offOpen = false)
  (hes : ∀ m n, s.memberBound m n = true → ({ s with roster := es } : State).memberBound m n = true)
include hs hwin hcall hoff hes

/-- An attempt that leaves its record at the head. -/
theorem exec_attemptWindow_of_staying {x : Txn} (hheard : s.attemptHeard l (call.classify h) =
      (({ s with roster := es } : State).setLine l { s.line l with counters := k }).setQueue l (x :: rest)) :
    exec (.attemptWindow l h) s = .next (({ s with roster := es } : State).setLine l
      { s.line l with op := none, counters := k, queue := x :: rest }) := by
  rw [exec_attemptWindow_of_open hwin hcall, hheard, State.setQueue_setLine]
  exact congrArg _ (State.endOp_settle_attempt_of_bound hs hwin hoff hes k (x :: rest) [])

/-- An attempt that closes its record. -/
theorem exec_attemptWindow_of_closing {x : Txn} (hwork : x.work ≠ .release) {front back : List Req} {q : Req}
    (hopen : OpenAt s x.tag front q back) {o : CloseOutcome} {bytes : Option (List Byte)} {code : Option RefusalCode}
    (hheard : s.attemptHeard l (call.classify h) =
      ((({ s with roster := es } : State).setLine l { s.line l with counters := k }).setQueue l rest).closeTxn x o bytes
        code) :
    exec (.attemptWindow l h) s = .next (({ s with
      roster := lessPending x.target es
      table := front ++ back
      stop := stopLeft s (front ++ back = [])
      reports := s.reports ++ [report x.tag (.closed o (closing x (if o = .done then .yes else x.stored) bytes code))] ++
        stopClosed s (front ++ back = []) } : State).setLine l
      { s.line l with op := none, counters := k, queue := rest }) := by
  have hbound : ∀ m n, s.memberBound m n = true →
      ({ s with roster := lessPending x.target es } : State).memberBound m n = true := fun m n hmn =>
    ((Beside.lessPending { s with roster := es } x.target).bound m n).trans (hes m n hmn)
  rw [exec_attemptWindow_of_open hwin hcall, hheard, State.setQueue_setLine, State.closeTxn_eq_closing _ hwork,
    State.setLine_roster, State.setLine_with_roster, State.endOp_settle_attempt_of_bound hs hwin hoff hbound,
    State.setLine_closeAll_of_openAt (v := { s with roster := lessPending x.target es }) hopen]

end

/-! ## A marked record, a retry, a last attempt -/

theorem State.retryOrClose_of_halt (u : State) (l : Line) {r : Txn} (rest : List Txn) (o : CloseOutcome) {m : Halt}
    (hm : r.halt = some m) : u.retryOrClose l r rest o = (u.setQueue l rest).closeTxn r m.outcome none none := by
  simp only [State.retryOrClose, hm]

theorem State.retryOrClose_of_retry {u : State} (l : Line) {r : Txn} (rest : List Txn) (o : CloseOutcome)
    (hm : r.halt = none) (hlim : r.attempts ≤ u.params.retryLimit) :
    u.retryOrClose l r rest o = u.setQueue l (r :: rest) := by
  simp only [State.retryOrClose, hm, if_pos hlim]

theorem State.retryOrClose_of_spent {u : State} (l : Line) {r : Txn} (rest : List Txn) (o : CloseOutcome)
    (hm : r.halt = none) (hlim : u.params.retryLimit < r.attempts) :
    u.retryOrClose l r rest o = if o = .noAnswer then
      ((u.setQueue l rest).closeTxn r o none none).missNamed r.target .transaction
      else (u.setQueue l rest).closeTxn r o none none := by
  simp only [State.retryOrClose, hm, if_neg (Nat.not_le.mpr hlim)]

/-! ## Judgements -/

theorem judge_of_data (i : Ident) (bs : List Byte) : judge (.valid (.data (i.setWidth 16) bs)) i = .finished (some bs) := by
  simp [judge, carriesCheck, checkWord]

theorem judge_of_ack (i : Ident) : judge (.valid (.ack (i.setWidth 16))) i = .finished none := by
  simp [judge, carriesCheck, checkWord]

theorem judge_of_refusal (i : Ident) {code : RefusalCode} (hc : code ≠ .busy) :
    judge (.valid (.refusal (i.setWidth 16) code)) i = .refused code := by
  cases code <;> simp [judge, carriesCheck, checkWord] at hc ⊢

theorem judge_of_busy (i : Ident) : judge (.valid (.refusal (i.setWidth 16) .busy)) i = .busy := by
  simp [judge, carriesCheck, checkWord]

theorem judge_of_not_its_answer {w : WindowClass} (hw : w.Checked) {i : Ident} (h : NotItsAnswer w i) :
    judge w i = .unheard := by
  cases w with
  | silence => rfl
  | garbled => rfl
  | valid a =>
    cases a with
    | stub k => exact absurd rfl (hw.1 k)
    | identity j m => exact absurd rfl (hw.2 j m)
    | ack c | status c _ | data c _ | refusal c _ =>
      have hne : ¬c = i.setWidth 16 := by simpa [NotItsAnswer] using h
      simp [judge, carriesCheck, checkWord, hne]

/-- An answer with its window counted. -/
theorem State.answeredNamed_counted {i : Ident} {e : Entry} {a lease : Nat} (hr : RosterLaw s) (he : s.lookup i = some e)
    (hb : e.standing = .bound a lease) (w : WindowClass) : (counted s l w i).answeredNamed i =
      ({ s with roster := withEntry i (fun x => { x with misses := 0, lastSeen := s.clock }) s.roster } : State).setLine l
        { s.line l with counters := windowCounted w i (s.line l).counters } := by
  have hroster : withEntry i (fun x => { x with misses := 0, lastSeen := (counted s l w i).clock }) (counted s l w i).roster =
      withEntry i (fun x => { x with misses := 0, lastSeen := s.clock }) s.roster := by
    rw [roster_counted, clock_counted]
  rw [State.answeredNamed_of_bound (RosterLaw.of_eq hr (roster_counted ..) (State.setLine_nextSerial ..))
    (by rw [State.lookup, roster_counted]; exact he) hb, hroster]
  exact counted_with_roster ..

/-! ## The last attempt, its target counted out -/

theorem lessPending_eq_lessPendingBy (r : Txn) (es : List Entry) : lessPending r.target es = lessPendingBy [r] es := by
  rw [← lessPendingBy_cons, lessPendingBy_nil]

/-- Counting an entry out, its pending count does not matter. -/
theorem countedOut_lessPending (e : Entry) (a : Address) (es : List Entry) :
    countedOut e a (lessPending e.identity es) = countedOut e a es := by
  let r : Txn := { tag := 0, work := .release, target := e.identity, attempts := 0, unheard := 0, halt := none, inFlight := false }
  have htarget : ∀ x ∈ [r], x.target = e.identity := fun x hx => by rw [List.mem_singleton.mp hx]
  rw [lessPending_eq_lessPendingBy r]
  unfold countedOut
  split
  · exact withEntry_lessPendingBy htarget (fun _ _ => rfl) es
  · exact filter_lessPendingBy htarget es

theorem RosterLaw.lookup_of_mem {u : State} (hr : RosterLaw u) {e : Entry} (he : e ∈ u.roster) :
    u.lookup e.identity = some e := by
  cases hentry : u.lookup e.identity with
  | none => exact absurd rfl (State.lookup_eq_none.mp hentry e he)
  | some x =>
    obtain ⟨hx, hid⟩ := State.mem_of_lookup hentry
    rw [hr.identity_inj hx he hid]

/-- A target with one record less: the entry the miss claim finds. -/
abbrev pendingLess (e : Entry) : Entry := { e with pendingTx := e.pendingTx - 1 }

section
variable {e : Entry} {a lease : Nat} {rest : List Txn} (hr : RosterLaw s) (he : s.lookup i = some e)
  (hb : e.standing = .bound a lease) (k : LineCounters) (rep : Report)
include hr he

/-- The closed record's target stands in the roster with one record less. -/
theorem pendingLess_mem {v : State} (hv : v.roster = lessPending i s.roster) (hn : v.nextSerial = s.nextSerial) :
    RosterLaw v ∧ pendingLess e ∈ v.roster ∧ v.lookup i = some (pendingLess e) := by
  obtain ⟨hmem, rfl⟩ := State.mem_of_lookup he
  have hrv : RosterLaw v := RosterLaw.map hr (fun x => by split <;> exact ⟨rfl, rfl⟩) hv hn
  have hmemv : pendingLess e ∈ v.roster := by
    rw [hv]
    exact List.mem_map.mpr ⟨e, hmem, if_pos rfl⟩
  exact ⟨hrv, hmemv, RosterLaw.lookup_of_mem hrv hmemv⟩

include hb

/-- The record closed and its target's miss below the limit. -/
theorem State.missNamed_closed_of_below (hlim : e.misses + 1 < s.params.missLimit) (L : LineState) (c : LossCause) :
    ((({ s with roster := lessPending i s.roster } : State).setLine l L).closeAll [rep]).missNamed i c =
      (({ s with roster := lessPending i (withEntry i (fun x => { x with misses := x.misses + 1 }) s.roster) } :
        State).setLine l L).closeAll [rep] := by
  let v : State := { s with roster := lessPending i s.roster }
  obtain ⟨hrv, -, hlook⟩ := pendingLess_mem hr he (v := (v.setLine l L).closeAll [rep])
    (by rw [State.closeAll_roster, State.setLine_roster]) (by rw [State.closeAll_nextSerial, State.setLine_nextSerial])
  have hcomm : withEntry i (fun x => { x with misses := x.misses + 1 }) (lessPending i s.roster) =
      lessPending i (withEntry i (fun x => { x with misses := x.misses + 1 }) s.roster) := by
    simp only [withEntry, lessPending, List.map_map]
    refine List.map_congr_left fun x _ => ?_
    by_cases hx : x.identity = i <;> simp [hx]
  rw [State.missNamed_of_below hrv hlook hb (by rw [State.closeAll_params, State.setLine_params]; exact hlim),
    State.closeAll_roster, State.setLine_roster, State.closeAll_with_roster, State.setLine_with_roster, hcomm]

/-- The record closed and its target counted out at the limit. -/
theorem State.missNamed_closed_of_limit (hl : e.line = l) (hlim : s.params.missLimit ≤ e.misses + 1) (L : LineState)
    (c : LossCause) :
    ((({ s with roster := lessPending i s.roster } : State).setLine l L).closeAll [rep]).missNamed i c =
      brought 0 (lossOf e a c) ((({ s with roster := countedOut e a s.roster } : State).setLine l { L with
        quarantine := insertRecord s.clock { quarantined s l a lease (outOrigin e) with seq := L.nextSeq } L.quarantine
        nextSeq := L.nextSeq + 1
        queue := purged L.queue i }).closeAll (rep :: outReports L.queue e)) := by
  obtain ⟨hmem, rfl⟩ := State.mem_of_lookup he
  subst hl
  let v : State := { s with roster := lessPending e.identity s.roster }
  obtain ⟨hrv, hmemv, hlook⟩ := pendingLess_mem hr he (v := (v.setLine e.line L).closeAll [rep])
    (by rw [State.closeAll_roster, State.setLine_roster]) (by rw [State.closeAll_nextSerial, State.setLine_nextSerial])
  have hline : ((v.setLine e.line L).closeAll [rep]).line e.line = L := by rw [State.line_closeAll, State.line_setLine]
  have hparams : ((v.setLine e.line L).closeAll [rep]).params = s.params := by rw [State.closeAll_params, State.setLine_params]
  have hclock : ((v.setLine e.line L).closeAll [rep]).clock = s.clock := by rw [State.closeAll_clock, State.setLine_clock]
  have hout : outLine ((v.setLine e.line L).closeAll [rep]) (pendingLess e) a lease = { L with
      quarantine := insertRecord s.clock { quarantined s e.line a lease (outOrigin e) with seq := L.nextSeq } L.quarantine
      nextSeq := L.nextSeq + 1
      queue := purged L.queue e.identity } := by
    simp only [outLine, quarantined, hline, hparams, hclock]
  rw [State.missNamed_of_limit hrv hlook hb (by rw [hparams]; exact hlim), State.countOut_of_bound hrv hmemv hb, hline, hout,
    State.closeAll_roster, State.setLine_roster, State.closeAll_with_roster, State.setLine_with_roster,
    State.closeAll_setLine, State.setLine_setLine, State.closeAll_closeAll]
  exact congrArg (fun es => brought 0 _ ((State.setLine { s with roster := es } _ _).closeAll _))
    (countedOut_lessPending e a s.roster)

end

end

/-! ## The end of a FORGET -/

/-- A RELEASE is acknowledged by the ACK with the node's check word alone (R119). -/
theorem judge_of_release {a t : Nat} {h : Heard} (i : Ident) :
    judge ((Call.release a t).classify h) i = .finished none ↔
      (Call.release a t).classify h = .valid (.ack (i.setWidth 16)) := by
  cases hw : (Call.release a t).classify h with
  | silence => simp [judge]
  | garbled => simp [judge]
  | valid b =>
    have hadmits := Call.admits_of_classify hw
    cases b <;> simp [Call.admits] at hadmits
    rename_i w
    by_cases hcheck : w = i.setWidth 16 <;> simp [judge, carriesCheck, checkWord, hcheck]

section
variable {s u : State} {l : Line} {i : Ident} {e : Entry} {a lease : Nat} (hr : RosterLaw u) (he : u.lookup i = some e)
  (hb : e.standing = .bound a lease) (tag : Tag)
include hr he

/-- Nobody else leaves its line when an entry is removed. -/
theorem memberBound_removed (m : Line) (hm : m ≠ e.line) (n : Nat) (h : u.memberBound m n = true) :
    ({ u with roster := u.roster.filter (·.identity != i) } : State).memberBound m n = true := by
  obtain ⟨hmem, rfl⟩ := State.mem_of_lookup he
  obtain ⟨x, hx, hxn⟩ := List.any_eq_true.mp h
  refine List.any_eq_true.mpr ⟨x, List.mem_filter.mpr ⟨hx, ?_⟩, hxn⟩
  simp only [Entry.boundOn, Bool.and_eq_true, beq_iff_eq] at hxn
  refine bne_iff_ne.mpr fun hid => hm ?_
  rw [← hr.identity_inj hx hmem hid]
  exact hxn.2.1.symm

include hb

/-- The removal claim of an acknowledged RELEASE (R35). -/
theorem State.removal_of_ack : u.removal i tag true =
    (({ u with roster := u.roster.filter (·.identity != i) } : State).setLine e.line { u.line e.line with
      pool := (u.line e.line).pool ++ [a] }).closeAll [report tag (.closed .done (.forget i .released))] := by
  obtain ⟨hmem, rfl⟩ := State.mem_of_lookup he
  have hroster : (u.giveBack e.line [a]).roster.filter (·.serial != e.serial) =
      u.roster.filter (·.identity != e.identity) := by
    rw [State.giveBack, State.modLine_eq_setLine, State.setLine_roster]
    exact hr.filter_serial hmem
  simp only [State.removal, he, hb, if_true]
  rw [State.removeEntry_of_bound _ hb, hroster, State.giveBack, State.modLine_eq_setLine, State.setLine_with_roster]
  rfl

/-- The removal claim of a RELEASE that was never acknowledged (R35, R53). -/
theorem State.removal_of_silence : u.removal i tag false =
    (({ u with roster := u.roster.filter (·.identity != i) } : State).setLine e.line { u.line e.line with
      quarantine := insertRecord u.clock (quarantined u e.line a lease none) (u.line e.line).quarantine
      nextSeq := (u.line e.line).nextSeq + 1 }).closeAll [report tag (.closed .done (.forget i .unconfirmed))] := by
  obtain ⟨hmem, rfl⟩ := State.mem_of_lookup he
  have hroster : (u.quarantineAddress e.line a lease none).roster.filter (·.serial != e.serial) =
      u.roster.filter (·.identity != e.identity) := by
    rw [State.quarantineAddress, State.modLine_eq_setLine, State.setLine_roster]
    exact hr.filter_serial hmem
  simp only [State.removal, he, hb, Bool.false_eq_true, if_false]
  rw [State.removeEntry_of_bound _ hb, hroster, State.quarantineAddress, State.modLine_eq_setLine,
    State.setLine_with_roster]
  rfl

end

end Sys2Proof.Machine
open Sys2Proof.Machine Sys2Proof.Statements

/-- Settles O48: the judgement of the attempt, and for a busy or unheard one mark, retry and last attempt. -/
theorem attemptClosesOrStaysAtHead : Obligations.AttemptClosesOrStaysAtHead := by
  refine ⟨fun s l call h hs hwin hcall hoff hidle => ?_,
    fun s l a lease r rest h e front back q hs hr hq hflight hoff he hl hb hopen => ?_⟩
  · have hrw : call.isReadWrite = true := by
      rcases hcall with ⟨_, _, _, rfl⟩ | ⟨_, _, _, rfl⟩ <;> rfl
    rw [exec_attemptWindow_of_open hwin hrw]
    rcases attemptHeard_cases s l (call.classify h) with ⟨hheard, -⟩ | ⟨r, rest, hq, hflight, -⟩
    · rw [hheard, State.endOp_settle_countWindow hs hwin hoff]
    · exact absurd (hidle r (by rw [hq]; rfl)) (by rw [hflight]; exact Bool.noConfusion)
  intro i answered call hwin hcall w after done unsure closes stays missed
  have hrw : call.isReadWrite = true := by
    rcases hcall with ⟨_, _, _, rfl⟩ | ⟨_, _, _, rfl⟩ <;> rfl
  have hwork : r.work ≠ .release := by
    rcases hcall with ⟨_, _, h, _⟩ | ⟨_, _, h, _⟩ <;> rw [h] <;> exact TxnWork.noConfusion
  have hw : w.Checked := checked_of_attempt (.inl hrw)
  have hanswered : (counted s l w i).answeredNamed i = ({ s with roster := answered } : State).setLine l
      { s.line l with counters := windowCounted w i (s.line l).counters } := State.answeredNamed_counted hr he hb w
  let x : Txn := { r with inFlight := false }
  let y : Txn := { r with inFlight := false, unheard := r.unheard + 1 }
  have hboundA := fun m n (hmn : s.memberBound m n = true) => ((Beside.withEntry s i
    (f := fun x => { x with misses := 0, lastSeen := s.clock }) fun _ => ⟨rfl, rfl, rfl⟩).bound m n).trans hmn
  have hspent : NotItsAnswer w i → r.halt = none → s.params.retryLimit < r.attempts → exec (.attemptWindow l h) s =
      .next ((((({ s with roster := lessPending i s.roster } : State).setLine l
        { s.line l with counters := windowCounted w i (s.line l).counters, queue := rest }).closeAll
          [report r.tag (.closed .noAnswer (done .unknown none none))]).missNamed i .transaction).settle.endOp l) :=
    fun hnot hm hlim => by
      have hclosed := State.closeTxn_eq_closing ((counted s l w i).setQueue l rest) (r := y) hwork .noAnswer none none
      rw [counted, State.setQueue_setLine, State.setLine_roster, State.setLine_with_roster, stored_of_unheard,
        if_neg nofun] at hclosed
      rw [exec_attemptWindow_of_open hwin hrw, State.attemptHeard_of_unheard hq hflight hw (judge_of_not_its_answer hw hnot),
        State.retryOrClose_of_spent _ (r := y) _ _ hm (by rw [params_counted]; exact hlim), if_pos rfl, counted,
        State.setQueue_setLine]
      exact congrArg (fun u => Host.Outcome.next ((State.missNamed u i .transaction).settle.endOp l)) hclosed
  have hboundM := fun m n (hmn : s.memberBound m n = true) =>
    ((Beside.lessPending { s with roster := missed } i).bound m n).trans (((Beside.withEntry s i
      (f := fun x => { x with misses := x.misses + 1 }) fun _ => ⟨rfl, rfl, rfl⟩).bound m n).trans hmn)
  refine ⟨fun bs hbs => ?_, fun hack => ?_, fun code hcode hne => ?_, fun hbusy => ⟨fun m hm => ?_, fun hm hlim => ?_,
    fun hm hlim => ?_⟩, fun hnot => ⟨fun m hm => ?_, fun hm hlim => ?_, fun hm hlim hmiss => ?_, fun hm hlim hmiss => ?_⟩⟩
  · have hheard := State.attemptHeard_of_finished hq hflight hw (hbs ▸ judge_of_data i bs)
    rw [hanswered] at hheard
    exact exec_attemptWindow_of_closing hs hwin hrw hoff hboundA (x := x) hwork hopen hheard
  · have hheard := State.attemptHeard_of_finished hq hflight hw (hack ▸ judge_of_ack i)
    rw [hanswered] at hheard
    exact exec_attemptWindow_of_closing hs hwin hrw hoff hboundA (x := x) hwork hopen hheard
  · have hheard := State.attemptHeard_of_refused hq hflight hw (hcode ▸ judge_of_refusal i hne)
    rw [hanswered] at hheard
    have hexec := exec_attemptWindow_of_closing hs hwin hrw hoff hboundA (x := x) hwork hopen hheard
    rw [stored_of_heard] at hexec
    exact hexec
  · have hheard := State.attemptHeard_of_busy hq hflight hw (hbusy ▸ judge_of_busy i)
    rw [hanswered, State.retryOrClose_of_halt _ _ (r := x) _ _ hm] at hheard
    have hexec := exec_attemptWindow_of_closing hs hwin hrw hoff hboundA (x := x) hwork hopen hheard
    rw [stored_of_heard, if_neg (haltOutcome_ne_done m), haltOutcome_eq] at hexec
    exact hexec
  · have hheard := State.attemptHeard_of_busy hq hflight hw (hbusy ▸ judge_of_busy i)
    rw [hanswered, State.retryOrClose_of_retry _ (r := x) _ _ hm (by rw [State.setLine_params]; exact hlim)] at hheard
    exact exec_attemptWindow_of_staying hs hwin hrw hoff hboundA hheard
  · have hheard := State.attemptHeard_of_busy hq hflight hw (hbusy ▸ judge_of_busy i)
    rw [hanswered, State.retryOrClose_of_spent _ (r := x) _ _ hm (by rw [State.setLine_params]; exact hlim), if_neg nofun] at hheard
    have hexec := exec_attemptWindow_of_closing hs hwin hrw hoff hboundA (x := x) hwork hopen hheard
    rw [stored_of_heard] at hexec
    exact hexec
  · have hheard := State.attemptHeard_of_unheard hq hflight hw (judge_of_not_its_answer hw hnot)
    rw [State.retryOrClose_of_halt _ _ (r := y) _ _ hm] at hheard
    have hexec := exec_attemptWindow_of_closing (es := s.roster) hs hwin hrw hoff (fun _ _ h => h)
      (x := y) hwork hopen hheard
    rw [stored_of_unheard, if_neg (haltOutcome_ne_done m), haltOutcome_eq] at hexec
    exact hexec
  · have hheard := State.attemptHeard_of_unheard hq hflight hw (judge_of_not_its_answer hw hnot)
    rw [State.retryOrClose_of_retry _ (r := y) _ _ hm (by rw [params_counted]; exact hlim)] at hheard
    exact exec_attemptWindow_of_staying (es := s.roster) hs hwin hrw hoff (fun _ _ h => h) hheard
  · refine (hspent hnot hm hlim).trans (congrArg _ ?_)
    rw [State.missNamed_closed_of_below hr he hb _ hmiss,
      State.endOp_settle_attempt_of_bound hs hwin hoff hboundM,
      State.setLine_closeAll_of_openAt (v := { s with roster := lessPending i missed }) hopen]
  · intro rs hall
    refine ⟨_, oneMore_insertRecord _ _ _, ?_⟩
    have hboundO := memberBound_countedOut (v := { s with roster := countedOut e a s.roster }) hr
      (State.mem_of_lookup he).1 a rfl
    rw [hl] at hboundO
    refine (hspent hnot hm hlim).trans (congrArg _ ?_)
    rw [State.missNamed_closed_of_limit hr he hb _ hl hmiss, State.endOp_settle_attempt hs hwin hoff hboundO,
      ← State.closeAll_setLine, State.closeAll_eq_closes (s := { s with roster := countedOut e a s.roster }) hall]
    rfl

/-- Settles O49: the removal claim by acknowledgement and by retries. -/
theorem releaseEndsTheForget : Obligations.ReleaseEndsTheForget := by
  refine ⟨fun s l a t h hs hwin hoff hidle => ?_,
    fun s l a lease t r rest h e front back q hs hr hwin hq hflight hwork hoff he hl hb hopen => ?_⟩
  · rw [exec_releaseWindow_of_open hwin rfl]
    rcases releaseHeard_cases s l ((Call.release a t).classify h) with ⟨hheard, -⟩ | ⟨r, rest, hq, hflight, -⟩
    · rw [hheard, State.endOp_settle_countWindow hs hwin hoff]
    · exact absurd (hidle r (by rw [hq]; rfl)) (by rw [hflight]; exact Bool.noConfusion)
  intro i roster w after removed
  subst hl
  have hw : w.Checked := checked_of_attempt (.inr rfl)
  let k := windowCounted w i (s.line e.line).counters
  let u : State := s.setLine e.line { s.line e.line with counters := k, queue := rest }
  have hexec : exec (.releaseWindow e.line h) s = .next
      ((if judge w i = .finished none then u.removal i r.tag true
        else if r.attempts ≤ s.params.retryLimit then
          s.setLine e.line { s.line e.line with
            counters := k, queue := { r with inFlight := false, unheard := r.unheard + 1 } :: rest }
        else u.removal i r.tag false).settle.endOp e.line) := by
    rw [exec_releaseWindow_of_open hwin rfl, State.releaseHeard_of_flight hq hflight, State.releaseJudged, State.countHeard hw,
      counted, State.setQueue_setLine, State.setQueue_setLine, State.setLine_params]
  have hru : RosterLaw u := RosterLaw.of_eq hr (State.setLine_roster ..) (State.setLine_nextSerial ..)
  have heu : u.lookup i = some e := by rw [State.lookup, State.setLine_roster]; exact he
  have hline : u.line e.line = { s.line e.line with counters := k, queue := rest } := State.line_setLine ..
  have hclock : u.clock = s.clock := State.setLine_clock ..
  have hrecord : quarantined u e.line a lease none = quarantined s e.line a lease none := by
    simp only [quarantined, hclock, hline, u, State.setLine_params]
  have hset : ∀ L, ({ u with roster := u.roster.filter (·.identity != i) } : State).setLine e.line L =
      ({ s with roster := roster } : State).setLine e.line L := fun L => by
    rw [State.setLine_roster, State.setLine_with_roster, State.setLine_setLine]
  have hother := memberBound_removed hr he
  refine ⟨fun hack => ?_, fun hack hlim => ?_, fun hack hlim => ?_⟩
  · refine hexec.trans (congrArg _ ?_)
    rw [if_pos ((judge_of_release i).mpr hack), State.removal_of_ack hru heu hb, hline, hset]
    refine (State.endOp_settle_attempt hs hwin hoff hother k rest ((s.line e.line).pool ++ [a])
      (s.line e.line).quarantine (s.line e.line).nextSeq [] _).trans ?_
    rw [brought_nil, State.setLine_closeAll_of_openAt (v := { s with roster := roster }) hopen]
  · refine hexec.trans (congrArg _ ?_)
    rw [if_neg ((judge_of_release i).not.mpr hack), if_pos hlim]
    exact State.endOp_settle_attempt_of_bound hs hwin hoff (es := s.roster) (fun _ _ h => h) k _ []
  · refine ⟨_, oneMore_insertRecord _ _ _, hexec.trans (congrArg _ ?_)⟩
    rw [if_neg ((judge_of_release i).not.mpr hack), if_neg (Nat.not_le.mpr hlim), State.removal_of_silence hru heu hb, hline, hset, hclock,
      hrecord]
    refine (State.endOp_settle_attempt hs hwin hoff hother k rest (s.line e.line).pool _
      ((s.line e.line).nextSeq + 1) [] _).trans ?_
    rw [brought_nil, State.setLine_closeAll_of_openAt (v := { s with roster := roster }) hopen]
end

section
/-! The line supervisor (R31, R128 to R134): settling ends, a trip or an off sweeps the line. -/

namespace Sys2Proof.Machine

open Sys2Proof.Statements

/-! ## The sweep in the statements' terms -/

/-- The model's ascending order is that of the library's sort. -/
theorem ascending_eq_mergeSort (as_ : List Address) : ascending as_ = as_.mergeSort := by
  have hinsert : ∀ (a : Address) (xs : List Address), insertAddress a xs = xs.orderedInsert (· ≤ ·) a := fun a xs => by
    induction xs with
    | nil => rfl
    | cons x xs ih => rw [insertAddress, List.orderedInsert_cons, ih]
  have hsort : ascending as_ = as_.insertionSort (· ≤ ·) := by
    induction as_ with
    | nil => rfl
    | cons a as_ ih => exact (hinsert a _).trans (congrArg _ ih)
  rw [hsort, ← List.mergeSort_eq_insertionSort]

section
variable {s : State} {l : Line} (hr : RosterLaw s) (ht : TargetLaw s l)
include hr ht

/-- The records of the line name entries that have lost their pending counts (R31, R122). -/
theorem lessPendingBy_unpowered :
    lessPendingBy (s.line l).queue (unpoweredRoster l s.roster) = unpoweredRoster l s.roster := by
  refine (List.map_congr_left fun y hy => ?_).trans (List.map_id _)
  obtain ⟨x, hx, hxy⟩ := List.mem_filterMap.mp hy
  have hkeep : y.pendingTx = 0 ∨ (s.line l).queue.countP (·.target == y.identity) = 0 := by
    have hnone : x.boundOn l = false → (s.line l).queue.countP (·.target == x.identity) = 0 := fun hx' => by
      refine List.countP_eq_zero.mpr fun r hrq => ?_
      obtain ⟨e, he, hid, hbound⟩ := ht r hrq
      intro htarget
      have hsame : e = x := RosterLaw.identity_inj hr he hx (hid.trans (by simpa using htarget))
      exact absurd hbound (by rw [hsame, hx']; exact Bool.false_ne_true)
    rcases unpoweredEntry_cases (l := l) hxy with ⟨rfl, hun⟩ | ⟨-, -, rfl⟩ | ⟨_, hlost, -, rfl⟩
    · refine .inr (hnone ?_)
      by_cases hl : y.line = l
      · simp [Entry.boundOn, hun hl, Standing.isBound]
      · simp [Entry.boundOn, hl]
    · exact .inl rfl
    · exact .inr (hnone (by simp [Entry.boundOn, hlost, Standing.isBound]))
  rcases hkeep with h | h
  · simp only [h, Nat.zero_sub, id]
    rw [← h]
  · simp only [h, Nat.sub_zero, id]

/-- The line swept while power is removed, an open LINE_POWER left (R130, R132, R134). -/
theorem State.lineDown_unpower (p : LinePower) :
    (s.unpower l p).lineDown l = (({ s with roster := unpoweredRoster l s.roster } : State).setLine l
      { unpoweredLine s l p with openPower := (s.line l).openPower }).closeAll (sweepReports s l) := by
  let L : LineState := { s.line l with power := p, settleAt := none, speed := none }
  have hru : RosterLaw (s.setLine l L) := RosterLaw.of_eq hr (State.setLine_roster ..) (State.setLine_nextSerial ..)
  have hreports : sweepReports (s.setLine l L) l = sweepReports s l := by
    simp only [sweepReports, State.boundEntries, State.setLine_roster, State.line_setLine, L]
  have hline : sweptLine (s.setLine l L) l = { unpoweredLine s l p with openPower := (s.line l).openPower } := by
    simp only [sweptLine, State.boundAddresses, State.setLine_roster, State.line_setLine, L,
      LineState.quarantined, ascending_eq_mergeSort]
  rw [State.unpower, State.modLine_eq_setLine, State.lineDown_eq hru, hreports, hline, State.line_setLine,
    State.setLine_roster, State.setLine_with_roster, State.setLine_setLine, lessPendingBy_unpowered hr ht]

/-- An UP line taken down for its open LINE_POWER(off) (R130). -/
theorem State.goOff_eq {tag : Tag} (hp : (s.line l).openPower = some (tag, .off)) :
    s.goOff l = (({ s with roster := unpoweredRoster l s.roster } : State).setLine l (unpoweredLine s l .off)).closeAll
      (sweepReports s l ++ [report tag (.closed .done (.linePower l .off (s.boundEntries l).length))]) := by
  have hopen : (((s.unpower l .off).lineDown l).line l).openPower = some (tag, .off) := by
    rw [State.lineDown_unpower hr ht, State.line_closeAll, State.line_setLine]
    exact hp
  rw [State.goOff, State.closePower_eq hopen, State.lineDown_unpower hr ht, State.line_closeAll, State.line_setLine,
    State.closeAll_setLine, State.setLine_setLine, State.closeAll_closeAll]

end

/-- A request just taken closes behind the reports that others close with. -/
theorem tableLess_taken {rs : List Report} {table : List Req} {tag : Tag} {b : ReportBody} {req : Req} (hreq : req.tag = tag)
    (hfree : ∀ q ∈ table, q.tag ≠ tag) : tableLess (rs ++ [report tag b]) (table ++ [req]) = tableLess rs table := by
  have hgone : (rs ++ [report tag b]).all (·.tag != req.tag) = false := by simp [hreq]
  rw [tableLess, List.filter_append, List.filter_singleton, hgone]
  refine (List.append_nil _).trans (List.filter_congr fun q hq => ?_)
  have hne : (tag != q.tag) = true := by simpa using (hfree q hq).symm
  rw [List.all_append, List.all_cons, List.all_nil, Bool.and_true, hne, Bool.and_true]

theorem AllOpen.taken {s v : State} {rs : List Report} (h : AllOpen s rs) {tag : Tag} {b : ReportBody} {req : Req}
    (hv : v.table = s.table ++ [req]) (hreq : req.tag = tag) (hfree : ∀ q ∈ s.table, q.tag ≠ tag) :
    AllOpen v (rs ++ [report tag b]) := by
  refine ⟨?_, fun r hrs => ?_⟩
  · rw [List.map_append, List.nodup_append]
    refine ⟨h.1, List.nodup_singleton _, fun x hx y hy hxy => ?_⟩
    obtain ⟨r, hrs, rfl⟩ := List.mem_map.mp hx
    obtain ⟨q, hq, hqr⟩ := h.2 r hrs
    exact hfree q hq ((hqr.trans hxy).trans (List.mem_singleton.mp hy))
  · rw [hv]
    rcases List.mem_append.mp hrs with hrs | hrs
    · obtain ⟨q, hq, hqr⟩ := h.2 r hrs
      exact ⟨q, List.mem_append_left _ hq, hqr⟩
    · rw [List.mem_singleton.mp hrs]
      exact ⟨req, List.mem_append_right _ (List.mem_singleton_self _), hreq⟩

/-- A cycle over nobody, which is finished as it starts (R92). -/
abbrev emptyCycle (t : Clock) (period : Nat) : PollCycle :=
  { running := false, start := t, period := period, nextDue := t + BitVec.ofNat 32 period, members := [],
    remaining := [], late := false }

theorem cycleFrom_of_nobody {l : Line} {es : List Entry} (h : ∀ e ∈ es, e.boundOn l = false) (t : Clock) (period : Nat) :
    cycleFrom l t period es = emptyCycle t period := by
  have hnobody : (es.filter fun e => e.line == l && e.standing.isBound) = [] :=
    List.filter_eq_nil_iff.mpr fun e he => by simpa [Entry.boundOn] using h e he
  simp only [cycleFrom, hnobody]
  rfl

end Sys2Proof.Machine
open Sys2Proof.Machine Sys2Proof.Statements

/-- Settles O34: the timer's expiry, the empty first cycle, and the on closed. -/
theorem settlingEndsAndLineGoesUp : Obligations.SettlingEndsAndLineGoesUp := by
  intro s l
  refine ⟨fun h => ?_, fun t on front back q hsettling hat hdue hon hdown hopen => ?_⟩
  · simp only [exec, execSettlingExpiry]
    split
    · exact absurd ‹_› h
    · rfl
  · obtain ⟨-, -, -, -, -, -, hbound⟩ := hdown (by rw [hsettling]; exact LinePower.noConfusion)
    have hcycle := cycleFrom_of_nobody hbound t s.params.pollPeriod
    let v : State := { s with clock := t }
    let L : LineState := { s.line l with
      power := .up, settleAt := none, poll := some (cycleFrom l t s.params.pollPeriod s.roster) }
    have hup : ((s.passTo t).modLine l fun L => { L with power := .up, settleAt := none }).startCycle l = v.setLine l L := by
      rw [State.passTo_eq (by omega), State.startCycle_eq, State.modLine_eq_setLine, State.line_setLine, State.setLine_setLine,
        State.setLine_clock, State.setLine_params, State.setLine_roster, State.line_with_clock]
    have hon' : ((v.setLine l L).line l).openPower = some (on, .on) := by rw [State.line_setLine]; exact hon
    simp only [exec, execSettlingExpiry, hsettling, hat]
    rw [hup, State.closePower_eq hon', State.line_setLine, State.setLine_setLine,
      State.setLine_closeAll_of_openAt (v := v) hopen]
    simp only [L, hcycle]
    rfl

/-- Settles O35: the trip by the line's state, the sweep with and without an off that waits. -/
theorem tripTakesLineToFault : Obligations.TripTakesLineToFault := by
  intro s l
  refine ⟨fun h => ?_, fun on front back q hsettling hon hopen => ?_, fun hup hr ht => ?_⟩
  · rcases h with h | h <;> simp only [exec, execOvercurrentTrip, h]
  · have hon' : ((s.unpower l .fault).line l).openPower = some (on, .on) := by
      rw [State.unpower, State.line_modLine]
      exact hon
    simp only [exec, execOvercurrentTrip, hsettling]
    rw [State.closePower_eq hon', State.unpower, State.modLine_eq_setLine, State.line_setLine, State.setLine_setLine,
      State.setLine_closeAll_of_openAt hopen]
  · intro lost swept faulted
    let v : State := { s with roster := unpoweredRoster l s.roster }
    let L : LineState := { unpoweredLine s l .fault with openPower := (s.line l).openPower }
    let down : State := brought 0 [.lineFault l s.clock lost] ((v.setLine l L).closeAll swept)
    have hexec : exec (.overcurrentTrip l) s =
        .next (if (down.line l).offOpen then down.closePower l .faulted .fault lost else down) := by
      simp only [exec, execOvercurrentTrip, hup, State.tripUp]
      rw [State.lineDown_unpower hr ht, State.pushEvent_eq_brought]
    have hline : down.line l = L := by
      rw [line_brought, State.line_closeAll, State.line_setLine]
    refine ⟨fun hnone hall => hexec.trans (congrArg _ ?_), fun tag hoff => ?_⟩
    · have hclosed : (down.line l).offOpen = false := by
        rw [hline]
        simp [L, LineState.offOpen, hnone]
      have hL : L = unpoweredLine s l .fault := by simp only [L, hnone]
      rw [hclosed, if_neg Bool.false_ne_true]
      simp only [down, hL]
      rw [← State.closeAll_setLine, State.closeAll_eq_closes (s := v) hall]
      rfl
    · intro closing t hall
      refine hexec.trans (congrArg _ ?_)
      have hopen : (down.line l).openPower = some (tag, .off) := by rw [hline]; exact hoff
      have hclosed : (down.line l).offOpen = true := by rw [LineState.offOpen, hopen]; rfl
      have hleft : ¬Emptied v swept := not_emptied_of_allOpen (s := v) hall (List.cons_ne_nil closing [])
      have hdown : down.setLine l { L with openPower := none } = t := by
        rw [← brought_setLine, State.closeAll_setLine, State.setLine_setLine, ← State.closeAll_setLine,
          State.closeAll_eq_closes (s := v) (AllOpen.left hall), State.closes, stopLeft, if_neg hleft, stopClosed, if_neg hleft]
      have htable : t.table = tableLess swept s.table := (brought_table ..).trans (State.setLine_table ..)
      have hstop : t.stop = s.stop := (brought_stop ..).trans (State.setLine_stop ..)
      have hmem : ∃ q ∈ t.table, q.tag = closing.tag := by
        rw [htable]
        exact (AllOpen.right hall).2 closing (List.mem_singleton_self _)
      rw [if_pos hclosed, State.closePower_eq hopen, hline, hdown, ← State.close_eq_closeAll, State.close_eq_closes hmem]
      have hless : tableLess [closing] t.table = tableLess (swept ++ [closing]) s.table := by rw [htable, tableLess_append]
      have hiff : Emptied t [closing] ↔ Emptied s (swept ++ [closing]) := by
        rw [Emptied, Emptied, hless]
        simp
      exact t.with_host_congr hless (stopLeft_congr hstop hiff) (congrArg _ (stopClosed_congr hstop hiff))

/-- Settles O36: the off is taken, the line swept, and the off closes behind the sweep. -/
theorem offTakesIdleLineDown : Obligations.OffTakesIdleLineDown := by
  intro s tag l hs hup hnone hidle hr ht hall
  obtain ⟨hnow, -, hfree, hstop, -⟩ := id hs
  have hserve := State.serveLinePower_of_admissible (f := ⟨0x14, tag, (Request.linePower l .off).body⟩) hs l .off
  let req : Req := { tag := tag, kind := .linePower, line := l, state := .running, target := none }
  let v : State := { s with table := s.table ++ [req], reports := s.reports ++ [report tag (.taken .linePower)] }
  let u : State := v.setLine l { s.line l with openPower := some (tag, .off) }
  let closing := report tag (.closed .done (.linePower l .off (s.boundEntries l).length))
  have hexec : exec (.linePower tag (Request.linePower l .off).body) s = .next (u.goOff l) := by
    refine (Request.exec_takes hnow (r := .linePower l .off) rfl tag).trans (congrArg _ ?_)
    refine (hserve.2 (by simp [LineState.powerBusy, hnone])).trans ?_
    have hop : (((s.takenPower tag l).modLine l fun L => { L with openPower := some (tag, .off) }).line l).op.isSome = false :=
      by rw [State.line_modLine, State.line_take, hidle]; rfl
    simp only [State.actPower, State.line_take, hup]
    rw [hop, if_neg Bool.false_ne_true, State.modLine_eq_setLine, State.line_take]
    rfl
  have hroster : u.roster = s.roster := State.setLine_roster ..
  have hline : u.line l = { s.line l with openPower := some (tag, .off) } := State.line_setLine ..
  have hru : RosterLaw u := RosterLaw.of_eq hr hroster (State.setLine_nextSerial ..)
  have htu : TargetLaw u l := fun r hrq => by
    rw [hline] at hrq
    rw [hroster]
    exact ht r hrq
  have hbound : u.boundEntries l = s.boundEntries l := by rw [State.boundEntries, hroster, State.boundEntries]
  have hreports : sweepReports u l = sweepReports s l := by
    simp only [sweepReports, hbound, hline]
  have hswept : unpoweredLine u l .off = unpoweredLine s l .off := by
    simp only [unpoweredLine, State.boundAddresses, hroster, hline, LineState.quarantined]
  have hopen : AllOpen v (sweepReports s l ++ [closing]) := AllOpen.taken hall (req := req) rfl rfl hfree
  have htable : tableLess (sweepReports s l ++ [closing]) v.table = tableLess (sweepReports s l) s.table :=
    tableLess_taken (req := req) rfl hfree
  let w : State := { v with roster := unpoweredRoster l s.roster }
  refine hexec.trans (congrArg _ ?_)
  rw [State.goOff_eq hru htu (by rw [hline]), hreports, hswept, hroster, hbound,
    State.setLine_with_roster, State.setLine_setLine, ← State.closeAll_setLine]
  refine (congrArg (fun x : State => x.setLine l (unpoweredLine s l .off)) (State.closeAll_eq_closes (s := w) hopen)).trans ?_
  refine congrArg (fun x : State => x.setLine l (unpoweredLine s l .off)) (w.with_host_congr htable ?_ ?_)
  · simp only [w, v, stopLeft, hstop, ite_self]
  · have hnoStop : stopClosed w (Emptied w (sweepReports s l ++ [closing])) = [] := by
      simp only [w, v, stopClosed, hstop, Option.map_none, Option.toList_none, ite_self]
    rw [hnoStop, List.append_nil, ← List.append_assoc]
    exact congrArg (· ++ [closing]) (List.append_assoc s.reports [report tag (.taken .linePower)] _)
end

section
/-! The claims of a window do not look at an open LINE_POWER of their line and do not touch it: only the end of the operation
does (R126, R130). -/

namespace Sys2Proof.Machine

open Sys2Proof.Statements

/-- The state with another LINE_POWER open for a line, or none. -/
def State.repower (s : State) (l : Line) (x : Option (Tag × Direction)) : State :=
  s.setLine l { s.line l with openPower := x }

theorem State.setLine_swap (s : State) {l m : Line} (h : m ≠ l) (L M : LineState) :
    (s.setLine m M).setLine l L = (s.setLine l L).setLine m M := by
  cases m <;> cases l
  exacts [absurd rfl h, rfl, rfl, absurd rfl h]

namespace Repower

variable (s : State) (l m : Line) (x : Option (Tag × Direction))

theorem clock : (s.repower l x).clock = s.clock := State.setLine_clock ..
theorem params : (s.repower l x).params = s.params := State.setLine_params ..
theorem roster : (s.repower l x).roster = s.roster := State.setLine_roster ..
theorem lookup (i : Ident) : (s.repower l x).lookup i = s.lookup i := by rw [State.lookup, roster]; rfl
theorem entryOf (n : Nat) : (s.repower l x).entryOf n = s.entryOf n := by rw [State.entryOf, roster]; rfl

theorem line_self : (s.repower l x).line l = { s.line l with openPower := x } := State.line_setLine ..

theorem line_other {m : Line} (h : m ≠ l) : (s.repower l x).line m = s.line m := State.line_setLine_of_ne _ h _

/-- A field of a line other than its open LINE_POWER. -/
theorem field {α : Type} (g : LineState → α) (hg : ∀ L y, g { L with openPower := y } = g L) :
    g ((s.repower l x).line m) = g (s.line m) := by
  by_cases h : m = l
  · subst h
    rw [line_self]
    exact hg _ _
  · rw [line_other s l x h]

theorem queue : ((s.repower l x).line m).queue = (s.line m).queue := field s l m x (·.queue) fun _ _ => rfl
theorem census : ((s.repower l x).line m).census = (s.line m).census := field s l m x (·.census) fun _ _ => rfl
theorem window : ((s.repower l x).line m).window = (s.line m).window := field s l m x (·.window) fun _ _ => rfl

/-! ## Primitives -/

theorem setLine (L : LineState) : (s.repower l x).setLine l L = s.setLine l L := State.setLine_setLine ..

theorem modLine {f : LineState → LineState} (hf : ∀ L y, f { L with openPower := y } = { f L with openPower := y }) :
    (s.repower l x).modLine m f = (s.modLine m f).repower l x := by
  simp only [State.modLine_eq_setLine, State.repower]
  by_cases h : m = l
  · subst h
    rw [State.line_setLine, State.line_setLine, State.setLine_setLine, State.setLine_setLine, hf]
  · rw [State.line_setLine_of_ne _ h, State.line_setLine_of_ne _ (Ne.symm h), State.setLine_swap _ h]

theorem with_roster (es : List Entry) :
    ({ s.repower l x with roster := es } : State) = ({ s with roster := es } : State).repower l x := by
  cases l <;> rfl

theorem closeAll (rs : List Report) : (s.repower l x).closeAll rs = (s.closeAll rs).repower l x := by
  rw [State.repower, State.repower, State.line_closeAll, State.closeAll_setLine]

theorem close (tag : Tag) (o : CloseOutcome) (r : CloseResult) :
    (s.repower l x).close tag o r = (s.close tag o r).repower l x := closeAll s l x [report tag (.closed o r)]

theorem pushEvent (tag : Tag) (e : Event) : (s.repower l x).pushEvent tag e = (s.pushEvent tag e).repower l x := by
  rw [State.pushEvent_eq_brought, State.pushEvent_eq_brought, State.repower, State.repower, line_brought, brought_setLine]

theorem pushLineEvents (es : List Event) : (s.repower l x).pushLineEvents es = (s.pushLineEvents es).repower l x := by
  rw [State.pushLineEvents_eq_brought, State.pushLineEvents_eq_brought, State.repower, State.repower, line_brought,
    brought_setLine]

theorem updEntry (n : Nat) (f : Entry → Entry) : (s.repower l x).updEntry n f = (s.updEntry n f).repower l x := by
  rw [State.updEntry, roster, with_roster]
  rfl

theorem updNamed (i : Ident) (f : Entry → Entry) : (s.repower l x).updNamed i f = (s.updNamed i f).repower l x := by
  rw [State.updNamed, roster, with_roster]
  rfl

theorem setQueue (q : List Txn) : (s.repower l x).setQueue m q = (s.setQueue m q).repower l x :=
  modLine s l m x fun _ _ => rfl

theorem modCensus (f : Census → Census) : (s.repower l x).modCensus m f = (s.modCensus m f).repower l x :=
  modLine s l m x fun _ _ => rfl

theorem countWindow (w : WindowClass) : (s.repower l x).countWindow m w = (s.countWindow m w).repower l x :=
  modLine s l m x fun _ _ => by cases w <;> rfl

theorem countMismatch (b : Bool) : (s.repower l x).countMismatch m b = (s.countMismatch m b).repower l x := by
  simp only [State.countMismatch]
  split
  · refine modLine s l m x ?_
    exact fun _ _ => rfl
  · rfl

theorem giveBack (as_ : List Address) : (s.repower l x).giveBack m as_ = (s.giveBack m as_).repower l x :=
  modLine s l m x fun _ _ => rfl

theorem quarantineAddress (a : Address) (lease : Nat) (o : Option Ident) :
    (s.repower l x).quarantineAddress m a lease o = (s.quarantineAddress m a lease o).repower l x := by
  simp only [State.quarantineAddress, clock, params]
  refine modLine s l m x ?_
  exact fun _ _ => rfl

/-! ## The census -/

theorem closeCensus (o : CloseOutcome) : (s.repower l x).closeCensus m o = (s.closeCensus m o).repower l x := by
  simp only [State.closeCensus, census]
  cases (s.line m).census with
  | none => rfl
  | some c =>
    have hset : (s.repower l x).modLine m (fun L => { L with census := none }) =
        (s.modLine m fun L => { L with census := none }).repower l x := modLine s l m x fun _ _ => rfl
    dsimp only
    rw [hset, close]

theorem roundEnd (c : Census) : (s.repower l x).roundEnd m c = (s.roundEnd m c).repower l x := by
  simp only [State.roundEnd, params, pushEvent, closeCensus, modCensus]
  cases c.halt with
  | some h => rfl
  | none =>
    dsimp only
    split
    · rfl
    · split <;> rfl

theorem slotEnd (event : Option (Nat → Nat → Event)) : (s.repower l x).slotEnd m event = (s.slotEnd m event).repower l x := by
  cases hc : (s.line m).census with
  | none => rw [State.slotEnd_of_none hc, State.slotEnd_of_none (by rw [census, hc])]
  | some c =>
    have htell : (s.repower l x).tell c event = (s.tell c event).repower l x := by
      cases event with
      | none => rfl
      | some v => exact pushEvent s l x _ _
    have hpass : ∀ (u : State) (d : Census), (u.repower l x).passSlot m d = (u.passSlot m d).repower l x := fun u d => by
      have hset : (u.repower l x).modLine m (fun L => { L with census := some d }) =
          (u.modLine m fun L => { L with census := some d }).repower l x := modLine u l m x fun _ _ => rfl
      simp only [State.passSlot, hset, roundEnd, closeCensus]
      split
      · rfl
      · cases d.halt <;> rfl
    rw [State.slotEnd_of_census hc, State.slotEnd_of_census (by rw [census, hc]), htell, hpass]

/-! ## Records -/

theorem closeTxn (r : Txn) (o : CloseOutcome) (bs : Option (List Byte)) (c : Option RefusalCode) :
    (s.repower l x).closeTxn r o bs c = (s.closeTxn r o bs c).repower l x := by
  simp only [State.closeTxn, updNamed, close]
  cases r.work <;> rfl

theorem closeTxns (rs : List Txn) (o : CloseOutcome) :
    (s.repower l x).closeTxns rs o = (s.closeTxns rs o).repower l x := by
  induction rs generalizing s with
  | nil => rfl
  | cons r rs ih =>
    refine (congrArg (State.closeTxns · rs o) (closeTxn s l x r o none none)).trans (ih _)

theorem purge (i : Ident) : (s.repower l x).purge m i = (s.purge m i).repower l x := by
  simp only [State.purge, queue, setQueue, closeTxns]

/-! ## The roster -/

theorem removeEntry (e : Entry) : (s.repower l x).removeEntry e = (s.removeEntry e).repower l x := by
  simp only [State.removeEntry, roster, with_roster]
  cases e.held with
  | none => rfl
  | some a =>
    refine modLine _ l _ x ?_
    exact fun _ _ => rfl

theorem countOut (e : Entry) : (s.repower l x).countOut e = (s.countOut e).repower l x := by
  unfold State.countOut
  cases e.standing with
  | bound a lease =>
    cases e.forgetting with
    | none => simp only [quarantineAddress, purge, updEntry]
    | some tag => simp only [quarantineAddress, purge, removeEntry, State.closeForget, close]
  | lost _ => rfl
  | unbound => rfl

theorem answered (n : Nat) (flag : Option Bool) : (s.repower l x).answered n flag = (s.answered n flag).repower l x := by
  simp only [State.answered, clock, updEntry]

theorem miss (n : Nat) (c : LossCause) : (s.repower l x).miss n c = (s.miss n c).repower l x := by
  simp only [State.miss, entryOf, params, countOut, pushLineEvents, updEntry]
  cases s.entryOf n with
  | none => rfl
  | some e =>
    dsimp only
    split
    · split <;> rfl
    · rfl

theorem removal (i : Ident) (tag : Tag) (b : Bool) : (s.repower l x).removal i tag b = (s.removal i tag b).repower l x := by
  simp only [State.removal, lookup, giveBack, quarantineAddress, removeEntry, State.closeForget, close]
  cases s.lookup i with
  | none => rfl
  | some e =>
    dsimp only
    cases e.standing with
    | bound a lease => cases b <;> rfl
    | lost _ => rfl
    | unbound => rfl

theorem bindOutcome (n : Nat) (b : Bool) : (s.repower l x).bindOutcome n b = (s.bindOutcome n b).repower l x := by
  simp only [State.bindOutcome, entryOf, clock, updEntry, countOut]
  cases s.entryOf n with
  | none => rfl
  | some e =>
    dsimp only
    split
    · split <;> rfl
    · rfl

/-! ## Windows -/

theorem reportAttention (e : Entry) (a : Address) (flag : Bool) :
    (s.repower l x).reportAttention m e a flag = (s.reportAttention m e a flag).repower l x := by
  simp only [State.reportAttention, params, clock, pushEvent]
  split <;> rfl

theorem pollHeard (n : Nat) (i : Ident) (a : Address) (w : WindowClass) :
    (s.repower l x).pollHeard m n i a w = (s.pollHeard m n i a w).repower l x := by
  simp only [State.pollHeard, countWindow, countMismatch, entryOf, miss, answered, reportAttention]
  cases w with
  | silence => rfl
  | garbled => rfl
  | valid b =>
    cases b with
    | status c flag =>
      dsimp only
      split
      · cases ((s.countWindow m (.valid (.status c flag))).countMismatch m _).entryOf n with
        | none => rfl
        | some e => dsimp only; split <;> rfl
      · rfl
    | _ => rfl

theorem answeredNamed (i : Ident) : (s.repower l x).answeredNamed i = (s.answeredNamed i).repower l x := by
  simp only [State.answeredNamed, lookup, answered]
  cases s.lookup i <;> rfl

theorem missNamed (i : Ident) (c : LossCause) : (s.repower l x).missNamed i c = (s.missNamed i c).repower l x := by
  simp only [State.missNamed, lookup, miss]
  cases s.lookup i <;> rfl

theorem retryOrClose (r : Txn) (rest : List Txn) (o : CloseOutcome) :
    (s.repower l x).retryOrClose m r rest o = (s.retryOrClose m r rest o).repower l x := by
  simp only [State.retryOrClose, params, setQueue, closeTxn, missNamed]
  cases r.halt with
  | some h => rfl
  | none =>
    dsimp only
    split
    · rfl
    · split <;> rfl

theorem attemptHeard (w : WindowClass) : (s.repower l x).attemptHeard m w = (s.attemptHeard m w).repower l x := by
  have hjudged : ∀ (u : State) r rest, (u.repower l x).attemptJudged m r rest w = (u.attemptJudged m r rest w).repower l x :=
    fun u r rest => by
      simp only [State.attemptJudged, countMismatch, answeredNamed, setQueue, closeTxn, retryOrClose]
      cases judge w r.target <;> rfl
  simp only [State.attemptHeard, countWindow, queue, hjudged]
  cases ((s.countWindow m w).line m).queue with
  | nil => rfl
  | cons r rest => dsimp only; split <;> rfl

theorem releaseHeard (w : WindowClass) : (s.repower l x).releaseHeard m w = (s.releaseHeard m w).repower l x := by
  have hjudged : ∀ (u : State) r rest, (u.repower l x).releaseJudged m r rest w = (u.releaseJudged m r rest w).repower l x :=
    fun u r rest => by
      simp only [State.releaseJudged, countMismatch, params, setQueue, removal]
      split
      · rfl
      · split <;> rfl
  simp only [State.releaseHeard, countWindow, queue, hjudged]
  cases ((s.countWindow m w).line m).queue with
  | nil => rfl
  | cons r rest => dsimp only; split <;> rfl

/-! ## Settling -/

theorem memberBound (n : Nat) : (s.repower l x).memberBound m n = s.memberBound m n := by
  rw [State.memberBound_congr (roster s l x)]

theorem membersLeft : (s.repower l x).membersLeft m = s.membersLeft m := by
  rw [State.membersLeft, State.memberBound_congr (roster s l x), field s l m x (·.poll) fun _ _ => rfl]
  rfl

theorem cycleDone : (s.repower l x).cycleDone m = s.cycleDone m := by
  rw [State.cycleDone, membersLeft, field s l m x LineState.cycleRunning fun _ _ => rfl,
    field s l m x LineState.pollInProgress fun _ _ => rfl]
  rfl

theorem startCycle : (s.repower l x).startCycle m = (s.startCycle m).repower l x := by
  simp only [State.startCycle, State.boundEntries, roster, clock, params]
  refine modLine s l m x ?_
  exact fun _ _ => rfl

theorem finishCycle : (s.repower l x).finishCycle m = (s.finishCycle m).repower l x := by
  have hlate : (s.repower l x).modLine m (fun L => { L with
      counters := { L.counters with overruns := L.counters.overruns + 1 }, passedP := 0 }) =
      (s.modLine m fun L => { L with
        counters := { L.counters with overruns := L.counters.overruns + 1 }, passedP := 0 }).repower l x :=
    modLine s l m x fun _ _ => rfl
  have hidle : ∀ c, (s.repower l x).modLine m (fun L => { L with poll := c, passedP := 0 }) =
      (s.modLine m fun L => { L with poll := c, passedP := 0 }).repower l x := fun c => modLine s l m x fun _ _ => rfl
  simp only [State.finishCycle, field s l m x (·.poll) fun _ _ => rfl, hlate, hidle, startCycle]
  cases (s.line m).poll with
  | none => rfl
  | some c => dsimp only; split <;> rfl

theorem settleCounts : (s.repower l x).settleCounts m = (s.settleCounts m).repower l x := by
  have hT : (s.repower l x).waitsT m = s.waitsT m := field s l m x (fun L => !L.queue.isEmpty && !L.attemptInFlight) fun _ _ => rfl
  have hC : (s.repower l x).waitsC m = s.waitsC m := field s l m x (fun L => L.census.isSome && !L.slotInProgress) fun _ _ => rfl
  have hP : (s.repower l x).waitsP m = s.waitsP m := by
    rw [State.waitsP, membersLeft, field s l m x LineState.cycleRunning fun _ _ => rfl,
      field s l m x LineState.pollInProgress fun _ _ => rfl]
    rfl
  simp only [State.settleCounts, hT, hP, hC]
  refine modLine s l m x ?_
  exact fun _ _ => rfl

theorem settle : (s.repower l x).settle = s.settle.repower l x := by
  have hline : ∀ (u : State) k, (u.repower l x).settleLine k = (u.settleLine k).repower l x := fun u k => by
    simp only [State.settleLine, cycleDone, finishCycle]
    split <;> exact settleCounts ..
  rw [State.settle, hline, hline]
  rfl

end Repower

end Sys2Proof.Machine
end

section
/-! A LINE_POWER(off) that waits for an operation (R126, R130, R132): the command that ends the operation does all it does
without the off, and then takes the line down. -/

namespace Sys2Proof.Machine

open Sys2Proof.Statements

/-! ## The line as it is without the off -/

theorem Repower.again (s : State) (l : Line) (x y : Option (Tag × Direction)) :
    (s.repower l x).repower l y = s.repower l y := by
  rw [State.repower, Repower.line_self, Repower.setLine]
  rfl

theorem Repower.same {s : State} {l : Line} {x : Option (Tag × Direction)} (h : (s.line l).openPower = x) :
    s.repower l x = s := by
  subst h
  exact State.setLine_line ..

/-- A claim that commutes with the LINE_POWER open leaves none where none is open. -/
theorem Repower.none_of_commutes {s : State} {l : Line} {F : State → State}
    (hF : ∀ u x, F (u.repower l x) = (F u).repower l x) (h : (s.line l).openPower = none) :
    ((F s).line l).openPower = none := by
  have hsame := hF s none
  rw [Repower.same h] at hsame
  rw [hsame, Repower.line_self]

/-- The operation ends, and the off that waited takes the line down (R130). -/
theorem State.endOp_repower {u : State} {l : Line} (h : (u.line l).openPower = none) (tag : Tag) :
    (u.repower l (some (tag, .off))).endOp l = ((u.endOp l).repower l (some (tag, .off))).goOff l := by
  have hfree : (u.repower l (some (tag, .off))).modLine l (fun L => { L with op := none }) =
      (u.modLine l fun L => { L with op := none }).repower l (some (tag, .off)) := Repower.modLine u l l _ fun _ _ => rfl
  have hoff : (u.line l).offOpen = false := by rw [LineState.offOpen, h]; rfl
  have hopen : (((u.modLine l fun L => { L with op := none }).repower l (some (tag, .off))).line l).offOpen = true := by
    rw [Repower.line_self]
    rfl
  have hend : u.endOp l = u.modLine l fun L => { L with op := none } := by
    rw [State.endOp_of_no_off hoff, State.modLine_eq_setLine]
  rw [hend]
  simp only [State.endOp, hfree, hopen, if_true]

/-! ## The line down -/

section
variable {t : State} {l : Line} (hr : RosterLaw t) (ht : TargetLaw t l)
include hr ht

/-- The off takes the line down from where the operation left it. -/
theorem State.goOff_repower (tag : Tag) : (t.repower l (some (tag, .off))).goOff l =
    (({ t with roster := unpoweredRoster l t.roster } : State).setLine l (unpoweredLine t l .off)).closeAll
      (sweepReports t l ++ [report tag (.closed .done (.linePower l .off (t.boundEntries l).length))]) := by
  let u : State := t.repower l (some (tag, .off))
  have hroster : u.roster = t.roster := Repower.roster ..
  have hline : u.line l = { t.line l with openPower := some (tag, .off) } := Repower.line_self ..
  have hbound : u.boundEntries l = t.boundEntries l := by rw [State.boundEntries, hroster, State.boundEntries]
  have hreports : sweepReports u l = sweepReports t l := by
    simp only [sweepReports, hbound, hline]
  have hswept : unpoweredLine u l .off = unpoweredLine t l .off := by
    simp only [unpoweredLine, State.boundAddresses, hroster, hline, LineState.quarantined]
  have htu : TargetLaw u l := fun r hrq => by
    rw [hline] at hrq
    rw [hroster]
    exact ht r hrq
  rw [State.goOff_eq (s := u) (RosterLaw.of_eq hr hroster (State.setLine_nextSerial ..)) htu (by rw [hline]), hreports, hswept,
    hroster, hbound, Repower.with_roster, Repower.setLine]

/-- The same, with every closing request open. -/
theorem State.goOff_repower_of_open (tag : Tag) (hall : AllOpen t (sweepReports t l ++
      [report tag (.closed .done (.linePower l .off (t.boundEntries l).length))])) :
    let swept := sweepReports t l
    let closing := report tag (.closed .done (.linePower l .off (t.boundEntries l).length))
    (t.repower l (some (tag, .off))).goOff l = ({ t with
      roster := unpoweredRoster l t.roster
      table := tableLess (swept ++ [closing]) t.table
      stop := stopLeft t (Emptied t (swept ++ [closing]))
      reports := t.reports ++ swept ++ [closing] ++ stopClosed t (Emptied t (swept ++ [closing])) } :
      State).setLine l (unpoweredLine t l .off) := by
  intro swept closing
  rw [State.goOff_repower hr ht, ← State.closeAll_setLine]
  refine congrArg (fun u : State => u.setLine l (unpoweredLine t l .off))
    ((State.closeAll_eq_closes (s := { t with roster := unpoweredRoster l t.roster }) hall).trans ?_)
  rw [State.closes, List.append_assoc t.reports swept]

end

/-! ## A line down, then the claim settled -/

/-- The entries BOUND on the other line are those of before. -/
theorem boundEntries_unpowered {l m : Line} (h : m ≠ l) (es : List Entry) :
    (unpoweredRoster l es).filter (·.boundOn m) = es.filter (·.boundOn m) := by
  rw [unpoweredRoster_eq, List.filter_filterMap, ← List.filterMap_eq_filter]
  refine List.filterMap_congr fun e _ => ?_
  by_cases hl : e.line = l
  · have hother : ∀ x : Entry, x.line = l → x.boundOn m = false := fun x hx => by
      simp [Entry.boundOn, hx, Ne.symm h]
    have hgone : (unpoweredEntry l e).filter (·.boundOn m) = none := Option.filter_eq_none_iff.mpr fun y hy => by
      have hline : y.line = l := by
        rcases unpoweredEntry_cases hy with ⟨rfl, -⟩ | ⟨-, -, rfl⟩ | ⟨_, -, -, rfl⟩ <;> exact hl
      rw [hother y hline]
      exact Bool.false_ne_true
    rw [hgone, Option.guard, hother e hl]
    rfl
  · rw [unpoweredEntry, if_neg hl, Option.filter_some, Option.guard]

/-- What a line settles to looks at the entries BOUND on it, the clock, the parameters and the line itself. -/
theorem lineSettled_of_boundEntries {s t : State} {l : Line} (hr : t.boundEntries l = s.boundEntries l)
    (hc : t.clock = s.clock) (hp : t.params = s.params) (hl : t.line l = s.line l) : lineSettled t l = lineSettled s l := by
  have hany : ∀ (u : State) n, u.memberBound l n = (u.boundEntries l).any (·.serial == n) := fun u n => by
    simp only [State.memberBound, State.boundEntries, List.any_filter, Bool.and_comm]
  have hbound : ∀ n, t.memberBound l n = s.memberBound l n := fun n => by rw [hany, hany, hr]
  have hleft : ∀ L, (t.setLine l L).membersLeft l = (s.setLine l L).membersLeft l := fun L => by
    have hset : ∀ u : State, (u.setLine l L).memberBound = u.memberBound := fun u =>
      State.memberBound_congr (State.setLine_roster ..)
    simp only [State.membersLeft, State.line_setLine, hset, funext hbound]
  have hnone : ∀ c, NoneLeft t l t.roster c ↔ NoneLeft s l s.roster c := fun c =>
    forall_congr' fun n => forall_congr' fun _ => iff_of_eq (congrArg (· = false) (hbound n))
  have hmembers : ∀ x p, cycleFrom l x p t.roster = cycleFrom l x p s.roster := fun x p => by
    have hfilter : t.roster.filter (fun e => e.line == l && e.standing.isBound) =
        s.roster.filter fun e => e.line == l && e.standing.isBound := hr
    simp only [cycleFrom]
    rw [hfilter]
  have hcycle : cycleAfter t l t.roster (t.line l) = cycleAfter s l s.roster (s.line l) := by
    simp only [cycleAfter, hc, hp, hl, hnone, hmembers]
  simp only [lineSettled, hcycle, countsSettled, State.waitsT, State.waitsP, State.waitsC, State.line_setLine, hleft]

/-- A line with nothing on it settles to itself. -/
theorem lineSettled_of_idle {s : State} {l : Line} (hpoll : (s.line l).poll = none)
    (hcounts : (s.line l).passedT = 0 ∧ (s.line l).passedP = 0 ∧ (s.line l).passedC = 0) : lineSettled s l = s.line l := by
  obtain ⟨hT, hP, hC⟩ := hcounts
  have hcycle : cycleAfter s l s.roster (s.line l) = s.line l := by simp only [cycleAfter, hpoll]
  rw [lineSettled, hcycle]
  simp only [countsSettled, hT, hP, hC, ite_self]
  have hzero : ∀ L : LineState, L.passedT = 0 → L.passedP = 0 → L.passedC = 0 →
      { L with passedT := 0, passedP := 0, passedC := 0 } = L := fun L h1 h2 h3 => by
    cases L
    simp_all
  exact hzero _ hT hP hC

/-- Taking the line down before the claim settles, or after, is one, if no overrun is counted between (R98, R130). -/
theorem State.settle_goOff_repower {v : State} {l : Line} (hr : RosterLaw v) (ht : TargetLaw v l) (tag : Tag)
    (hsame : (lineSettled v l).counters = (v.line l).counters) :
    ((v.repower l (some (tag, .off))).goOff l).settle = (v.settle.repower l (some (tag, .off))).goOff l := by
  have ho := otherLine_ne l
  let U := unpoweredLine v l .off
  let w : State := { v with roster := unpoweredRoster l v.roster }
  have hline : v.settle.line l = lineSettled v l := State.line_settle ..
  have hsettle : v.settle = (v.setLine l (lineSettled v l)).setLine (otherLine l) (lineSettled v (otherLine l)) :=
    State.settle_of_lines ho rfl rfl
  have hbound : v.settle.boundEntries l = v.boundEntries l := by
    rw [State.boundEntries, State.settle_roster, State.boundEntries]
  obtain ⟨poll, counters, pT, pP, pC, heq, -⟩ := lineSettled_eq v l
  have hcounters : counters = (v.line l).counters := by rw [← hsame, heq]
  rw [hcounters] at heq
  have hdown : unpoweredLine v.settle l .off = U := by
    simp only [unpoweredLine, State.boundAddresses, State.settle_roster, hline, heq, LineState.quarantined, U]
  have hreports : sweepReports v.settle l = sweepReports v l := by
    simp only [sweepReports, hbound, hline, heq]
  have hts : TargetLaw v.settle l := fun r hrq => by
    rw [hline, heq] at hrq
    rw [State.settle_roster]
    exact ht r hrq
  have hwl : lineSettled (w.setLine l U) l = U :=
    (lineSettled_of_idle (by rw [State.line_setLine]) (by rw [State.line_setLine]; exact ⟨rfl, rfl, rfl⟩)).trans
      (State.line_setLine ..)
  have hwo : lineSettled (w.setLine l U) (otherLine l) = lineSettled v (otherLine l) := by
    refine lineSettled_of_boundEntries ?_ (State.setLine_clock ..) (State.setLine_params ..) ?_
    · rw [State.boundEntries, State.setLine_roster]
      exact boundEntries_unpowered ho v.roster
    · rw [State.line_setLine_of_ne _ ho, State.line_with_roster]
  have hlines : ({ v.settle with roster := unpoweredRoster l v.roster } : State).setLine l U =
      (w.setLine l U).setLine (otherLine l) (lineSettled v (otherLine l)) := by
    rw [hsettle, State.setLine_with_roster, State.setLine_with_roster, State.setLine_swap _ ho, State.setLine_setLine]
  rw [State.goOff_repower hr ht, State.settle_closeAll, State.settle_of_lines ho hwl hwo, State.setLine_setLine,
    State.goOff_repower (RosterLaw.of_eq hr (State.settle_roster ..) (State.settle_nextSerial ..)) hts, hdown, hreports,
    hbound, State.settle_roster, hlines]

/-! ## The overruns of a line -/

/-- The overrun counter of a line (R135). -/
def State.overruns (s : State) (l : Line) : BitVec 32 := (s.line l).counters.overruns

section
variable (s : State) (l m : Line)

theorem overruns_modLine {f : LineState → LineState} (hf : ∀ L, (f L).counters.overruns = L.counters.overruns) :
    (s.modLine m f).overruns l = s.overruns l := by
  rw [State.overruns, State.overruns]
  by_cases h : l = m
  · subst h
    rw [State.line_modLine]
    exact hf _
  · rw [State.line_modLine_of_ne _ h]

theorem overruns_of_line {s t : State} {l : Line} (h : t.line l = s.line l) : t.overruns l = s.overruns l := by
  rw [State.overruns, h, State.overruns]

theorem overruns_close (tag : Tag) (o : CloseOutcome) (x : CloseResult) : (s.close tag o x).overruns l = s.overruns l :=
  overruns_of_line (State.line_closeAll (rs := [report tag (.closed o x)]) ..)

theorem overruns_purge (i : Ident) : (s.purge m i).overruns l = s.overruns l := by
  rw [State.purge, overruns_of_line (State.line_closeTxns ..)]
  exact overruns_modLine s l m fun _ => rfl

theorem overruns_updEntry (n : Nat) (f : Entry → Entry) : (s.updEntry n f).overruns l = s.overruns l :=
  overruns_of_line (State.line_with_roster ..)

theorem overruns_removeEntry (e : Entry) : (s.removeEntry e).overruns l = s.overruns l := by
  unfold State.removeEntry
  cases e.held with
  | none => exact overruns_of_line (State.line_with_roster ..)
  | some a =>
    refine (overruns_modLine _ l _ ?_).trans (overruns_of_line (State.line_with_roster ..))
    exact fun _ => rfl

theorem overruns_countOut (e : Entry) : (s.countOut e).overruns l = s.overruns l := by
  have hquarantine : ∀ a lease o, (s.quarantineAddress e.line a lease o).overruns l = s.overruns l := fun a lease o => by
    refine overruns_modLine s l e.line ?_
    exact fun _ => rfl
  unfold State.countOut
  cases e.standing with
  | bound a lease =>
    cases e.forgetting with
    | none => simp only [overruns_updEntry, overruns_purge, hquarantine]
    | some tag => simp only [State.closeForget, overruns_close, overruns_removeEntry, overruns_purge, hquarantine]
  | lost _ => rfl
  | unbound => rfl

theorem overruns_miss (n : Nat) (c : LossCause) : (s.miss n c).overruns l = s.overruns l := by
  have hevents : ∀ (u : State) es, (u.pushLineEvents es).overruns l = u.overruns l := fun u es => by
    rw [State.pushLineEvents_eq_brought]
    exact overruns_of_line (line_brought ..)
  simp only [State.miss]
  cases s.entryOf n with
  | none => rfl
  | some e =>
    dsimp only
    split
    · split
      · rw [hevents, overruns_countOut]
      · rw [overruns_updEntry]
    · rfl

/-- A poll heard counts no overrun. -/
theorem overruns_pollHeard (n : Nat) (i : Ident) (a : Address) (w : WindowClass) :
    (s.pollHeard m n i a w).overruns l = s.overruns l := by
  have hattention : ∀ (u : State) e flag, (u.reportAttention m e a flag).overruns l = u.overruns l := fun u e flag => by
    unfold State.reportAttention
    split
    · rw [State.pushEvent_eq_brought]
      exact overruns_of_line (line_brought ..)
    · rfl
  have hcounted : ((s.countWindow m w).countMismatch m (mismatch w i)).overruns l = s.overruns l := by
    have hwindow : (s.countWindow m w).overruns l = s.overruns l := by
      refine overruns_modLine s l m ?_
      exact fun _ => by cases w <;> rfl
    rw [← hwindow, State.countMismatch]
    split
    · refine overruns_modLine _ l m ?_
      exact fun _ => rfl
    · rfl
  simp only [State.pollHeard]
  cases w with
  | silence => rw [overruns_miss, hcounted]
  | garbled => rw [overruns_miss, hcounted]
  | valid b =>
    cases b with
    | status c flag =>
      dsimp only
      split
      · cases ((s.countWindow m (.valid (.status c flag))).countMismatch m _).entryOf n with
        | none => exact hcounted
        | some e =>
          dsimp only
          split
          · rw [hattention, State.answered, overruns_updEntry, hcounted]
          · exact hcounted
      · rw [overruns_miss, hcounted]
    | _ => rw [overruns_miss, hcounted]

/-- Settling a line leaves its counters, or counts an overrun. -/
theorem counters_lineSettled : (lineSettled s l).counters = (s.line l).counters ∨
    (lineSettled s l).counters.overruns = (s.line l).counters.overruns + 1 := by
  have hkeep : (lineSettled s l).counters = (cycleAfter s l s.roster (s.line l)).counters := rfl
  rw [hkeep]
  cases hp : (s.line l).poll with
  | none => exact .inl (by simp only [cycleAfter, hp])
  | some c =>
    simp only [cycleAfter, hp]
    split
    · dsimp only
      split
      · exact .inr rfl
      · exact .inl rfl
    · exact .inl rfl

theorem counters_lineSettled_of_overruns (h : (lineSettled s l).counters.overruns = (s.line l).counters.overruns) :
    (lineSettled s l).counters = (s.line l).counters := by
  rcases counters_lineSettled s l with hsame | hmore
  · exact hsame
  · exact absurd (hmore.symm.trans h) (by simp)

/-- A cycle that is not done counts no overrun. -/
theorem counters_lineSettled_of_not_done (h : s.cycleDone l = false) :
    (lineSettled s l).counters = (s.line l).counters := by
  have hkeep : (lineSettled s l).counters = (cycleAfter s l s.roster (s.line l)).counters := rfl
  rw [hkeep, cycleAfter_of_not_done h]

end

/-! ## The windows that end a slot -/

/-- The end of a slot in whose round no event is brought. -/
abbrev slotEnded (l : Line) (w : WindowClass) (g : Census → Census) (u : State) : State :=
  ((u.countWindow l w).modCensus l g).slotEnd l none

theorem Repower.slotEnded (l : Line) (w : WindowClass) (g : Census → Census) (u : State) (x : Option (Tag × Direction)) :
    slotEnded l w g (u.repower l x) = (slotEnded l w g u).repower l x := by
  rw [Machine.slotEnded, Repower.countWindow, Repower.modCensus, Repower.slotEnd]

/-- An opening window ends its slot, or a CLAIM goes out. -/
theorem openingWindow_ends (l : Line) (w : WindowClass) :
    (∃ g, ∀ u : State, u.openingWindow l w = (slotEnded l w g u).endOp l) ∨
      ∀ u : State, ((u.openingWindow l w).line l).op ≠ none := by
  cases w with
  | silence => exact .inl ⟨_, fun _ => rfl⟩
  | garbled => exact .inl ⟨_, fun _ => rfl⟩
  | valid a =>
    cases a with
    | stub k =>
      refine .inr fun u => ?_
      simp only [State.openingWindow, State.beginOp, State.line_modLine]
      exact Option.some_ne_none _
    | _ => exact .inl ⟨_, fun _ => rfl⟩

/-- A CLAIM's window spoils its slot, or a BIND or HUSH goes out. -/
theorem claimHeard_ends (l : Line) (k : Handle) (w : WindowClass) :
    (∃ g, ∀ u : State, u.claimHeard l k w = (slotEnded l w g u).endOp l) ∨
      ∀ u : State, ((u.claimHeard l k w).line l).op ≠ none := by
  have hgoes : ∀ (u : State) p c, ((u.beginOp l p c).line l).op ≠ none := fun u p c => by
    simp only [State.beginOp, State.line_modLine]
    exact Option.some_ne_none _
  cases w with
  | silence => exact .inl ⟨_, fun _ => rfl⟩
  | garbled => exact .inl ⟨_, fun _ => rfl⟩
  | valid a =>
    cases a with
    | identity i m =>
      by_cases hi : validIdentity i = true
      · refine .inr fun u => ?_
        simp only [State.claimHeard, hi, if_true]
        split <;> exact hgoes _ _ _
      · refine .inl ⟨fun c => { c with
          spoiledSlots := c.spoiledSlots + 1, totals := { c.totals with spoiled := c.totals.spoiled + 1 } }, fun u => ?_⟩
        simp only [State.claimHeard, hi, if_false, Bool.false_eq_true]
        rfl
    | _ => exact .inl ⟨_, fun _ => rfl⟩

theorem cycleDone_congr {s t : State} {l : Line} (hr : t.roster = s.roster) (hpoll : (t.line l).poll = (s.line l).poll)
    (hprog : (t.line l).pollInProgress = (s.line l).pollInProgress) : t.cycleDone l = s.cycleDone l := by
  simp only [State.cycleDone, LineState.cycleRunning, State.membersLeft, State.memberBound_congr hr, hpoll, hprog]

/-- A slot that ends leaves the cycle of its line as it was. -/
theorem cycleDone_slotEnded {v : State} {l : Line} (hnone : (v.line l).openPower = none)
    (hprog : (v.line l).pollInProgress = false) (hdone : v.cycleDone l = false) (w : WindowClass) (g : Census → Census) :
    ((slotEnded l w g v).endOp l).cycleDone l = false := by
  have hoff : ((slotEnded l w g v).line l).offOpen = false := by
    rw [LineState.offOpen, Repower.none_of_commutes (F := slotEnded l w g) (Repower.slotEnded l w g) hnone]
    rfl
  obtain ⟨honly, c, hline⟩ := (CensusOnly.modCensus (v.countWindow l w) l g).trans (CensusOnly.slotEnd _ l none)
  rw [State.endOp_of_no_off hoff, ← hdone]
  refine cycleDone_congr ?_ ?_ ?_
  · rw [State.setLine_roster, honly.roster, State.countWindow_eq, State.setLine_roster]
  · rw [State.line_setLine, hline, State.countWindow_eq, State.line_setLine]
  · rw [State.line_setLine, hprog]
    rfl

/-! ## The command that ends the operation -/

/-- What a command does besides ending the operation of its line, the off left aside, and what is still to settle. -/
theorem goesOff_of_endOp {s : State} {l : Line} (h : (s.line l).openPower = none) (tag : Tag) {F : State → State}
    (hF : ∀ u x, F (u.repower l x) = (F u).repower l x) :
    (F (s.repower l (some (tag, .off)))).endOp l = (((F s).endOp l).repower l (some (tag, .off))).goOff l := by
  rw [hF, State.endOp_repower (Repower.none_of_commutes hF h)]

end Sys2Proof.Machine
open Sys2Proof.Machine Sys2Proof.Statements

/-- Settles O37: the command's claim commutes with the off, and the end of the operation takes the line down. -/
theorem offTakesLineDownAfterOperation : Obligations.OffTakesLineDownAfterOperation := by
  intro s t l tag h c hc hs hp hop hexec hdone hr ht hpoll swept closing hall
  let v : State := s.repower l none
  have hnone : (v.line l).openPower = none := by rw [Repower.line_self]
  have hback : s = v.repower l (some (tag, .off)) := ((Repower.again s l none _).trans (Repower.same hp)).symm
  have hvop : (v.line l).op = (s.line l).op := by rw [Repower.line_self]
  have hidle : t ≠ v := fun htv => hop (by rw [← hvop, ← htv]; exact hdone)
  replace hexec : exec c v = .next t := hexec
  suffices hdown : exec c s = .next ((t.repower l (some (tag, .off))).goOff l) by
    rw [hdown, State.goOff_repower_of_open hr ht tag hall]
  have hopen : ∀ (o : LineOp) k, Listening v l o → o.work = k → WindowOpen s l k o.call := fun o k ho hk => by
    obtain ⟨hopo, hlisten⟩ := ho
    rw [WindowOpen, ← hvop, hopo, ← hk, ← hlisten]
  have hends : ∀ F : State → State, (∀ u x, F (u.repower l x) = (F u).repower l x) → t = (F v).endOp l →
      exec c s = .next ((F s).endOp l) → exec c s = .next ((t.repower l (some (tag, .off))).goOff l) :=
    fun F hF htF hsF => by
      rw [hsF, htF, ← goesOff_of_endOp hnone tag hF, ← hback]
  have hsettles : ∀ F : State → State, (∀ u x, F (u.repower l x) = (F u).repower l x) → t = ((F v).endOp l).settle →
      (lineSettled ((F v).endOp l) l).counters = (((F v).endOp l).line l).counters →
      exec c s = .next ((F s).endOp l).settle → exec c s = .next ((t.repower l (some (tag, .off))).goOff l) :=
    fun F hF htF hcounters hsF => by
      subst htF
      have hru : RosterLaw ((F v).endOp l) :=
        RosterLaw.of_eq hr (State.settle_roster ..).symm (State.settle_nextSerial ..).symm
      have htu : TargetLaw ((F v).endOp l) l := fun r hrq => by
        obtain ⟨_, _, _, _, _, heq, -⟩ := lineSettled_eq ((F v).endOp l) l
        have hmem := ht r (by rw [State.line_settle, heq]; exact hrq)
        rwa [State.settle_roster] at hmem
      rw [hsF, ← State.settle_goOff_repower hru htu tag hcounters, ← goesOff_of_endOp hnone tag hF, ← hback]
  simp only [List.mem_cons, List.not_mem_nil, or_false] at hc
  rcases hc with rfl | rfl | rfl | rfl | rfl | rfl | rfl
  · rcases exec_slotWindow hexec with hstay | ⟨o, ho, hwork, rfl⟩
    · exact absurd hstay hidle
    rcases openingWindow_ends l (o.call.classify h) with ⟨g, hg⟩ | hgoes
    · exact hends _ (Repower.slotEnded l _ g) (hg v)
        ((exec_slotWindow_of_open h (hopen o _ ho hwork)).trans (congrArg _ (hg s)))
    · exact absurd hdone (hgoes v)
  · rcases exec_claimWindow hexec with hstay | ⟨o, ho, hwork, rfl⟩
    · exact absurd hstay hidle
    rcases claimHeard_ends l o.call.handle (o.call.classify h) with ⟨g, hg⟩ | hgoes
    · have hnot : (v.line l).pollInProgress = false := by
        simp [LineState.pollInProgress, ho.1, LineOp.isPoll, hwork]
      have hstill : v.cycleDone l = false := (Repower.cycleDone ..).trans (waitLaw_of_settled hs l).2
      refine hsettles _ (Repower.slotEnded l _ g) (congrArg State.settle (hg v)) ?_
        ((exec_claimWindow_of_open h (hopen o _ ho hwork)).trans (congrArg (fun u => Host.Outcome.next (State.settle u)) (hg s)))
      exact counters_lineSettled_of_not_done _ l (cycleDone_slotEnded hnone hnot hstill _ g)
    · refine absurd hdone ?_
      obtain ⟨_, _, _, _, _, heq, -⟩ := lineSettled_eq (v.claimHeard l o.call.handle (o.call.classify h)) l
      rw [State.line_settle, heq]
      exact hgoes v
  · rcases exec_bindOutcome hexec with hstay | ⟨o, n, i, mem, e, ho, hwork, rfl⟩
    · exact absurd hstay hidle
    have hs' := exec_bindOutcome_of_open h (hopen o _ ho hwork)
    by_cases hack : judge (o.call.classify h) i = .finished none
    · rw [State.bindHeard, if_pos hack] at hs'
      refine hends (fun u => ((((u.countWindow l (o.call.classify h)).countMismatch l
        (mismatch (o.call.classify h) i)).bindOutcome n true).settle.modCensus l fun c =>
          { c with boundNodes := c.boundNodes + 1, totals := c.totals.confirmed e }).slotEnd l (some e.report))
        (fun u x => ?_) (if_pos hack) hs'
      rw [Repower.countWindow, Repower.countMismatch, Repower.bindOutcome, Repower.settle, Repower.modCensus,
        Repower.slotEnd]
    · rw [State.bindHeard, if_neg hack] at hs'
      refine hends (fun u => ((((u.countWindow l (o.call.classify h)).countMismatch l
        (mismatch (o.call.classify h) i)).bindOutcome n false).settle.modCensus l fun c =>
          { c with totals := { c.totals with bindUnconfirmed := c.totals.bindUnconfirmed + 1 } }).slotEnd l
            (some fun round slot => .nodeFound i l o.call.bindAddress mem round slot true))
        (fun u x => ?_) (if_neg hack) hs'
      rw [Repower.countWindow, Repower.countMismatch, Repower.bindOutcome, Repower.settle, Repower.modCensus,
        Repower.slotEnd]
  · rcases exec_hushWindow hexec with hstay | ⟨o, i, r, e, m, ho, hwork, rfl⟩
    · exact absurd hstay hidle
    refine hends (fun u => ((u.countWindow l (o.call.classify h)).modCensus l fun c =>
      { c with totals := c.totals.hushed r }).slotEnd l (if m then none else e.map FindEvent.report)) (fun u x => ?_) rfl
      (exec_hushWindow_of_open h (hopen o _ ho hwork))
    rw [Repower.countWindow, Repower.modCensus, Repower.slotEnd]
  · rcases exec_pollWindow hexec with hstay | ⟨o, n, i, ho, hwork, rfl⟩
    · exact absurd hstay hidle
    refine hsettles (fun u => u.pollHeard l n i o.call.address (o.call.classify h)) (fun u x => Repower.pollHeard ..) rfl ?_ ?_
    · refine counters_lineSettled_of_overruns _ l ?_
      have hoff : ((v.pollHeard l n i o.call.address (o.call.classify h)).line l).offOpen = false := by
        rw [LineState.offOpen, Repower.none_of_commutes (F := fun u => u.pollHeard l n i o.call.address (o.call.classify h))
          (fun u x => Repower.pollHeard ..) hnone]
        rfl
      have hkept : ((v.pollHeard l n i o.call.address (o.call.classify h)).endOp l).overruns l = s.overruns l := by
        rw [State.endOp_of_no_off hoff, State.overruns, State.line_setLine]
        refine (overruns_pollHeard v l l n i o.call.address (o.call.classify h)).trans ?_
        rw [State.overruns, Repower.line_self, State.overruns]
      have hcount := hpoll rfl
      rw [State.line_settle] at hcount
      exact hcount.trans hkept.symm
    · simp only [exec, execPollWindow, LineState.window, hopen o _ ho hwork, if_true]
  · rcases exec_attemptWindow hexec with hstay | ⟨o, ho, hwork, hcall, rfl⟩
    · exact absurd hstay hidle
    refine hends (fun u => (u.attemptHeard l (o.call.classify h)).settle) (fun u x => ?_) rfl
      (exec_attemptWindow_of_open (hopen o _ ho hwork) hcall)
    rw [Repower.attemptHeard, Repower.settle]
  · rcases exec_releaseWindow hexec with hstay | ⟨o, ho, hwork, hcall, rfl⟩
    · exact absurd hstay hidle
    refine hends (fun u => (u.releaseHeard l (o.call.classify h)).settle) (fun u x => ?_) rfl
      (exec_releaseWindow_of_open (hopen o _ ho hwork) hcall)
    rw [Repower.releaseHeard, Repower.settle]
end

section
/-! A lowered miss_limit (R30, R176): the entries at or above it are counted out one after another, in one equation. -/

namespace Sys2Proof.Machine

open Sys2Proof.Statements

/-! ## What some entries counted out leave -/

/-- What is left of an entry when some have been counted out (R29). -/
def sweptEntry (done : List Entry) (e : Entry) : Option Entry :=
  if done.any (·.identity == e.identity) then
    match e.standing, e.forgetting with
    | .bound a _, none => some { e with standing := .lost (some a), misses := 0, pendingTx := 0 }
    | .bound _ _, some _ => none
    | _, _ => some e
  else some e

/-- A queue when some entries have been counted out (R115). -/
abbrev queueSwept (done : List Entry) (l : Line) (queue : List Txn) : List Txn :=
  queue.filter fun r => !done.any fun e => e.line == l && e.identity == r.target

/-- The lines when some entries have been counted out, their quarantine given. -/
abbrev linesSwept (s : State) (done : List Entry) (q : Line → List QuarantineRec) (l : Line) : LineState :=
  { s.line l with
    quarantine := q l
    nextSeq := (s.line l).nextSeq + (done.filter (·.line == l)).length
    queue := queueSwept done l (s.line l).queue }

/-- The state when some entries have been counted out. -/
abbrev State.sweptOut (s : State) (done : List Entry) (q : Line → List QuarantineRec) : State :=
  (({ s with roster := s.roster.filterMap (sweptEntry done) } : State).withLines (linesSwept s done q)).closeAll
    (done.flatMap fun e => outReports (s.line e.line).queue e)

theorem any_identity_append (done : List Entry) (e : Entry) (i : Ident) :
    (done ++ [e]).any (·.identity == i) = (done.any (·.identity == i) || e.identity == i) := by
  simp

theorem sweptEntry_ids {done : List Entry} {x y : Entry} (h : sweptEntry done x = some y) :
    y.identity = x.identity ∧ y.serial = x.serial := by
  unfold sweptEntry at h
  split at h
  · split at h
    · obtain rfl := Option.some.inj h
      exact ⟨rfl, rfl⟩
    · exact nomatch h
    · obtain rfl := Option.some.inj h
      exact ⟨rfl, rfl⟩
  · obtain rfl := Option.some.inj h
    exact ⟨rfl, rfl⟩

/-- One entry more: its records leave their queue. -/
theorem queueSwept_append (done : List Entry) (e : Entry) (l : Line) (queue : List Txn) :
    queueSwept (done ++ [e]) l queue =
      if l = e.line then purged (queueSwept done l queue) e.identity else queueSwept done l queue := by
  by_cases h : l = e.line
  · subst h
    rw [if_pos rfl, queueSwept, purged, queueSwept, List.filter_filter]
    refine List.filter_congr fun r _ => ?_
    simp [List.any_append, bne, Bool.and_comm, Bool.beq_comm]
  · have hno : (e.line == l) = false := by simpa using Ne.symm h
    rw [if_neg h, queueSwept, queueSwept]
    refine List.filter_congr fun r _ => ?_
    simp [List.any_append, hno]

section
variable {s : State} (hr : RosterLaw s) {done : List Entry} {e : Entry} (he : e ∈ s.roster)
  (hnew : ∀ x ∈ done, x.identity ≠ e.identity) {a lease : Nat} (hb : e.standing = .bound a lease)
include hr he hnew hb

/-- One entry more is counted out of the roster. -/
theorem countedOut_swept : countedOut e a (s.roster.filterMap (sweptEntry done)) =
    s.roster.filterMap (sweptEntry (done ++ [e])) := by
  have hfresh : done.any (·.identity == e.identity) = false :=
    List.any_eq_false.mpr fun x hx => by simpa using hnew x hx
  have hbefore : sweptEntry done e = some e := by rw [sweptEntry, hfresh]; rfl
  have hother : ∀ x ∈ s.roster, x ≠ e → sweptEntry (done ++ [e]) x = sweptEntry done x ∧ x.identity ≠ e.identity :=
    fun x hx hne => by
      have hid : x.identity ≠ e.identity := fun h => hne (RosterLaw.identity_inj hr hx he h)
      have hno : (e.identity == x.identity) = false := by simpa using hid.symm
      refine ⟨?_, hid⟩
      rw [sweptEntry, any_identity_append, hno, Bool.or_false, sweptEntry]
  have hself : (done ++ [e]).any (·.identity == e.identity) = true := by simp
  unfold countedOut
  split
  · rename_i hf
    rw [withEntry, List.map_filterMap]
    refine List.filterMap_congr fun x hx => ?_
    by_cases hxe : x = e
    · subst hxe
      rw [hbefore, sweptEntry, hself]
      simp [hb, hf]
    · obtain ⟨hsame, hid⟩ := hother x hx hxe
      rw [hsame]
      cases hy : sweptEntry done x with
      | none => rfl
      | some y => exact congrArg some (if_neg ((sweptEntry_ids hy).1 ▸ hid))
  · rename_i hf
    rw [List.filter_filterMap]
    refine List.filterMap_congr fun x hx => ?_
    by_cases hxe : x = e
    · subst hxe
      obtain ⟨tag, htag⟩ := Option.ne_none_iff_exists'.mp hf
      rw [hbefore, sweptEntry, hself]
      simp [hb, htag]
    · obtain ⟨hsame, hid⟩ := hother x hx hxe
      rw [hsame]
      cases hy : sweptEntry done x with
      | none => rfl
      | some y =>
        have hkeep : (y.identity != e.identity) = true := by simpa [(sweptEntry_ids hy).1] using hid
        rw [Option.filter_some, hkeep]
        rfl

omit hr he hb

/-- The CLOSED of an entry counted out behind others are those of the queue that stood first. -/
theorem outReports_swept (queue : List Txn) :
    outReports (queueSwept done e.line queue) e = outReports queue e := by
  have hlost : lostReports (queueSwept done e.line queue) e.identity = lostReports queue e.identity := by
    rw [lostReports, queueSwept, List.filterMap_filter]
    refine List.filterMap_congr fun r _ => ?_
    by_cases ht : r.target = e.identity
    · have hkeep : (done.any fun x => x.line == e.line && x.identity == r.target) = false :=
        List.any_eq_false.mpr fun x hx => by simp [ht, hnew x hx]
      rw [hkeep]
      rfl
    · simp [ht]
  rw [outReports, hlost]

end

/-- The record that an entry counted out behind others enters quarantine with (R29, R47). -/
abbrev sweptRecord (s : State) (done : List Entry) (e : Entry) (a lease : Nat) : QuarantineRec :=
  { quarantined s e.line a lease (outOrigin e) with
    seq := (s.line e.line).nextSeq + (done.filter (·.line == e.line)).length }

/-- One entry more: its record joins the quarantine of its line. -/
theorem WithCountedOut.append {s : State} {done : List Entry} {q : Line → List QuarantineRec} {e : Entry} {a lease : Nat}
    (hb : e.standing = .bound a lease) (h : ∀ l, WithCountedOut s l done (q l)) (l : Line) :
    WithCountedOut s l (done ++ [e]) (Function.update q e.line
      (insertRecord s.clock (sweptRecord s done e a lease) (q e.line)) l) := by
  obtain ⟨hperm, horder⟩ := h l
  by_cases hl : l = e.line
  · subst hl
    have hmore : (done ++ [e]).filter (·.line == e.line) = done.filter (·.line == e.line) ++ [e] := by
      rw [List.filter_append, List.filter_singleton]
      simp
    rw [Function.update_self]
    refine ⟨?_, fun hseq hin => inOrder_insertRecord (horder hseq hin) _⟩
    refine (insertRecord_perm ..).trans ((hperm.cons _).trans ?_)
    simp only [hmore, List.zipIdx_append, List.filterMap_append, List.zipIdx_singleton, List.filterMap_cons, hb,
      List.filterMap_nil, Nat.zero_add]
    rw [List.append_assoc]
    exact List.perm_middle.symm
  · have hno : (e.line == l) = false := by simpa using Ne.symm hl
    have hmore : (done ++ [e]).filter (·.line == l) = done.filter (·.line == l) := by
      rw [List.filter_append, List.filter_singleton, hno]
      exact List.append_nil _
    rw [Function.update_of_ne hl]
    refine ⟨?_, horder⟩
    rw [hmore]
    exact hperm

/-- One entry more is counted out. -/
theorem State.countOut_sweptOut {s : State} (hr : RosterLaw s) {done : List Entry} {e : Entry} (he : e ∈ s.roster)
    (hnew : ∀ x ∈ done, x.identity ≠ e.identity) {a lease : Nat} (hb : e.standing = .bound a lease)
    {q : Line → List QuarantineRec} (hru : RosterLaw (s.sweptOut done q)) (heu : e ∈ (s.sweptOut done q).roster) :
    (s.sweptOut done q).countOut e = s.sweptOut (done ++ [e])
      (Function.update q e.line (insertRecord s.clock (sweptRecord s done e a lease) (q e.line))) := by
  let u := s.sweptOut done q
  let after := Function.update q e.line (insertRecord s.clock (sweptRecord s done e a lease) (q e.line))
  have hline : u.line e.line = linesSwept s done q e.line := by rw [State.line_closeAll, State.line_withLines]
  have hroster : u.roster = s.roster.filterMap (sweptEntry done) := State.closeAll_roster ..
  have hclock : u.clock = s.clock := State.closeAll_clock ..
  have hparams : u.params = s.params := State.closeAll_params ..
  have hout : outLine u e a lease = linesSwept s (done ++ [e]) after e.line := by
    have hcount : (done ++ [e]).filter (·.line == e.line) = done.filter (·.line == e.line) ++ [e] := by
      rw [List.filter_append, List.filter_singleton]
      simp
    simp only [outLine, quarantined, hline, hclock, hparams, linesSwept, hcount, List.length_append, List.length_singleton,
      queueSwept_append, if_true, after, Function.update_self, Nat.add_assoc, sweptRecord]
  have hlines : Function.update (linesSwept s done q) e.line (outLine u e a lease) = linesSwept s (done ++ [e]) after := by
    funext m
    by_cases hm : m = e.line
    · subst hm
      rw [Function.update_self, hout]
    · have hno : (e.line == m) = false := by simpa using Ne.symm hm
      have hcount : (done ++ [e]).filter (·.line == m) = done.filter (·.line == m) := by
        rw [List.filter_append, List.filter_singleton, hno]
        exact List.append_nil _
      rw [Function.update_of_ne hm]
      simp only [linesSwept, hcount, queueSwept_append, if_neg hm, after, Function.update_of_ne hm]
  rw [State.countOut_of_bound hru heu hb, hline, hroster, countedOut_swept hr he hnew hb, outReports_swept hnew]
  refine (congrArg (fun v : State => (v.setLine e.line (outLine u e a lease)).closeAll _)
    (State.closeAll_with_roster ..)).trans ?_
  rw [State.closeAll_setLine, State.closeAll_closeAll]
  have hset : (({ s with roster := s.roster.filterMap (sweptEntry (done ++ [e])) } : State).withLines
      (linesSwept s done q)).setLine e.line (outLine u e a lease) =
      ({ s with roster := s.roster.filterMap (sweptEntry (done ++ [e])) } : State).withLines (linesSwept s (done ++ [e]) after) := by
    rw [State.withLines_setLine, hlines]
  rw [State.sweptOut, List.flatMap_append, List.flatMap_singleton]
  exact congrArg (State.closeAll · _) hset

/-- The entries of a list counted out one after another (R30). -/
theorem State.countOut_foldl_eq {s : State} (hr : RosterLaw s) {out : List Entry} (hmem : ∀ e ∈ out, e ∈ s.roster)
    (hbound : ∀ e ∈ out, e.standing.isBound = true) (hn : (out.map (·.identity)).Nodup) :
    ∃ q, (∀ l, WithCountedOut s l out (q l)) ∧ out.foldl State.countOut s = s.sweptOut out q := by
  let P (rest : List Entry) (u : State) : Prop := RosterLaw u ∧ ∃ done q, done ++ rest = out ∧
    (∀ l, WithCountedOut s l done (q l)) ∧ u = s.sweptOut done q
  have hstart : P out s := by
    refine ⟨hr, [], fun l => (s.line l).quarantine, rfl, fun l => ⟨.rfl, fun _ h => h⟩, ?_⟩
    have hroster : s.roster.filterMap (sweptEntry []) = s.roster := List.filterMap_some ..
    have hlines : linesSwept s [] (fun l => (s.line l).quarantine) = s.line := by
      funext l
      simp only [linesSwept, queueSwept, List.any_nil, Bool.not_false, List.filter_true, List.filter_nil, List.length_nil,
        Nat.add_zero]
    rw [State.sweptOut, hroster, hlines]
    rfl
  have hstep : ∀ {e es u}, P (e :: es) u → e ∈ u.roster → P es (u.countOut e) := by
    rintro e es u ⟨hru, done, q, rfl, hq, rfl⟩ heu
    have he : e ∈ done ++ e :: es := List.mem_append_right _ List.mem_cons_self
    obtain ⟨a, lease, hb⟩ := Standing.exists_of_isBound (hbound e he)
    have hnew : ∀ x ∈ done, x.identity ≠ e.identity := fun x hx hid => by
      rw [List.map_append, List.nodup_append] at hn
      exact hn.2.2 _ (List.mem_map_of_mem hx) _ (List.mem_map_of_mem List.mem_cons_self) hid
    refine ⟨RosterLaw.countOut hru heu, done ++ [e], _, by simp, WithCountedOut.append hb hq, ?_⟩
    exact State.countOut_sweptOut hr (hmem e he) hnew hb hru heu
  obtain ⟨-, done, q, hdone, hq, heq⟩ := countOut_foldl (P := P) (fun h => h.1) hstep hstart hmem hn
  rw [List.append_nil] at hdone
  subst hdone
  exact ⟨q, hq, heq⟩

end Sys2Proof.Machine
end

section
/-! SET_PARAM of a lower miss_limit (R30, R98, R164, R176). -/

namespace Sys2Proof.Machine

open Sys2Proof.Statements

/-! ## The reports only grow -/

theorem State.reports_closeAll_grow (s : State) (rs : List Report) : ∃ more, (s.closeAll rs).reports = s.reports ++ more := by
  induction rs generalizing s with
  | nil => exact ⟨[], (List.append_nil _).symm⟩
  | cons r rs ih =>
    obtain ⟨later, hlater⟩ := ih (s.closeReport r)
    have hfirst : ∃ more, (s.closeReport r).reports = s.reports ++ more := by
      unfold State.closeReport
      split
      · obtain ⟨more, st, heq⟩ := State.settleStop_eq { s with
          table := s.table.filter (·.tag != r.tag), reports := s.reports ++ [r] }
        exact ⟨[r] ++ more, by rw [heq, ← List.append_assoc]⟩
      · exact ⟨[], (List.append_nil _).symm⟩
    obtain ⟨first, hfirst⟩ := hfirst
    exact ⟨first ++ later, by rw [State.closeAll_cons, hlater, hfirst, List.append_assoc]⟩

theorem reports_brought_grow (tag : Tag) (es : List Event) (s : State) :
    ∃ more, (brought tag es s).reports = s.reports ++ more := by
  induction es generalizing s with
  | nil => exact ⟨[], (List.append_nil _).symm⟩
  | cons e es ih =>
    rw [brought]
    split
    · obtain ⟨later, hlater⟩ := ih { s with
        reports := s.reports ++ [report tag (.event s.dropped e)], dropped := 0 }
      exact ⟨_ :: later, by rw [hlater, List.append_assoc]; rfl⟩
    · exact ih { s with dropped := saturating s.dropped }

/-! ## The entries at or above the limit -/

section
variable {s : State} (hr : RosterLaw s) (v : Nat)
include hr

/-- The roster after the sweep, entry by entry. -/
theorem filterMap_overLimit : s.roster.filterMap (sweptEntry (overLimit s v)) = s.roster.filterMap fun e =>
    match e.standing, e.forgetting with
    | .bound a _, none =>
      if v ≤ e.misses then some { e with standing := .lost (some a), misses := 0, pendingTx := 0 } else some e
    | .bound _ _, some _ => if v ≤ e.misses then none else some e
    | _, _ => some e := by
  refine List.filterMap_congr fun e he => ?_
  have hany : (overLimit s v).any (·.identity == e.identity) = (e.standing.isBound && decide (v ≤ e.misses)) := by
    rw [Bool.eq_iff_iff, List.any_eq_true]
    constructor
    · rintro ⟨x, hx, hid⟩
      obtain ⟨hxr, hover⟩ := List.mem_filter.mp hx
      obtain rfl := RosterLaw.identity_inj hr hxr he (by simpa using hid)
      exact hover
    · exact fun hover => ⟨e, List.mem_filter.mpr ⟨he, hover⟩, by simp⟩
  rw [sweptEntry, hany]
  cases hst : e.standing with
  | bound a lease =>
    cases hf : e.forgetting with
    | none => by_cases hv : v ≤ e.misses <;> simp [Standing.isBound, hv]
    | some tag => by_cases hv : v ≤ e.misses <;> simp [Standing.isBound, hv]
  | lost o => simp [Standing.isBound]
  | unbound => simp [Standing.isBound]

end

/-- The NODE_LOST events of the sweep. -/
theorem flatMap_lossEvents (out : List Entry) : out.flatMap (·.lossEvents .limit) = out.flatMap fun e =>
    match e.standing with
    | .bound a _ => lossOf e a .limit
    | _ => [] := by
  refine List.flatMap_congr fun e _ => ?_
  unfold Entry.lossEvents lossOf
  cases e.standing with
  | bound a lease => cases hf : e.forgetting <;> simp
  | lost o => rfl
  | unbound => rfl

/-- The state in which a lower miss_limit is stored and answered. -/
abbrev State.lowered (s : State) (tag : Tag) (v : Nat) : State :=
  { s with
    params := { s.params with missLimit := v }
    reports := s.reports ++ [report tag (.paramValue 2 v)] }

theorem State.line_lowered (s : State) (tag : Tag) (v : Nat) (l : Line) : (s.lowered tag v).line l = s.line l := by
  cases l <;> rfl

/-- The lowered miss_limit sweeps the roster (R30, R175, R176). -/
theorem exec_setParam_lowered {s : State} (hs : TakesNow s) {v : Nat} (hv : 1 ≤ v) (hv8 : v ≤ 8)
    (hlow : v < s.params.missLimit) (hcross : CrossChecked s.params) (tag : Tag) :
    exec (.setParam tag (Request.setParam 2 v).body) s = .next (((s.lowered tag v).limitSweep v).settle) := by
  have hnone : s.paramRefusal 2 v = none := by
    have hok : (s.params.store 2 v).crossOk = true := (Params.crossOk_iff _).mpr hcross
    simp only [State.paramRefusal, paramRange, speedLine, Option.any_none, Bool.false_eq_true, if_false, hok, if_true]
    exact if_neg (by omega)
  rw [Request.exec_setParam hs (by omega) (by omega), hnone, State.setParam_eq, if_pos ⟨rfl, hlow⟩]
  rfl

/-- The state of the sweep, its events to come. -/
theorem State.limitSweep_eq {s : State} (hr : RosterLaw s) (v : Nat) :
    ∃ q, (∀ l, WithCountedOut s l (overLimit s v) (q l)) ∧ s.limitSweep v =
      brought 0 ((overLimit s v).flatMap fun e => match e.standing with
        | .bound a _ => lossOf e a .limit
        | _ => []) (s.sweptOut (overLimit s v) q) := by
  obtain ⟨q, hq, heq⟩ := State.countOut_foldl_eq hr (out := overLimit s v) (fun e he => (List.mem_filter.mp he).1)
    (fun e he => by
      have hover := (List.mem_filter.mp he).2
      rw [Bool.and_eq_true] at hover
      exact hover.1)
    ((List.filter_sublist.map _).nodup hr.2.1)
  refine ⟨q, hq, ?_⟩
  rw [State.limitSweep, heq, State.pushLineEvents_eq_brought, flatMap_lossEvents]

end Sys2Proof.Machine
open Sys2Proof.Machine Sys2Proof.Statements

/-- Settles O13: the entries at or above the limit are counted out one after another, and the claim settles. -/
theorem loweredMissLimitCountsOut : Obligations.LoweredMissLimitCountsOut := by
  intro s tag v hs hr hv hlow hv8 hcross roster out rs es queue
  let u := s.lowered tag v
  have hline : ∀ l, u.line l = s.line l := s.line_lowered tag v
  obtain ⟨q, hq, hsweep⟩ := State.limitSweep_eq (s := u) hr v
  have hquarantine : ∀ l, WithCountedOut s l out (q l) := fun l => by cases l <;> exact hq _
  have hexec := exec_setParam_lowered hs hv hv8 hlow hcross tag
  rw [hsweep, settle_brought, State.settle_closeAll] at hexec
  have hroster : u.roster.filterMap (sweptEntry (overLimit u v)) = roster := filterMap_overLimit (s := u) hr v
  let w : State := ({ u with roster := roster } : State).withLines (linesSwept u out q)
  have hrs : (overLimit u v).flatMap (fun e => outReports (u.line e.line).queue e) = rs :=
    List.flatMap_congr fun e _ => by rw [hline]
  rw [hroster, hrs] at hexec
  refine ⟨⟨brought 0 es (w.settle.closeAll rs), hexec, ?_⟩, fun hsettled hall hn => ⟨q, hquarantine, ?_⟩⟩
  · have hfields : (brought 0 es (w.settle.closeAll rs)).hush = s.hush ∧
        (brought 0 es (w.settle.closeAll rs)).nextSerial = s.nextSerial := by
      rw [brought_eq, State.closeAll_eq, State.settle_eq]
      exact ⟨rfl, rfl⟩
    refine ⟨?_, hfields.1, ?_, hfields.2, ?_, fun l => ?_, ?_⟩
    · rw [brought_params, State.closeAll_params, State.settle_params]; rfl
    · rw [brought_clock, State.closeAll_clock, State.settle_clock]; rfl
    · rw [brought_roster, State.closeAll_roster, State.settle_roster]; rfl
    · have hw : w.line l = linesSwept u out q l := State.line_withLines ..
      obtain ⟨poll, counters, a, b, c, hsettle, -⟩ := lineSettled_eq w l
      rw [line_brought, State.line_closeAll, State.line_settle, hsettle, hw]
      simp only [hline]
      exact ⟨trivial, trivial, trivial, trivial, rfl, hquarantine l⟩
    · obtain ⟨closed, hclosed⟩ := State.reports_closeAll_grow w.settle rs
      obtain ⟨events, hevents⟩ := reports_brought_grow 0 es (w.settle.closeAll rs)
      have hreports : w.settle.reports = s.reports ++ [report tag (.paramValue 2 v)] := by rw [State.settle_eq]; rfl
      exact ⟨closed ++ events, by rw [hevents, hclosed, hreports]; simp⟩
  · have hu : Settled u := hsettled
    have hends : ∀ m, (u.line m).EndsWork (linesSwept u out q m) := fun m => .of_op rfl ⟨rfl, rfl, rfl⟩ rfl
    have hlines : (fun m => cycleAfter u m roster (countsLeft (linesSwept u out q m))) = fun m =>
        cycleAfter s m roster { s.line m with
          quarantine := q m, nextSeq := (s.line m).nextSeq + (out.filter (·.line == m)).length,
          queue := queue m, passedT := passedWith (s.line m) (queue m) } := by
      funext m
      rw [countsLeft_of_queue (M := linesSwept u out q m) (waitLaw_of_settled hu m) .rfl rfl]
      simp only [linesSwept, hline]
      rfl
    have hsettle := State.settle_withLines (s := u) (v := { u with roster := roster }) hu rfl rfl hends
    rw [hexec, hsettle, hlines, ← State.closeAll_withLines,
      State.closeAll_eq_closes (s := { u with roster := roster }) hall, State.withLines_eq_setLine]
    simp only [State.closes, u, State.lowered, List.append_assoc, List.singleton_append]
    rfl
end

section
/-! What the open requests stand for and the work of the lines, as one list each: a request and its census, record or
LINE_POWER are the same job (R57, R107, R127, R149, R150). -/

namespace Sys2Proof.Machine

open Sys2Proof.Statements

/-- What a request asks for, or a line has in hand: a census, a record or a LINE_POWER, told by tag, kind, line and, for a
record, target. -/
structure Job where
  tag : Tag
  kind : LongKind
  line : Line
  target : Option Ident

/-- Does a request of this kind stand for a record? -/
def LongKind.ofRecord : LongKind → Bool
  | .readNode | .writeNode | .forget => true
  | .census | .linePower | .stop => false

theorem TxnWork.kind_ofRecord (w : TxnWork) : w.kind.ofRecord = true := by cases w <;> rfl

/-- The job of a request. -/
def Req.job (q : Req) : Job := ⟨q.tag, q.kind, q.line, if q.kind.ofRecord then q.target else none⟩

/-- The job of a record in the queue of a line. -/
def Txn.job (l : Line) (r : Txn) : Job := ⟨r.tag, r.work.kind, l, some r.target⟩

/-- The job of the census of a line. -/
def Census.job (l : Line) (c : Census) : Job := ⟨c.tag, .census, l, none⟩

/-- The job of an open LINE_POWER. -/
def powerJob (l : Line) (p : Tag × Direction) : Job := ⟨p.1, .linePower, l, none⟩

/-- The jobs of a line. -/
def LineState.jobs (L : LineState) (l : Line) : List Job :=
  (L.census.map (Census.job l)).toList ++ (L.queue.map (Txn.job l) ++ (L.openPower.map (powerJob l)).toList)

/-- The jobs of both lines. -/
def State.jobs (s : State) : List Job := (s.line .A).jobs .A ++ (s.line .B).jobs .B

/-! ## The jobs of a line, one by one -/

section
variable {s u : State} {L M : LineState} {l : Line} {j : Job}

theorem LineState.mem_jobs : j ∈ L.jobs l ↔
    (∃ c ∈ L.census, c.job l = j) ∨ (∃ r ∈ L.queue, r.job l = j) ∨ ∃ p ∈ L.openPower, powerJob l p = j := by
  simp [LineState.jobs]

theorem LineState.line_of_mem_jobs (h : j ∈ L.jobs l) : j.line = l := by
  rcases LineState.mem_jobs.mp h with ⟨c, -, rfl⟩ | ⟨r, -, rfl⟩ | ⟨p, -, rfl⟩ <;> rfl

theorem State.mem_jobs : j ∈ s.jobs ↔ j ∈ (s.line j.line).jobs j.line := by
  rw [State.jobs, List.mem_append]
  constructor
  · rintro (h | h) <;> exact LineState.line_of_mem_jobs h ▸ h
  · intro h
    cases hl : j.line <;> rw [hl] at h
    · exact .inl h
    · exact .inr h

theorem State.mem_jobs_of_line (h : j ∈ (s.line l).jobs l) : j ∈ s.jobs :=
  State.mem_jobs.mpr ((LineState.line_of_mem_jobs h).symm ▸ h)

/-- A line's jobs see its census, records and LINE_POWER alone. -/
theorem LineState.jobs_congr (hc : M.census.map Census.tag = L.census.map Census.tag)
    (hq : M.queue.map (Txn.job l) = L.queue.map (Txn.job l)) (hp : M.openPower = L.openPower) : M.jobs l = L.jobs l := by
  have hcensus : M.census.map (Census.job l) = L.census.map (Census.job l) := by
    have := congrArg (Option.map fun t => (⟨t, .census, l, none⟩ : Job)) hc
    rwa [Option.map_map, Option.map_map] at this
  rw [LineState.jobs, LineState.jobs, hcensus, hq, hp]

/-- Jobs that leave one line leave the lines. -/
theorem State.jobs_perm_of_line {gone : List Job} (hl : ((s.line l).jobs l).Perm ((u.line l).jobs l ++ gone))
    (ho : ∀ m, m ≠ l → (u.line m).jobs m = (s.line m).jobs m) : s.jobs.Perm (u.jobs ++ gone) := by
  cases l with
  | A =>
    rw [State.jobs, State.jobs, ho .B (by decide), List.append_assoc]
    refine (hl.append_right _).trans ?_
    rw [List.append_assoc]
    exact List.perm_append_comm.append_left _
  | B =>
    rw [State.jobs, State.jobs, ho .A (by decide), List.append_assoc]
    exact hl.append_left _

theorem State.jobs_eq_of_lines (h : ∀ m, (u.line m).jobs m = (s.line m).jobs m) : u.jobs = s.jobs := by
  rw [State.jobs, State.jobs, h, h]

/-! ## The request law and the work law -/

theorem Req.holds_iff {q : Req} : s.holds q = true ↔ q.job ∈ s.jobs := by
  rw [State.mem_jobs, LineState.mem_jobs]
  unfold State.holds
  cases hk : q.kind <;>
    simp [Req.job, Census.job, Txn.job, powerJob, hk, LongKind.ofRecord, Option.any_eq_true, and_assoc,
      eq_comm (a := q.target)]

/-- The queue, census and LINE_POWER of each line have open requests in the table (R57, R107, R127). -/
theorem workLaw_iff (hn : ((s.line l).queue.map (·.tag)).Nodup) :
    WorkLaw s l ↔ ∀ j ∈ (s.line l).jobs l, j ∈ s.table.map Req.job := by
  have hjob : ∀ (q : Req) (t : Tag) (k : LongKind) (i : Option Ident), q.job = ⟨t, k, l, i⟩ ↔
      q.tag = t ∧ q.kind = k ∧ q.line = l ∧ (if k.ofRecord then q.target else none) = i := fun q t k i => by
    rw [Req.job, Job.mk.injEq]
    constructor <;> rintro ⟨rfl, rfl, rfl, rfl⟩ <;> exact ⟨rfl, rfl, rfl, rfl⟩
  have hcensus : ∀ c : Census, c.job l ∈ s.table.map Req.job ↔ ∃ q ∈ s.table, q.tag = c.tag ∧ q.kind = .census ∧ q.line = l :=
    fun c => by simp [Census.job, hjob, LongKind.ofRecord]
  have hrecord : ∀ r : Txn, r.job l ∈ s.table.map Req.job ↔
      ∃ q ∈ s.table, q.tag = r.tag ∧ q.kind = r.work.kind ∧ q.line = l ∧ q.target = some r.target :=
    fun r => by simp [Txn.job, hjob, TxnWork.kind_ofRecord]
  have hpower : ∀ p, powerJob l p ∈ s.table.map Req.job ↔ ∃ q ∈ s.table, q.tag = p.1 ∧ q.kind = .linePower ∧ q.line = l :=
    fun p => by simp [powerJob, hjob, LongKind.ofRecord]
  constructor
  · rintro ⟨hc, hr, -, hp⟩ j hj
    rcases LineState.mem_jobs.mp hj with ⟨c, h, rfl⟩ | ⟨r, h, rfl⟩ | ⟨p, h, rfl⟩
    · exact (hcensus c).mpr (hc c h)
    · exact (hrecord r).mpr (hr r h)
    · exact (hpower p).mpr (hp p h)
  · intro h
    exact ⟨fun c hc => (hcensus c).mp (h _ (LineState.mem_jobs.mpr (.inl ⟨c, hc, rfl⟩))),
      fun r hr => (hrecord r).mp (h _ (LineState.mem_jobs.mpr (.inr (.inl ⟨r, hr, rfl⟩)))), hn,
      fun p hp => (hpower p).mp (h _ (LineState.mem_jobs.mpr (.inr (.inr ⟨p, hp, rfl⟩))))⟩

theorem LineState.jobs_nodup (h : (L.queue.map (·.tag)).Nodup) : (L.jobs l).Nodup := by
  have hqueue : (L.queue.map (Txn.job l)).Nodup := by
    refine List.Nodup.of_map Job.tag ?_
    rwa [List.map_map]
  have hkind : ∀ r : Txn, r.work.kind ≠ .census ∧ r.work.kind ≠ .linePower := fun r => by cases r.work <;> exact ⟨nofun, nofun⟩
  rw [LineState.jobs, List.nodup_append, List.nodup_append]
  refine ⟨?_, ⟨hqueue, ?_, ?_⟩, ?_⟩
  · cases L.census <;> simp
  · cases L.openPower <;> simp
  · simp only [List.mem_map, Option.mem_toList, Option.map_eq_some_iff]
    rintro _ ⟨r, -, rfl⟩ _ ⟨p, -, rfl⟩ heq
    exact (hkind r).2 (congrArg Job.kind heq)
  · simp only [List.mem_append, List.mem_map, Option.mem_toList, Option.map_eq_some_iff]
    rintro _ ⟨c, -, rfl⟩ _ (⟨r, -, rfl⟩ | ⟨p, -, rfl⟩) heq
    · exact (hkind r).1 (congrArg Job.kind heq).symm
    · exact nomatch congrArg Job.kind heq

theorem State.jobs_nodup (h : ∀ l, ((s.line l).queue.map (·.tag)).Nodup) : s.jobs.Nodup := by
  rw [State.jobs, List.nodup_append]
  refine ⟨LineState.jobs_nodup (h .A), LineState.jobs_nodup (h .B), fun x hx y hy heq => ?_⟩
  have hA := LineState.line_of_mem_jobs hx
  have hB := LineState.line_of_mem_jobs hy
  exact nomatch hA.symm.trans ((congrArg Job.line heq).trans hB)

/-- The tags of a line's records are tags of its jobs. -/
theorem LineState.queue_tags_sublist : (L.queue.map (·.tag)).Sublist ((L.jobs l).map Job.tag) := by
  have hqueue : L.queue.map (·.tag) = (L.queue.map (Txn.job l)).map Job.tag := by rw [List.map_map]; rfl
  rw [hqueue]
  exact (((List.sublist_append_left _ _).trans (List.sublist_append_right _ _)).map _)

theorem State.jobs_sublist (l : Line) : ((s.line l).jobs l).Sublist s.jobs := by
  cases l
  · exact List.sublist_append_left ..
  · exact List.sublist_append_right ..

/-- The open requests stand for the work of the lines one to one: the request law and the work law of both lines. -/
theorem jobs_perm_iff (hn : (s.table.map (·.tag)).Nodup) :
    (s.table.map Req.job).Perm s.jobs ↔ RequestLaw s ∧ ∀ l, WorkLaw s l := by
  have htags : (s.table.map Req.job).map Job.tag = s.table.map (·.tag) := by rw [List.map_map]; rfl
  constructor
  · intro h
    have hjobs : (s.jobs.map Job.tag).Nodup := ((h.map Job.tag).nodup_iff).mp (htags ▸ hn)
    refine ⟨fun q hq => Req.holds_iff.mpr (h.subset (List.mem_map_of_mem hq)), fun l => ?_⟩
    refine (workLaw_iff ?_).mpr fun j hj => h.symm.subset (State.mem_jobs_of_line hj)
    exact (LineState.queue_tags_sublist.trans ((State.jobs_sublist l).map _)).nodup hjobs
  · rintro ⟨hrequest, hwork⟩
    have hqueue : ∀ l, ((s.line l).queue.map (·.tag)).Nodup := fun l => by
      obtain ⟨-, -, hnodup, -⟩ := hwork l
      exact hnodup
    refine (List.perm_ext_iff_of_nodup (List.Nodup.of_map Job.tag (htags ▸ hn)) (State.jobs_nodup hqueue)).mpr fun j => ?_
    constructor
    · intro hj
      obtain ⟨q, hq, rfl⟩ := List.mem_map.mp hj
      exact Req.holds_iff.mp (hrequest q hq)
    · intro hj
      exact (workLaw_iff (hqueue j.line)).mp (hwork j.line) j (State.mem_jobs.mp hj)

/-- A request whose work has left leaves the table (R149). -/
theorem jobs_perm_less {T : List Req} {J gone : List Job} (hn : (T.map (·.tag)).Nodup) (h : (T.map Req.job).Perm J)
    (hjobs : J.Perm (u.jobs ++ gone)) {rs : List Report} (htags : ∀ t, t ∈ rs.map (·.tag) ↔ t ∈ gone.map Job.tag) :
    ((tableLess rs T).map Req.job).Perm u.jobs := by
  have hall := h.trans hjobs
  have hnodup : ((u.jobs ++ gone).map Job.tag).Nodup := by
    refine ((hall.map Job.tag).nodup_iff).mp ?_
    rwa [List.map_map]
  rw [List.map_append, List.nodup_append] at hnodup
  obtain ⟨-, -, hdisjoint⟩ := hnodup
  have hkept : ∀ t, (rs.all fun r => r.tag != t) = true ↔ t ∉ gone.map Job.tag := fun t => by
    rw [← htags]
    simp
  have hless : (tableLess rs T).map Req.job = (T.map Req.job).filter fun j => rs.all (·.tag != j.tag) := by
    rw [List.filter_map]
    rfl
  have hleft : (u.jobs ++ gone).filter (fun j => rs.all (·.tag != j.tag)) = u.jobs := by
    rw [List.filter_append, List.filter_eq_self.mpr, List.filter_eq_nil_iff.mpr, List.append_nil]
    · exact fun j hj hin => (hkept j.tag).mp hin (List.mem_map_of_mem hj)
    · exact fun j hj => (hkept j.tag).mpr fun hin => hdisjoint _ (List.mem_map_of_mem hj) _ hin rfl
  rw [hless, ← hleft]
  exact hall.filter _

end

end Sys2Proof.Machine
end

section
/-! Records and the entries they name (R33, R36, R107, R118, R121): the target law, the forget law and the pending counts of
both lines as one law of a roster and two queues. -/

namespace Sys2Proof.Machine

open Sys2Proof.Statements

/-- Every record names an entry BOUND on its line, a forgetting entry and its RELEASE belong to each other, no record stands
behind the RELEASE of its target; and, with `k`, pending counts the records. -/
structure Named (k : Prop) (es : List Entry) (queue : Line → List Txn) : Prop where
  target : ∀ l, ∀ r ∈ queue l, ∃ e ∈ es, e.identity = r.target ∧ e.boundOn l = true
  forgets : ∀ e ∈ es, ∀ t ∈ e.forgetting, ∃ r ∈ queue e.line, r.tag = t ∧ r.work = .release ∧ r.target = e.identity
  releases : ∀ l, ∀ r ∈ queue l, r.work = .release → ∃ e ∈ es, e.identity = r.target ∧ e.forgetting = some r.tag
  last : ∀ l, (queue l).Pairwise fun x y => x.work = .release → y.target ≠ x.target
  pending : k → ∀ e ∈ es, e.standing.isBound = true → e.pendingTx = (queue e.line).countP (·.target == e.identity)

/-- The queues of both lines. -/
abbrev State.queues (s : State) (l : Line) : List Txn := (s.line l).queue

theorem named_iff {k : Prop} {s : State} : Named k s.roster s.queues ↔
    (∀ l, TargetLaw s l) ∧ (∀ l, ForgetLaw s l) ∧ (k → PendingLaw s) := by
  constructor
  · rintro ⟨htarget, hforgets, hreleases, hlast, hpending⟩
    exact ⟨htarget, fun l => ⟨fun e he hl t ht => hl ▸ hforgets e he t ht, hreleases l, hlast l⟩, hpending⟩
  · rintro ⟨htarget, hforget, hpending⟩
    refine ⟨htarget, fun e he t ht => ?_, fun l => ?_, fun l => ?_, hpending⟩
    · exact (hforget e.line).1 e he rfl t ht
    · exact (hforget l).2.1
    · exact (hforget l).2.2

namespace Named

variable {k : Prop} {es es' : List Entry} {q q' : Line → List Txn}

/-- Entries and records change in what this law does not see. -/
theorem map (h : Named k es q) {g : Entry → Entry} (hg : ∀ e ∈ es, (g e).identity = e.identity ∧ (g e).line = e.line ∧
    (g e).standing.isBound = e.standing.isBound ∧ (g e).forgetting = e.forgetting ∧
    (e.standing.isBound = true → (g e).pendingTx = e.pendingTx))
    (f : Line → Txn → Txn) (hf : ∀ l r, (f l r).tag = r.tag ∧ (f l r).work = r.work ∧ (f l r).target = r.target) :
    Named k (es.map g) fun l => (q l).map (f l) := by
  obtain ⟨htarget, hforgets, hreleases, hlast, hpending⟩ := h
  refine ⟨fun l y hy => ?_, fun y hy t ht => ?_, fun l y hy hw => ?_, fun l => ?_, fun hk y hy hb => ?_⟩
  · obtain ⟨r, hr, rfl⟩ := List.mem_map.mp hy
    obtain ⟨e, he, hi, hb⟩ := htarget l r hr
    obtain ⟨gi, gl, gb, -, -⟩ := hg e he
    refine ⟨g e, List.mem_map_of_mem he, by rw [gi, hi, (hf l r).2.2], ?_⟩
    rwa [Entry.boundOn, gl, gb]
  · obtain ⟨e, he, rfl⟩ := List.mem_map.mp hy
    obtain ⟨gi, gl, -, gf, -⟩ := hg e he
    obtain ⟨r, hr, htag, hw, hi⟩ := hforgets e he t (gf ▸ ht)
    obtain ⟨ftag, fwork, ftarget⟩ := hf e.line r
    refine ⟨f e.line r, ?_, by rw [ftag, htag], by rw [fwork, hw], by rw [ftarget, hi, gi]⟩
    rw [gl]
    exact List.mem_map_of_mem hr
  · obtain ⟨r, hr, rfl⟩ := List.mem_map.mp hy
    obtain ⟨ftag, fwork, ftarget⟩ := hf l r
    obtain ⟨e, he, hi, hforget⟩ := hreleases l r hr (fwork ▸ hw)
    obtain ⟨gi, -, -, gf, -⟩ := hg e he
    exact ⟨g e, List.mem_map_of_mem he, by rw [gi, hi, ftarget], by rw [gf, hforget, ftag]⟩
  · refine List.pairwise_map.mpr ((hlast l).imp fun hxy hw => ?_)
    rw [(hf l _).2.2, (hf l _).2.2]
    exact hxy ((hf l _).2.1 ▸ hw)
  · obtain ⟨e, he, rfl⟩ := List.mem_map.mp hy
    obtain ⟨gi, gl, gb, -, gp⟩ := hg e he
    rw [gb] at hb
    rw [gp hb, hpending hk e he hb, gl, gi, List.countP_map]
    exact List.countP_congr fun r _ => by simp [(hf e.line r).2.2]

/-- Entries change in what this law does not see. -/
theorem map_roster (h : Named k es q) {g : Entry → Entry} (hg : ∀ e ∈ es, (g e).identity = e.identity ∧
    (g e).line = e.line ∧ (g e).standing.isBound = e.standing.isBound ∧ (g e).forgetting = e.forgetting ∧
    (e.standing.isBound = true → (g e).pendingTx = e.pendingTx)) : Named k (es.map g) q := by
  simpa using h.map hg (fun _ => id) fun _ _ => ⟨rfl, rfl, rfl⟩

/-- Records change in what this law does not see. -/
theorem map_queue (h : Named k es q) (f : Line → Txn → Txn)
    (hf : ∀ l r, (f l r).tag = r.tag ∧ (f l r).work = r.work ∧ (f l r).target = r.target) :
    Named k es fun l => (q l).map (f l) := by
  simpa using h.map (g := id) (fun _ _ => ⟨rfl, rfl, rfl, rfl, fun _ => rfl⟩) f hf

/-- Some identities lose their records, and their entries go or stand without forgetting and with nothing pending. -/
theorem leave (h : Named k es q) (gone : Ident → Bool)
    (hnew : ∀ e ∈ es', (e ∈ es ∧ gone e.identity = false) ∨
      gone e.identity = true ∧ e.forgetting = none ∧ (e.standing.isBound = true → e.pendingTx = 0))
    (hold : ∀ e ∈ es, gone e.identity = false → e ∈ es')
    (hq : ∀ l, q' l = (q l).filter fun r => !gone r.target) : Named k es' q' := by
  obtain ⟨htarget, hforgets, hreleases, hlast, hpending⟩ := h
  have hmem : ∀ l r, r ∈ q' l ↔ r ∈ q l ∧ gone r.target = false := fun l r => by
    rw [hq, List.mem_filter, Bool.not_eq_true']
  refine ⟨fun l r hr => ?_, fun e he t ht => ?_, fun l r hr hw => ?_, fun l => ?_, fun hk e he hb => ?_⟩
  · obtain ⟨hr, hkeep⟩ := (hmem l r).mp hr
    obtain ⟨e, he, hi, hb⟩ := htarget l r hr
    exact ⟨e, hold e he (hi ▸ hkeep), hi, hb⟩
  · rcases hnew e he with ⟨he, hkeep⟩ | ⟨-, hnone, -⟩
    · obtain ⟨r, hr, htag, hw, hi⟩ := hforgets e he t ht
      exact ⟨r, (hmem _ r).mpr ⟨hr, hi ▸ hkeep⟩, htag, hw, hi⟩
    · rw [hnone] at ht
      exact nomatch ht
  · obtain ⟨hr, hkeep⟩ := (hmem l r).mp hr
    obtain ⟨e, he, hi, hf⟩ := hreleases l r hr hw
    exact ⟨e, hold e he (hi ▸ hkeep), hi, hf⟩
  · rw [hq]
    exact (hlast l).filter _
  · rw [hq, List.countP_filter]
    rcases hnew e he with ⟨he, hkeep⟩ | ⟨hgone, -, hzero⟩
    · rw [hpending hk e he hb]
      refine List.countP_congr fun r _ => ?_
      by_cases hi : r.target = e.identity <;> simp [hi, hkeep]
    · rw [hzero hb]
      refine (List.countP_eq_zero.mpr fun r _ => ?_).symm
      by_cases hi : r.target = e.identity <;> simp [hi, hgone]

/-- An identity that no record names: its entry may change, go or come, with no forgetting and nothing pending. -/
theorem unnamed (h : Named k es q) {i : Ident} (hi : ∀ l, ∀ r ∈ q l, r.target ≠ i)
    (hnew : ∀ e ∈ es', (e ∈ es ∧ e.identity ≠ i) ∨
      e.identity = i ∧ e.forgetting = none ∧ (e.standing.isBound = true → e.pendingTx = 0))
    (hold : ∀ e ∈ es, e.identity ≠ i → e ∈ es') : Named k es' q := by
  refine h.leave (· == i) (fun e he => ?_) (fun e he hne => hold e he (by simpa using hne)) fun l => ?_
  · exact (hnew e he).imp (fun ⟨hmem, hne⟩ => ⟨hmem, by simpa using hne⟩) fun ⟨heq, hrest⟩ => ⟨by simpa using heq, hrest⟩
  · exact (List.filter_eq_self.mpr fun r hr => by simpa using hi l r hr).symm

/-- The identity of an entry that is not BOUND is named by no record. -/
theorem ne_of_not_bound (h : Named k es q) (hn : (es.map (·.identity)).Nodup) {e : Entry} (he : e ∈ es)
    (hb : e.standing.isBound = false) (l : Line) : ∀ r ∈ q l, r.target ≠ e.identity := fun r hr hi => by
  obtain ⟨x, hx, hxi, hxb⟩ := h.target l r hr
  obtain rfl := List.inj_on_of_nodup_map hn hx he (hxi.trans hi)
  simp [Entry.boundOn, hb] at hxb

/-- An identity that no entry bears is named by no record. -/
theorem ne_of_unknown (h : Named k es q) {i : Ident} (hi : ∀ e ∈ es, e.identity ≠ i) (l : Line) :
    ∀ r ∈ q l, r.target ≠ i := fun r hr heq => by
  obtain ⟨x, hx, hxi, -⟩ := h.target l r hr
  exact hi x hx (hxi.trans heq)

/-- The records that name an entry stand on its line. -/
theorem line_of_target (h : Named k es q) (hn : (es.map (·.identity)).Nodup) {e : Entry} (he : e ∈ es) {l : Line} {r : Txn}
    (hr : r ∈ q l) (hi : r.target = e.identity) : l = e.line ∧ e.standing.isBound = true := by
  obtain ⟨x, hx, hxi, hxb⟩ := h.target l r hr
  obtain rfl := List.inj_on_of_nodup_map hn hx he (hxi.trans hi)
  simp only [Entry.boundOn, Bool.and_eq_true, beq_iff_eq] at hxb
  exact ⟨hxb.1.symm, hxb.2⟩

/-- The RELEASE of a forgetting entry is the record of its target that carries its tag. -/
theorem forgetting_of_release (h : Named k es q) (hn : (es.map (·.identity)).Nodup) {e : Entry} (he : e ∈ es) {l : Line}
    {r : Txn} (hr : r ∈ q l) (hi : r.target = e.identity) (hw : r.work = .release) : e.forgetting = some r.tag := by
  obtain ⟨x, hx, hxi, hxf⟩ := h.releases l r hr hw
  obtain rfl := List.inj_on_of_nodup_map hn hx he (hxi.trans hi)
  exact hxf

/-- A queue without the records of an entry, on its line alone. -/
theorem filter_target (h : Named k es q) (hn : (es.map (·.identity)).Nodup) {e : Entry} (he : e ∈ es) (l : Line) :
    (q l).filter (fun r => !(r.target == e.identity)) = if l = e.line then purged (q l) e.identity else q l := by
  split
  · rfl
  · rename_i hne
    refine List.filter_eq_self.mpr fun r hr => ?_
    have : r.target ≠ e.identity := fun hi => hne (h.line_of_target hn he hr hi).1
    simpa using this

/-! ## Records leave and join -/

/-- Entries whose pending and forgetting are revised with the records. -/
theorem revise {g : Entry → Entry}
    (hg : ∀ e, (g e).identity = e.identity ∧ (g e).line = e.line ∧ (g e).standing = e.standing)
    (htarget : ∀ l, ∀ r ∈ q' l, ∃ e ∈ es, e.identity = r.target ∧ e.boundOn l = true)
    (hforgets : ∀ e ∈ es, ∀ t ∈ (g e).forgetting, ∃ r ∈ q' e.line, r.tag = t ∧ r.work = .release ∧ r.target = e.identity)
    (hreleases : ∀ l, ∀ r ∈ q' l, r.work = .release → ∃ e ∈ es, e.identity = r.target ∧ (g e).forgetting = some r.tag)
    (hlast : ∀ l, (q' l).Pairwise fun x y => x.work = .release → y.target ≠ x.target)
    (hpending : k → ∀ e ∈ es, e.standing.isBound = true → (g e).pendingTx = (q' e.line).countP (·.target == e.identity)) :
    Named k (es.map g) q' := by
  refine ⟨fun l r hr => ?_, fun y hy t ht => ?_, fun l r hr hw => ?_, hlast, fun hk y hy hb => ?_⟩
  · obtain ⟨e, he, hi, hb⟩ := htarget l r hr
    obtain ⟨gi, gl, gs⟩ := hg e
    exact ⟨g e, List.mem_map_of_mem he, gi.trans hi, by rwa [Entry.boundOn, gl, gs]⟩
  · obtain ⟨e, he, rfl⟩ := List.mem_map.mp hy
    obtain ⟨gi, gl, -⟩ := hg e
    rw [gi, gl]
    exact hforgets e he t ht
  · obtain ⟨e, he, hi, hf⟩ := hreleases l r hr hw
    exact ⟨g e, List.mem_map_of_mem he, (hg e).1.trans hi, hf⟩
  · obtain ⟨e, he, rfl⟩ := List.mem_map.mp hy
    obtain ⟨gi, gl, gs⟩ := hg e
    rw [gi, gl]
    exact hpending hk e he (gs ▸ hb)

/-- A record that no identity of an entry but its own is counted for. -/
theorem countP_eq_zero_of_line (h : Named k es q) (hn : (es.map (·.identity)).Nodup) {e : Entry} (he : e ∈ es) {l : Line}
    (hl : e.line ≠ l) {rs : List Txn} (hrs : ∀ r ∈ rs, r ∈ q l) : rs.countP (·.target == e.identity) = 0 :=
  List.countP_eq_zero.mpr fun r hr hi => hl (h.line_of_target hn he (hrs r hr) (by simpa using hi)).1.symm

theorem countP_split (p c : Txn → Bool) (rs : List Txn) :
    rs.countP c = (rs.filter p).countP c + (rs.filter fun r => !p r).countP c := by
  rw [← List.countP_append, (List.filter_append_perm p rs).countP_eq]

/-- A record is told by its tag. -/
theorem filter_tag {rs : List Txn} (hn : (rs.map (·.tag)).Nodup) {r : Txn} (hr : r ∈ rs) : rs.filter (·.tag == r.tag) = [r] := by
  refine List.perm_singleton.mp ((List.perm_ext_iff_of_nodup ((List.Nodup.of_map _ hn).filter _) (List.nodup_singleton r)).mpr
    fun x => ?_)
  rw [List.mem_filter, List.mem_singleton, beq_iff_eq]
  exact ⟨fun ⟨hx, htag⟩ => List.inj_on_of_nodup_map hn hx hr htag, fun hx => by rw [hx]; exact ⟨hr, rfl⟩⟩

/-- READs and WRITEs leave the queue of a line, and what is pending at their targets falls (R36). -/
theorem drop (h : Named k es q) (hn : (es.map (·.identity)).Nodup) {l : Line} {p : Txn → Bool}
    (hp : ∀ r ∈ q l, p r = true → r.work ≠ .release) (hself : q' l = (q l).filter fun r => !p r)
    (hother : ∀ m, m ≠ l → q' m = q m) : Named k (lessPendingBy ((q l).filter p) es) q' := by
  have hsub : ∀ m, (q' m).Sublist (q m) := fun m => by
    by_cases hm : m = l
    · subst hm; rw [hself]; exact List.filter_sublist
    · rw [hother m hm]
  have hrelease : ∀ m, ∀ r ∈ q m, r.work = .release → r ∈ q' m := fun m r hr hw => by
    by_cases hm : m = l
    · subst hm
      rw [hself, List.mem_filter]
      exact ⟨hr, by simpa using fun hpr => hp r hr hpr hw⟩
    · rwa [hother m hm]
  refine revise (fun e => ⟨rfl, rfl, rfl⟩) (fun m r hr => h.target m r ((hsub m).subset hr)) (fun e he t ht => ?_)
    (fun m r hr => h.releases m r ((hsub m).subset hr)) (fun m => (h.last m).sublist (hsub m)) fun hk e he hb => ?_
  · obtain ⟨r, hr, htag, hw, hi⟩ := h.forgets e he t ht
    exact ⟨r, hrelease e.line r hr hw, htag, hw, hi⟩
  · have hcount := h.pending hk e he hb
    by_cases hl : e.line = l
    · simp only [hl, hself] at hcount ⊢
      rw [hcount, countP_split p, Nat.add_sub_cancel_left]
    · rw [hother _ hl, h.countP_eq_zero_of_line hn he hl fun r => List.mem_of_mem_filter, Nat.sub_zero]
      exact hcount

/-- A RELEASE leaves its queue and its target is forgotten no more (R120). -/
theorem withdraw (h : Named k es q) (hn : (es.map (·.identity)).Nodup) {l : Line} {r : Txn} (hr : r ∈ q l)
    (hw : r.work = .release) (htags : ((q l).map (·.tag)).Nodup) (hself : q' l = (q l).filter (·.tag != r.tag))
    (hother : ∀ m, m ≠ l → q' m = q m) :
    Named k (withEntry r.target (fun e => { e with forgetting := none, pendingTx := e.pendingTx - 1 }) es) q' := by
  have hsub : ∀ m, (q' m).Sublist (q m) := fun m => by
    by_cases hm : m = l
    · subst hm; rw [hself]; exact List.filter_sublist
    · rw [hother m hm]
  have hkept : ∀ m, ∀ y ∈ q m, y.target ≠ r.target → y ∈ q' m := fun m y hy hne => by
    by_cases hm : m = l
    · subst hm
      rw [hself, List.mem_filter]
      exact ⟨hy, bne_iff_ne.mpr fun htag => hne (List.inj_on_of_nodup_map htags hy hr htag ▸ rfl)⟩
    · rwa [hother m hm]
  obtain ⟨e, he, hei, hef⟩ := h.releases l r hr hw
  obtain ⟨hel, -⟩ := h.line_of_target hn he hr hei.symm
  refine revise (fun x => ?_) (fun m y hy => h.target m y ((hsub m).subset hy)) (fun x hx t ht => ?_)
    (fun m y hy hyw => ?_) (fun m => (h.last m).sublist (hsub m)) fun hk x hx hb => ?_
  · split <;> exact ⟨rfl, rfl, rfl⟩
  · split at ht
    · exact nomatch ht
    · rename_i hne
      obtain ⟨y, hy, htag, hyw, hi⟩ := h.forgets x hx t ht
      exact ⟨y, hkept x.line y hy (hi ▸ hne), htag, hyw, hi⟩
  · obtain ⟨x, hx, hxi, hxf⟩ := h.releases m y ((hsub m).subset hy) hyw
    refine ⟨x, hx, hxi, ?_⟩
    rw [if_neg, hxf]
    intro hi
    obtain rfl := List.inj_on_of_nodup_map hn hx he (hi.trans hei.symm)
    obtain ⟨rfl, -⟩ := h.line_of_target hn he ((hsub m).subset hy) hxi.symm
    have htag : r.tag = y.tag := Option.some.inj (hef.symm.trans hxf)
    rw [← hel, hself, List.mem_filter] at hy
    exact absurd htag.symm (bne_iff_ne.mp hy.2)
  · have hcount := h.pending hk x hx hb
    by_cases hl : x.line = l
    · subst hl
      rw [countP_split (·.tag == r.tag), filter_tag htags hr, List.countP_singleton] at hcount
      rw [hself]
      by_cases hi : x.identity = r.target
      · rw [if_pos hi]
        simp only [hi, beq_self_eq_true, if_true] at hcount
        simp only [hi, hcount, Nat.add_sub_cancel_left]
        rfl
      · have hno : (r.target == x.identity) = false := by simpa using Ne.symm hi
        rw [hno, if_neg Bool.false_ne_true, Nat.zero_add] at hcount
        rw [if_neg hi]
        exact hcount
    · have hne : x.identity ≠ r.target := fun hi => hl (h.line_of_target hn hx hr hi.symm).1.symm
      rw [if_neg hne, hother _ hl]
      exact hcount

/-- What is pending at its target when one record has joined, a RELEASE with its forgetting (R33, R36, R118). -/
abbrev plusOne (r : Txn) (es : List Entry) : List Entry :=
  withEntry r.target (fun e => { e with
    forgetting := if r.work = .release then some r.tag else e.forgetting, pendingTx := e.pendingTx + 1 }) es

/-- A record joins the queue of the line that its target is BOUND on, READs and WRITEs leaving it. -/
theorem join (h : Named k es q) (hn : (es.map (·.identity)).Nodup) {e : Entry} (he : e ∈ es)
    (hb : e.standing.isBound = true) (hf : e.forgetting = none) {r : Txn} (hi : r.target = e.identity) {p : Txn → Bool}
    (hp : ∀ x ∈ q e.line, p x = true → x.work ≠ .release)
    (hself : q' e.line = ((q e.line).filter fun x => !p x) ++ [r]) (hother : ∀ m, m ≠ e.line → q' m = q m) :
    Named k (lessPendingBy ((q e.line).filter p) (plusOne r es)) q' := by
  have hmem : ∀ m, ∀ y ∈ q' m, y ∈ q m ∨ m = e.line ∧ y = r := fun m y hy => by
    by_cases hm : m = e.line
    · subst hm
      rw [hself, List.mem_append, List.mem_singleton] at hy
      exact hy.imp List.mem_of_mem_filter fun h => ⟨rfl, h⟩
    · exact .inl (hother m hm ▸ hy)
  have hrelease : ∀ m, ∀ y ∈ q m, y.work = .release → y ∈ q' m := fun m y hy hw => by
    by_cases hm : m = e.line
    · subst hm
      rw [hself, List.mem_append, List.mem_filter]
      exact .inl ⟨hy, by simpa using fun hpy => hp y hy hpy hw⟩
    · rwa [hother m hm]
  have hlast : r ∈ q' e.line := by rw [hself]; exact List.mem_append_right _ (List.mem_singleton_self r)
  have hnone : ∀ m, ∀ y ∈ q m, y.work = .release → y.target ≠ r.target := fun m y hy hw hyt =>
    nomatch hf.symm.trans (h.forgetting_of_release hn he hy (hyt.trans hi) hw)
  rw [lessPendingBy, plusOne, withEntry, List.map_map]
  refine revise (fun x => ?_) (fun m y hy => ?_) (fun x hx t ht => ?_) (fun m y hy hw => ?_) (fun m => ?_) fun hk x hx hxb => ?_
  · simp only [Function.comp]
    split <;> exact ⟨rfl, rfl, rfl⟩
  · rcases hmem m y hy with hy | ⟨rfl, rfl⟩
    · exact h.target m y hy
    · exact ⟨e, he, hi.symm, by simp [Entry.boundOn, hb]⟩
  · by_cases hxi : x.identity = r.target
    · obtain rfl := List.inj_on_of_nodup_map hn hx he (hxi.trans hi)
      simp only [Function.comp, if_pos hxi, Option.mem_def] at ht
      split at ht
      · exact ⟨r, hlast, Option.some.inj ht, ‹_›, hi⟩
      · exact nomatch hf.symm.trans ht
    · simp only [Function.comp, if_neg hxi] at ht
      obtain ⟨y, hy, htag, hw, hyi⟩ := h.forgets x hx t ht
      exact ⟨y, hrelease x.line y hy hw, htag, hw, hyi⟩
  · rcases hmem m y hy with hy | ⟨rfl, rfl⟩
    · obtain ⟨x, hx, hxi, hxf⟩ := h.releases m y hy hw
      refine ⟨x, hx, hxi, ?_⟩
      simp only [Function.comp, if_neg (hxi.trans_ne (hnone m y hy hw))]
      exact hxf
    · exact ⟨e, he, hi.symm, by simp only [Function.comp, if_pos hi.symm, if_pos hw]⟩
  · by_cases hm : m = e.line
    · subst hm
      rw [hself, List.pairwise_append]
      refine ⟨(h.last e.line).filter _, List.pairwise_singleton _ _, fun x hx y hy hw heq => ?_⟩
      rw [List.mem_singleton.mp hy] at heq
      exact hnone e.line x (List.mem_of_mem_filter hx) hw heq.symm
    · rw [hother m hm]
      exact h.last m
  · have hcount := h.pending hk x hx hxb
    by_cases hl : x.line = e.line
    · rw [hl] at hcount ⊢
      rw [countP_split p] at hcount
      rw [hself, List.countP_append, List.countP_singleton]
      by_cases hxi : x.identity = r.target
      · simp only [Function.comp, hxi, beq_self_eq_true, if_true] at hcount ⊢
        omega
      · have hno : (r.target == x.identity) = false := by simpa using Ne.symm hxi
        simp only [Function.comp, if_neg hxi, hno, Bool.false_eq_true, if_false] at hcount ⊢
        omega
    · have hne : x.identity ≠ r.target := fun hxi => hl (List.inj_on_of_nodup_map hn hx he (hxi.trans hi) ▸ rfl)
      simp only [Function.comp, if_neg hne, hother _ hl]
      rw [h.countP_eq_zero_of_line hn hx hl fun y => List.mem_of_mem_filter, Nat.sub_zero]
      exact hcount

end Named

end Sys2Proof.Machine
end

section
/-! Requests, work and records in agreement (R36, R57, R107, R118, R127, R149, R150, R155): what the claims on roster, queues
and requests leave of it. -/

namespace Sys2Proof.Machine

open Sys2Proof.Statements

/-- The open requests are the jobs of the lines, a STOP is open only with some, and records and entries agree. -/
structure Dealt (k : Prop) (s : State) : Prop where
  tags : (s.table.map (·.tag)).Nodup
  jobs : (s.table.map Req.job).Perm s.jobs
  stop : StopLaw s
  named : Named k s.roster s.queues

/-- Two states of a line with the same jobs and records, told by tag, work and target. -/
structure LineState.SameJobs (L M : LineState) : Prop where
  census : M.census.map Census.tag = L.census.map Census.tag
  queue : M.queue = L.queue
  power : M.openPower = L.openPower

theorem LineState.SameJobs.refl (L : LineState) : L.SameJobs L := ⟨rfl, rfl, rfl⟩

theorem LineState.SameJobs.jobs {L M : LineState} (h : L.SameJobs M) (l : Line) : M.jobs l = L.jobs l :=
  LineState.jobs_congr h.census (by rw [h.queue]) h.power

namespace Dealt

variable {k : Prop} {s t u : State} {l : Line}

theorem tags_jobs (h : Dealt k s) : (s.jobs.map Job.tag).Nodup := by
  refine ((h.jobs.map Job.tag).nodup_iff).mp ?_
  rw [List.map_map]
  exact h.tags

theorem tags_queue (h : Dealt k s) (l : Line) : ((s.line l).queue.map (·.tag)).Nodup :=
  (LineState.queue_tags_sublist.trans ((State.jobs_sublist l).map _)).nodup h.tags_jobs

/-- A job is told by its tag. -/
theorem job_inj (h : Dealt k s) {i j : Job} (hi : i ∈ s.jobs) (hj : j ∈ s.jobs) (ht : i.tag = j.tag) : i = j :=
  List.inj_on_of_nodup_map h.tags_jobs hi hj ht

/-- The record of an open request. -/
theorem record_of_tag (h : Dealt k s) {q : Req} (hq : q.job ∈ s.jobs) {r : Txn} (hr : r ∈ (s.line l).queue)
    (ht : r.tag = q.tag) : r.job l = q.job :=
  h.job_inj (State.mem_jobs_of_line (LineState.mem_jobs.mpr (.inr (.inl ⟨r, hr, rfl⟩)))) hq ht

/-- What neither requests nor work nor records see. -/
theorem congr (h : Dealt k s) (ht : t.table.map Req.job = s.table.map Req.job) (hs : t.stop = s.stop)
    (hj : t.jobs = s.jobs) (hn : Named k t.roster t.queues) : Dealt k t := by
  have htags : t.table.map (·.tag) = s.table.map (·.tag) := by
    have := congrArg (List.map Job.tag) ht
    rwa [List.map_map, List.map_map] at this
  refine ⟨htags ▸ h.tags, ?_, fun hsome hnil => h.stop (hs ▸ hsome) ?_, hn⟩
  · rw [ht, hj]
    exact h.jobs
  · rwa [hnil, List.map_nil, eq_comm, List.map_eq_nil_iff] at ht

/-- What leaves the roster too. -/
theorem same (h : Dealt k s) (ht : t.table.map Req.job = s.table.map Req.job) (hs : t.stop = s.stop)
    (hl : ∀ m, (s.line m).SameJobs (t.line m)) (hr : t.roster = s.roster) : Dealt k t := by
  refine h.congr ht hs (State.jobs_eq_of_lines fun m => (hl m).jobs m) ?_
  rw [hr, show t.queues = s.queues from funext fun m => (hl m).queue]
  exact h.named

/-- Entries change in what records do not see. -/
theorem map_roster (h : Dealt k s) {g : Entry → Entry} (hg : ∀ e ∈ s.roster, (g e).identity = e.identity ∧
    (g e).line = e.line ∧ (g e).standing.isBound = e.standing.isBound ∧ (g e).forgetting = e.forgetting ∧
    (e.standing.isBound = true → (g e).pendingTx = e.pendingTx)) : Dealt k { s with roster := s.roster.map g } :=
  h.congr rfl rfl rfl (h.named.map_roster hg)

/-- A change of a line that leaves its jobs. -/
theorem modLine (h : Dealt k s) (l : Line) {f : LineState → LineState} (hf : (s.line l).SameJobs (f (s.line l))) :
    Dealt k (s.modLine l f) := by
  refine h.same (by simp) (by simp) (fun m => ?_) (by simp)
  by_cases hm : m = l
  · subst hm; rwa [State.line_modLine]
  · rw [State.line_modLine_of_ne _ hm]; exact .refl _

/-- Marks on the records of a line. -/
theorem map_queue (h : Dealt k s) (l : Line) {f : Txn → Txn}
    (hf : ∀ r, (f r).tag = r.tag ∧ (f r).work = r.work ∧ (f r).target = r.target) :
    Dealt k (s.setQueue l ((s.line l).queue.map f)) := by
  have hself : ∀ m, (s.setQueue l ((s.line l).queue.map f)).queues m = (s.queues m).map (if m = l then f else id) := fun m => by
    by_cases hm : m = l
    · subst hm
      rw [State.queues, State.setQueue, State.line_modLine, if_pos rfl]
    · rw [State.queues, State.setQueue, State.line_modLine_of_ne _ hm, if_neg hm, List.map_id]
  refine h.congr (by simp [State.setQueue]) (by simp [State.setQueue]) (State.jobs_eq_of_lines fun m => ?_) ?_
  · by_cases hm : m = l
    · subst hm
      rw [State.setQueue, State.line_modLine]
      refine LineState.jobs_congr rfl ?_ rfl
      rw [List.map_map]
      refine List.map_congr_left fun r _ => ?_
      obtain ⟨htag, hwork, htarget⟩ := hf r
      simp only [Function.comp, Txn.job, htag, hwork, htarget]
    · rw [State.setQueue, State.line_modLine_of_ne _ hm]
  · rw [State.setQueue, State.modLine_roster, ← State.setQueue, funext hself]
    refine h.named.map_queue (fun m => if m = l then f else id) fun m r => ?_
    split
    · exact hf r
    · exact ⟨rfl, rfl, rfl⟩

theorem setReqState (h : Dealt k s) (tag : Tag) (f : ReqState → ReqState) : Dealt k (s.setReqState tag f) := by
  refine h.same ?_ rfl (fun m => by cases m <;> exact .refl _) rfl
  rw [State.setReqState, List.map_map]
  refine List.map_congr_left fun q _ => ?_
  simp only [Function.comp]
  split <;> rfl

/-- Requests close with the work that has left the lines: `J` is the work that the table stood for. -/
theorem of_closings {J gone : List Job} {rs : List Report} (ht : (u.table.map (·.tag)).Nodup)
    (hJ : (u.table.map Req.job).Perm J) (hs : StopLaw u) (hjobs : J.Perm (u.jobs ++ gone))
    (htags : ∀ t, t ∈ rs.map (·.tag) ↔ t ∈ gone.map Job.tag) (hn : Named k u.roster u.queues) : Dealt k (u.closeAll rs) := by
  have hlines : (u.closeAll rs).queues = u.queues := funext fun m => by rw [State.queues, State.line_closeAll]
  refine ⟨?_, ?_, (u.closeAll_stop rs).2 hs, ?_⟩
  · rw [State.closeAll_table]
    exact (List.filter_sublist.map _).nodup ht
  · rw [State.closeAll_table, State.jobs_eq_of_lines (s := u) fun m => by rw [State.line_closeAll]]
    exact jobs_perm_less ht hJ hjobs htags
  · rw [State.closeAll_roster, hlines]
    exact hn

/-- Work leaves the lines and its requests close. -/
theorem closed (h : Dealt k s) {gone : List Job} {rs : List Report} (ht : u.table = s.table) (hs : u.stop = s.stop)
    (hjobs : s.jobs.Perm (u.jobs ++ gone)) (htags : ∀ t, t ∈ rs.map (·.tag) ↔ t ∈ gone.map Job.tag)
    (hn : Named k u.roster u.queues) : Dealt k (u.closeAll rs) :=
  of_closings (ht ▸ h.tags) (ht ▸ h.jobs) (fun hsome hnil => h.stop (hs ▸ hsome) (ht ▸ hnil)) hjobs htags hn

theorem jobs_of_filter (l : Line) (p : Txn → Bool) (queue : List Txn) :
    (queue.map (Txn.job l)).Perm ((queue.filter fun r => !p r).map (Txn.job l) ++ (queue.filter p).map (Txn.job l)) := by
  rw [← List.map_append]
  exact ((List.filter_append_perm p queue).symm.trans List.perm_append_comm).map _

/-- Records leave one line, its census and its LINE_POWER staying. -/
theorem jobs_of_queue {p : Txn → Bool} (hself : (u.line l).queue = (s.line l).queue.filter fun r => !p r)
    (hcensus : (u.line l).census = (s.line l).census) (hpower : (u.line l).openPower = (s.line l).openPower)
    (ho : ∀ m, m ≠ l → (u.line m).jobs m = (s.line m).jobs m) :
    s.jobs.Perm (u.jobs ++ ((s.line l).queue.filter p).map (Txn.job l)) := by
  refine State.jobs_perm_of_line (l := l) ?_ ho
  rw [LineState.jobs, LineState.jobs, hself, hcensus, hpower]
  refine List.Perm.trans (((jobs_of_filter l p _).append_right _).append_left _) ?_
  simp only [List.append_assoc]
  exact (List.perm_append_comm.append_left _).append_left _

theorem queues_setLine (s : State) (l : Line) (L : LineState) :
    (s.setLine l L).queues = Function.update s.queues l L.queue := by
  funext m
  by_cases hm : m = l
  · subst hm; rw [Function.update_self, State.queues, State.line_setLine]
  · rw [Function.update_of_ne hm, State.queues, State.line_setLine_of_ne _ hm]

end Dealt

end Sys2Proof.Machine
end

section
/-! Entries and records that leave, with the requests that close for them (R29, R35, R115, R116, R118, R120). -/

namespace Sys2Proof.Machine

open Sys2Proof.Statements

namespace Dealt

variable {k : Prop} {s t u : State} {l : Line}

theorem other_jobs {L : LineState} {es : List Entry} (m : Line) (hm : m ≠ l) :
    ((({ s with roster := es } : State).setLine l L).line m).jobs m = (s.line m).jobs m := by
  rw [State.line_setLine_of_ne _ hm]
  cases m <;> rfl

/-! ## An entry's records leave with it -/

/-- The records of an entry leave their line, and their requests close. -/
theorem entryLeaves (h : Dealt k s) (hr : RosterLaw s) {e : Entry} (he : e ∈ s.roster) {L : LineState}
    (hq : L.queue = purged (s.line e.line).queue e.identity) (hc : L.census = (s.line e.line).census)
    (hp : L.openPower = (s.line e.line).openPower) {es : List Entry}
    (hnew : ∀ x ∈ es, (x ∈ s.roster ∧ x.identity ≠ e.identity) ∨
      x.identity = e.identity ∧ x.forgetting = none ∧ (x.standing.isBound = true → x.pendingTx = 0))
    (hold : ∀ x ∈ s.roster, x.identity ≠ e.identity → x ∈ es) {rs : List Report}
    (htags : ∀ t, t ∈ rs.map (·.tag) ↔ ∃ r ∈ (s.line e.line).queue, r.target = e.identity ∧ r.tag = t) :
    Dealt k ((({ s with roster := es } : State).setLine e.line L).closeAll rs) := by
  have hself : ((({ s with roster := es } : State).setLine e.line L).line e.line) = L := State.line_setLine ..
  refine h.closed (by simp) (by simp)
    (jobs_of_queue (l := e.line) (p := (·.target == e.identity)) (by rw [hself]; exact hq) (by rw [hself]; exact hc)
      (by rw [hself]; exact hp) fun m hm => other_jobs m hm) (fun t => ?_) ?_
  · rw [htags, List.map_map]
    simp only [List.mem_map, List.mem_filter, Function.comp, Txn.job, beq_iff_eq, and_assoc]
  · rw [State.setLine_roster, queues_setLine]
    refine h.named.leave (· == e.identity) (fun x hx => ?_) (fun x hx hne => hold x hx (by simpa using hne)) fun m => ?_
    · exact (hnew x hx).imp (fun ⟨hmem, hne⟩ => ⟨hmem, by simpa using hne⟩) fun ⟨heq, hrest⟩ => ⟨by simpa using heq, hrest⟩
    · rw [h.named.filter_target hr.2.1 he m]
      by_cases hm : m = e.line
      · subst hm
        rw [Function.update_self, if_pos rfl, hq]
      · rw [Function.update_of_ne hm, if_neg hm]
        cases m <;> rfl

/-- The CLOSED of an entry's READs and WRITEs and of its FORGET close the requests of its records. -/
theorem tags_of_records (h : Dealt k s) (hr : RosterLaw s) {e : Entry} (he : e ∈ s.roster) (b : Tag → ReportBody) (t : Tag) :
    t ∈ (lostReports (s.line e.line).queue e.identity ++
        (e.forgetting.map fun tag => report tag (b tag)).toList).map (·.tag) ↔
      ∃ r ∈ (s.line e.line).queue, r.target = e.identity ∧ r.tag = t := by
  simp only [List.map_append, List.mem_append, List.mem_map, List.mem_filterMap, Option.mem_toList, Option.map_eq_some_iff]
  constructor
  · rintro (⟨x, ⟨r, hmem, hx⟩, rfl⟩ | ⟨x, ⟨tag, htag, rfl⟩, rfl⟩)
    · split at hx
      · rename_i hi
        obtain rfl := Option.some.inj hx
        exact ⟨r, hmem, hi.1, rfl⟩
      · exact nomatch hx
    · obtain ⟨r, hmem, htag, -, hi⟩ := h.named.forgets e he tag htag
      exact ⟨r, hmem, hi, htag⟩
  · rintro ⟨r, hmem, hi, rfl⟩
    by_cases hw : r.work = .release
    · exact .inr ⟨_, ⟨r.tag, h.named.forgetting_of_release hr.2.1 he hmem hi hw, rfl⟩, rfl⟩
    · exact .inl ⟨_, ⟨r, hmem, if_pos ⟨hi, hw⟩⟩, rfl⟩

theorem countOut (h : Dealt k s) (hr : RosterLaw s) {e : Entry} (he : e ∈ s.roster) : Dealt k (s.countOut e) := by
  cases hb : e.standing.isBound with
  | false => rwa [s.countOut_of_not_bound hb]
  | true =>
    obtain ⟨a, lease, hst⟩ := Standing.exists_of_isBound hb
    rw [State.countOut_of_bound hr he hst]
    refine h.entryLeaves hr he (L := outLine s e a lease) rfl rfl rfl (fun x hx => ?_) (fun x hx hne => mem_countedOut_of_ne hx hne)
      fun t => h.tags_of_records hr he (fun _ => _) t
    exact (mem_countedOut hr.2.1 he hx).imp_right fun ⟨hf, heq⟩ => heq ▸ ⟨rfl, hf, fun hb => nomatch hb⟩

/-- The roster without an entry. -/
theorem mem_without {es : List Entry} {i : Ident} {x : Entry} : x ∈ es.filter (·.identity != i) ↔ x ∈ es ∧ x.identity ≠ i := by
  rw [List.mem_filter, bne_iff_ne]

theorem forgottenFound (h : Dealt k s) (hr : RosterLaw s) {e : Entry} (he : e ∈ s.roster) {a lease : Nat}
    (hb : e.standing = .bound a lease) {tag : Tag} (hf : e.forgetting = some tag) : Dealt k (s.forgottenFound e a tag) := by
  rw [State.forgottenFound_eq hr he hb]
  refine h.entryLeaves hr he (L := { s.line e.line with
    pool := (s.line e.line).pool ++ [a], queue := purged (s.line e.line).queue e.identity }) rfl rfl rfl
    (fun x hx => .inl (mem_without.mp hx)) (fun x hx hne => mem_without.mpr ⟨hx, hne⟩) fun t => ?_
  rw [← h.tags_of_records hr he (fun tag => .closed .done (.forget e.identity .found)) t, hf]
  rfl

/-- No record stands beside the RELEASE at the head for its target (R109, R118). -/
theorem purged_of_release (h : Dealt k s) {r : Txn} {rest : List Txn} (hq : (s.line l).queue = r :: rest)
    (hw : r.work = .release) : purged (s.line l).queue r.target = rest := by
  have hlast := h.named.last l
  rw [State.queues, hq, List.pairwise_cons] at hlast
  rw [hq, purged, List.filter_cons_of_neg (by simp)]
  exact List.filter_eq_self.mpr fun x hx => by simpa using hlast.1 x hx hw

/-- The RELEASE at the head ends, and its target is removed (R35, R119). -/
theorem removal (h : Dealt k s) (hr : RosterLaw s) {r : Txn} {rest : List Txn} (hq : (s.line l).queue = r :: rest)
    (hw : r.work = .release) (b : Bool) : Dealt k ((s.setQueue l rest).removal r.target r.tag b) := by
  have hmem : r ∈ (s.line l).queue := hq ▸ List.mem_cons_self
  obtain ⟨e, he, hi, hbound⟩ := h.named.target l r hmem
  obtain ⟨rfl, hb⟩ := h.named.line_of_target hr.2.1 he hmem hi.symm
  obtain ⟨a, lease, hst⟩ := Standing.exists_of_isBound hb
  have hpurged := h.purged_of_release hq hw
  have hlookup : (s.setQueue e.line rest).lookup r.target = some e := by
    rw [State.lookup, State.setQueue, State.modLine_roster]
    exact hi ▸ RosterLaw.lookup_of_mem hr he
  have hreports : ∀ (d : ForgetDetail) t, t ∈ [report r.tag (.closed .done (.forget r.target d))].map (·.tag) ↔
      ∃ y ∈ (s.line e.line).queue, y.target = e.identity ∧ y.tag = t := fun d t => by
    rw [List.map_singleton, List.mem_singleton]
    constructor
    · rintro rfl
      exact ⟨r, hmem, hi.symm, rfl⟩
    · rintro ⟨y, hy, hyi, rfl⟩
      rw [hq] at hy
      rcases List.mem_cons.mp hy with rfl | hy
      · rfl
      · have hstays : y ∈ purged (s.line e.line).queue r.target := hpurged ▸ hy
        exact absurd (hyi.trans hi) (bne_iff_ne.mp (List.mem_filter.mp hstays).2)
  have hcloses : ∀ (L : LineState) (d : ForgetDetail), L.queue = rest → L.census = (s.line e.line).census →
      L.openPower = (s.line e.line).openPower → Dealt k ((({ s with
        roster := s.roster.filter (·.identity != r.target) } : State).setLine e.line L).closeAll
          [report r.tag (.closed .done (.forget r.target d))]) := fun L d hL hc hp =>
    h.entryLeaves hr he (by rw [hL, ← hpurged, hi]) hc hp (fun x hx => .inl (hi ▸ mem_without.mp hx))
      (fun x hx hne => mem_without.mpr ⟨hx, hi ▸ hne⟩) (hreports d)
  have hru : RosterLaw (s.setQueue e.line rest) := hr.modLine _ _
  have hline : (s.setQueue e.line rest).line e.line = { s.line e.line with queue := rest } := by
    rw [State.setQueue, State.line_modLine]
  cases b with
  | true =>
    rw [State.removal_of_ack hru hlookup hst, hline, State.setQueue, State.modLine_eq_setLine, State.setLine_with_roster,
      State.setLine_setLine, State.setLine_roster]
    refine hcloses _ _ ?_ ?_ ?_ <;> rfl
  | false =>
    rw [State.removal_of_silence hru hlookup hst, hline, State.setQueue, State.modLine_eq_setLine, State.setLine_with_roster,
      State.setLine_setLine, State.setLine_roster]
    refine hcloses _ _ ?_ ?_ ?_ <;> rfl

/-! ## One record leaves -/

/-- A READ or WRITE leaves its queue and closes, its attempts perhaps counted first. -/
theorem recordLeaves (h : Dealt k s) (hr : RosterLaw s) {r x : Txn} (hmem : r ∈ (s.line l).queue) (hw : r.work ≠ .release)
    (hx : x.tag = r.tag ∧ x.work = r.work ∧ x.target = r.target) (o : CloseOutcome) (bs : Option (List Byte))
    (c : Option RefusalCode) :
    Dealt k ((s.setQueue l ((s.line l).queue.filter (·.tag != r.tag))).closeTxn x o bs c) := by
  obtain ⟨htag, hwork, htarget⟩ := hx
  have hone : (s.line l).queue.filter (·.tag == r.tag) = [r] := Named.filter_tag (h.tags_queue l) hmem
  rw [State.closeTxn_eq_closing _ (hwork ▸ hw), htag, htarget, State.setQueue, State.modLine_eq_setLine,
    State.setLine_roster, State.setLine_with_roster]
  refine h.closed (by simp) (by simp) (jobs_of_queue (l := l) (p := (·.tag == r.tag)) (by rw [State.line_setLine]; rfl)
    (by rw [State.line_setLine]) (by rw [State.line_setLine]) fun m hm => other_jobs m hm) (fun t => ?_) ?_
  · rw [hone]
    exact .rfl
  · rw [State.setLine_roster, queues_setLine, ← lessPendingBy_nil (lessPending r.target s.roster), lessPendingBy_cons, ← hone]
    refine h.named.drop hr.2.1 (fun y hy hty => ?_) (Function.update_self ..) fun m hm => ?_
    · have hy' : y ∈ (s.line l).queue.filter (·.tag == r.tag) := List.mem_filter.mpr ⟨hy, hty⟩
      rw [hone, List.mem_singleton] at hy'
      exact hy' ▸ hw
    · rw [Function.update_of_ne hm]
      cases m <;> rfl

/-- A RELEASE not yet granted leaves, and its target is forgotten no more (R120). -/
theorem releaseLeaves (h : Dealt k s) (hr : RosterLaw s) {r : Txn} (hmem : r ∈ (s.line l).queue) (hw : r.work = .release)
    (o : CloseOutcome) (x : CloseResult) :
    Dealt k (((s.setQueue l ((s.line l).queue.filter (·.tag != r.tag))).updNamed r.target fun e =>
      { e with forgetting := none, pendingTx := e.pendingTx - 1 }).close r.tag o x) := by
  have hone : (s.line l).queue.filter (·.tag == r.tag) = [r] := Named.filter_tag (h.tags_queue l) hmem
  rw [State.close_eq_closeAll, State.updNamed, State.setQueue, State.modLine_eq_setLine, State.setLine_roster,
    State.setLine_with_roster]
  refine h.closed (by simp) (by simp) (jobs_of_queue (l := l) (p := (·.tag == r.tag)) (by rw [State.line_setLine]; rfl)
    (by rw [State.line_setLine]) (by rw [State.line_setLine]) fun m hm => other_jobs m hm) (fun t => ?_) ?_
  · rw [hone]
    exact .rfl
  · rw [State.setLine_roster, queues_setLine]
    refine h.named.withdraw hr.2.1 hmem hw (h.tags_queue l) (Function.update_self ..) fun m hm => ?_
    rw [Function.update_of_ne hm]
    cases m <;> rfl

/-! ## A census or a LINE_POWER leaves -/

/-- A line's census leaves with its request (R72, R74). -/
theorem closeCensus (h : Dealt k s) (l : Line) (o : CloseOutcome) : Dealt k (s.closeCensus l o) := by
  rw [State.closeCensus_eq]
  have hother : ∀ m, m ≠ l → ((s.setLine l { s.line l with census := none }).line m).jobs m = (s.line m).jobs m :=
    fun m hm => by rw [State.line_setLine_of_ne _ hm]
  refine h.closed (gone := ((s.line l).census.map (Census.job l)).toList) (by simp) (by simp)
    (State.jobs_perm_of_line (l := l) ?_ hother) (fun t => ?_) ?_
  · rw [State.line_setLine, LineState.jobs, LineState.jobs]
    exact List.perm_append_comm
  · cases (s.line l).census <;> simp [censusClosed, Census.job]
  · rw [State.setLine_roster, queues_setLine, Function.update_eq_self]
    exact h.named

/-- A line's LINE_POWER leaves with its request (R127, R130). -/
theorem closePower (h : Dealt k s) (l : Line) (o : CloseOutcome) (p : LinePower) (n : Nat) :
    Dealt k (s.closePower l o p n) := by
  cases hp : (s.line l).openPower with
  | none => rwa [State.closePower_of_none hp]
  | some x =>
    obtain ⟨tag, d⟩ := x
    rw [State.closePower_eq hp]
    have hother : ∀ m, m ≠ l → ((s.setLine l { s.line l with openPower := none }).line m).jobs m = (s.line m).jobs m :=
      fun m hm => by rw [State.line_setLine_of_ne _ hm]
    refine h.closed (gone := [powerJob l (tag, d)]) (by simp) (by simp) (State.jobs_perm_of_line (l := l) ?_ hother)
      (fun t => .rfl) ?_
    · rw [State.line_setLine, LineState.jobs, LineState.jobs, hp]
      simp
    · rw [State.setLine_roster, queues_setLine, Function.update_eq_self]
      exact h.named

end Dealt

end Sys2Proof.Machine
end

section
/-! Requests, work and records in agreement: windows, finds, the sweep of a line and the ends of operations. -/

namespace Sys2Proof.Machine

open Sys2Proof.Statements

namespace Dealt

variable {k : Prop} {s t u : State} {l : Line}

/-! ## Events, counters, timers -/

theorem pushEvent (h : Dealt k s) (tag : Tag) (e : Event) : Dealt k (s.pushEvent tag e) := by
  obtain ⟨rs, d, heq, -, -⟩ := s.pushEvent_eq tag e
  rw [heq]
  exact h.same rfl rfl (fun m => by cases m <;> exact .refl _) rfl

theorem pushLineEvents (h : Dealt k s) (es : List Event) : Dealt k (s.pushLineEvents es) := by
  obtain ⟨rs, d, heq⟩ := s.pushLineEvents_eq es
  rw [heq]
  exact h.same rfl rfl (fun m => by cases m <;> exact .refl _) rfl

theorem setLine (h : Dealt k s) (l : Line) {L : LineState} (hL : (s.line l).SameJobs L) : Dealt k (s.setLine l L) :=
  h.modLine l (f := fun _ => L) hL

theorem passTo (h : Dealt k s) (x : Clock) : Dealt k (s.passTo x) :=
  h.same rfl rfl (fun m => by cases m <;> exact .refl _) rfl

theorem settle (h : Dealt k s) : Dealt k s.settle := by
  refine h.same (by simp) (by simp) (fun m => ?_) (by simp)
  obtain ⟨_, _, _, _, _, heq, -⟩ := lineSettled_eq s m
  rw [State.line_settle, heq]
  exact ⟨rfl, rfl, rfl⟩

theorem countWindow (h : Dealt k s) (l : Line) (w : WindowClass) : Dealt k (s.countWindow l w) := by
  rw [State.countWindow_eq]
  exact h.modLine l (f := fun L => { L with counters := classCounted w L.counters }) ⟨rfl, rfl, rfl⟩

theorem counted (h : Dealt k s) (l : Line) (w : WindowClass) (b : Bool) : Dealt k ((s.countWindow l w).countMismatch l b) := by
  rw [State.countMismatch_eq]
  exact (h.countWindow l w).modLine l (f := fun L => { L with counters := _ }) ⟨rfl, rfl, rfl⟩

/-! ## Entries heard from -/

/-- An entry heard from or missed. -/
theorem heeded (h : Dealt k s) (n : Nat) {f : Entry → Entry} (hf : ∀ e, (f e).identity = e.identity ∧ (f e).line = e.line ∧
    (f e).standing.isBound = e.standing.isBound ∧ (f e).forgetting = e.forgetting ∧ (f e).pendingTx = e.pendingTx) :
    Dealt k (s.updEntry n f) := by
  refine h.map_roster fun e _ => ?_
  split
  · obtain ⟨hi, hl, hb, hforget, hp⟩ := hf e
    exact ⟨hi, hl, hb, hforget, fun _ => hp⟩
  · exact ⟨rfl, rfl, rfl, rfl, fun _ => rfl⟩

theorem answered (h : Dealt k s) (n : Nat) (flag : Option Bool) : Dealt k (s.answered n flag) := by
  refine h.heeded n fun e => ?_
  split <;> exact ⟨rfl, rfl, rfl, rfl, rfl⟩

theorem answeredNamed (h : Dealt k s) (i : Ident) : Dealt k (s.answeredNamed i) := by
  unfold State.answeredNamed
  split
  · exact h.answered _ _
  · exact h

theorem miss (h : Dealt k s) (hr : RosterLaw s) (n : Nat) (c : LossCause) : Dealt k (s.miss n c) := by
  unfold State.miss
  split
  · rename_i e he
    obtain ⟨hmem, -⟩ := State.mem_of_entryOf he
    split
    · split
      · exact (h.countOut hr hmem).pushLineEvents _
      · exact h.heeded n fun e => ⟨rfl, rfl, rfl, rfl, rfl⟩
    · exact h
  · exact h

theorem missNamed (h : Dealt k s) (hr : RosterLaw s) (i : Ident) (c : LossCause) : Dealt k (s.missNamed i c) := by
  unfold State.missNamed
  split
  · exact h.miss hr _ _
  · exact h

theorem pollHeard (h : Dealt k s) (hr : RosterLaw s) (l : Line) (n : Nat) (i : Ident) (a : Address) (w : WindowClass) :
    Dealt k (s.pollHeard l n i a w) := by
  have hc := h.counted l w (mismatch w i)
  have hrc := RosterLaw.bookLaw.counted hr l w (mismatch w i)
  unfold State.pollHeard
  dsimp only
  split
  · split
    · split
      · split
        · unfold State.reportAttention
          split
          · exact (hc.answered _ _).pushEvent _ _
          · exact hc.answered _ _
        · exact hc
      · exact hc
    · exact hc.miss hrc _ _
  · exact hc.miss hrc _ _

theorem bindOutcome (h : Dealt k s) (hr : RosterLaw s) (n : Nat) (b : Bool) : Dealt k (s.bindOutcome n b) := by
  unfold State.bindOutcome
  split
  · rename_i e he
    obtain ⟨hmem, -⟩ := State.mem_of_entryOf he
    split
    · split
      · exact h.heeded n fun e => ⟨rfl, rfl, rfl, rfl, rfl⟩
      · exact h.countOut hr hmem
    · exact h
  · exact h

theorem expireDue (h : Dealt k s) (l : Line) : Dealt k (s.expireDue l) := by
  rw [State.expireDue_eq]
  refine setLine (s := { s with roster := s.roster.map (expiredFrom l (s.dueRecords l)) }) (h.map_roster fun e _ => ?_) l
    (by cases l <;> exact ⟨rfl, rfl, rfl⟩)
  unfold expiredFrom
  split
  · rename_i hdue
    obtain ⟨-, r, -, -, hst⟩ := hdue
    exact ⟨rfl, rfl, by rw [hst]; rfl, rfl, fun _ => rfl⟩
  · exact ⟨rfl, rfl, rfl, rfl, fun _ => rfl⟩

/-! ## Finds -/

/-- The entry of an identity that no record names comes, goes or changes. -/
theorem unnamed (h : Dealt k s) {i : Ident} (hi : ∀ l, ∀ r ∈ s.queues l, r.target ≠ i)
    (hnew : ∀ e ∈ t.roster, (e ∈ s.roster ∧ e.identity ≠ i) ∨
      e.identity = i ∧ e.forgetting = none ∧ (e.standing.isBound = true → e.pendingTx = 0))
    (hold : ∀ e ∈ s.roster, e.identity ≠ i → e ∈ t.roster) (ht : t.table = s.table) (hs : t.stop = s.stop)
    (hl : ∀ m, (s.line m).SameJobs (t.line m)) : Dealt k t := by
  refine h.congr (by rw [ht]) hs (State.jobs_eq_of_lines fun m => (hl m).jobs m) ?_
  rw [show t.queues = s.queues from funext fun m => (hl m).queue]
  exact h.named.unnamed hi hnew hold

theorem createEntry (h : Dealt k s) {l : Line} {i : Ident} {mem : Nat} (hi : s.lookup i = none) :
    Dealt k (s.createEntry l i mem).1 := by
  have hfree := State.lookup_eq_none.mp hi
  have hadds : ∀ {t : State} {x : Standing}, t.roster = s.roster ++ [newEntry s l i mem x] → t.table = s.table →
      t.stop = s.stop → (∀ m, (s.line m).SameJobs (t.line m)) → Dealt k t := fun {t x} hr ht hs hl => by
    refine h.unnamed (h.named.ne_of_unknown hfree) (fun e he => ?_) (fun e he _ => ?_) ht hs hl
    · rw [hr, List.mem_append, List.mem_singleton] at he
      rcases he with he | rfl
      · exact .inl ⟨he, hfree e he⟩
      · exact .inr ⟨rfl, rfl, fun _ => rfl⟩
    · rw [hr]
      exact List.mem_append_left _ he
  unfold State.createEntry
  dsimp only
  split
  · rename_i a _ _
    exact hadds (x := .bound a s.params.nodeLease) (by cases l <;> rfl) (by cases l <;> rfl) (by cases l <;> rfl) fun m => by
      cases l <;> cases m <;> exact ⟨rfl, rfl, rfl⟩
  · exact hadds (x := .unbound) rfl rfl rfl fun m => by cases m <;> exact .refl _

theorem mem_withEntry {es : List Entry} (hn : (es.map (·.identity)).Nodup) {e x : Entry} (he : e ∈ es) {f : Entry → Entry}
    (hx : x ∈ withEntry e.identity f es) : (x ∈ es ∧ x.identity ≠ e.identity) ∨ x = f e := by
  obtain ⟨y, hy, rfl⟩ := List.mem_map.mp hx
  split
  · rename_i hi
    exact .inr (List.inj_on_of_nodup_map hn hy he hi ▸ rfl)
  · exact .inl ⟨hy, ‹_›⟩

theorem mem_withEntry_of_ne {es : List Entry} {i : Ident} {x : Entry} (hx : x ∈ es) (hi : x.identity ≠ i) {f : Entry → Entry} :
    x ∈ withEntry i f es := List.mem_map.mpr ⟨x, hx, if_neg hi⟩

/-- An entry that is found again. -/
theorem found (h : Dealt k s) (hr : RosterLaw s) {e : Entry} (he : e ∈ s.roster)
    (hidle : e.standing.isBound = false → e.pendingTx = 0 ∧ e.forgetting = none) {f : Entry → Entry}
    (hf : ∀ x, (f x).identity = x.identity ∧ (f x).forgetting = x.forgetting ∧ (f x).pendingTx = x.pendingTx)
    (hcan : e.standing.isBound = false ∨ (f e).line = e.line ∧ (f e).standing.isBound = e.standing.isBound)
    (hroster : t.roster = s.roster.map fun x => if x.serial = e.serial then f x else x) (ht : t.table = s.table)
    (hs : t.stop = s.stop) (hl : ∀ m, (s.line m).SameJobs (t.line m)) : Dealt k t := by
  rw [RosterLaw.map_serial hr he] at hroster
  obtain ⟨hfi, hff, hfp⟩ := hf e
  rcases hcan with hnot | ⟨hline, hbound⟩
  · obtain ⟨hzero, hnone⟩ := hidle hnot
    refine h.unnamed (h.named.ne_of_not_bound hr.2.1 he hnot) (fun x hx => ?_) (fun x hx hne => ?_) ht hs hl
    · rw [hroster] at hx
      refine (mem_withEntry hr.2.1 he hx).imp_right fun heq => ?_
      exact heq ▸ ⟨hfi, hff.trans hnone, fun _ => hfp.trans hzero⟩
    · rw [hroster]
      exact mem_withEntry_of_ne hx hne
  · refine h.congr (by rw [ht]) hs (State.jobs_eq_of_lines fun m => (hl m).jobs m) ?_
    rw [hroster, show t.queues = s.queues from funext fun m => (hl m).queue]
    refine h.named.map_roster fun x hx => ?_
    split
    · rename_i hi
      obtain rfl := RosterLaw.identity_inj hr hx he hi
      exact ⟨hfi, hline, hbound, hff, fun _ => hfp⟩
    · exact ⟨rfl, rfl, rfl, rfl, fun _ => rfl⟩

theorem bindEntry (h : Dealt k s) (hr : RosterLaw s) {e : Entry} (he : e ∈ s.roster)
    (hidle : e.standing.isBound = false → e.pendingTx = 0 ∧ e.forgetting = none) {l : Line} (mem : Nat)
    (event : Address → Nat → FindEvent) (hcan : e.standing.isBound = false ∨ e.line = l ∧ (s.line l).pool ≠ []) :
    Dealt k (s.bindEntry e l mem event).1 := by
  unfold State.bindEntry
  split
  · rename_i a _ _
    refine h.found hr he hidle (f := fun x => { x with
        line := l, standing := .bound a (s.dropHead l).params.nodeLease, misses := 0, returns := min 255 (e.returns + 1)
        memorySize := mem, lastSeen := (s.dropHead l).clock }) (fun x => ⟨rfl, rfl, rfl⟩) ?_
      (by cases l <;> rfl) (by cases l <;> rfl) (by cases l <;> rfl) fun m => by cases l <;> cases m <;> exact ⟨rfl, rfl, rfl⟩
    cases hb : e.standing.isBound with
    | false => exact .inl rfl
    | true => exact .inr ⟨(hcan.resolve_left (by simp [hb])).1.symm, rfl⟩
  · rename_i hpool
    exact h.found hr he hidle (f := fun x => { x with
      line := l, standing := .unbound, memorySize := mem, lastSeen := s.clock }) (fun x => ⟨rfl, rfl, rfl⟩) (.inl (hcan.resolve_right fun ⟨_, hne⟩ => hne hpool)) rfl rfl rfl
      fun m => by cases m <;> exact .refl _

theorem find (h : Dealt k s) (hr : RosterLaw s)
    (hidle : ∀ e ∈ s.roster, e.standing.isBound = false → e.pendingTx = 0 ∧ e.forgetting = none) (l : Line) (i : Ident)
    (mem : Nat) : Dealt k (s.find l i mem).1 := by
  unfold State.find
  split
  · rename_i hi
    split
    · exact h.createEntry hi
    · exact h
  · rename_i e he
    obtain ⟨hmem, -⟩ := State.mem_of_lookup he
    split
    · rename_i a lease hst
      split
      · rename_i hl
        split
        · rename_i tag hf
          exact h.forgottenFound hr hmem hst hf
        · refine (h.modLine l (f := fun L => { L with pool := L.pool ++ [a] }) ⟨rfl, rfl, rfl⟩).bindEntry (hr.modLine l _)
            (by simpa using hmem) (hidle e hmem) mem _ (.inr ⟨hl, ?_⟩)
          rw [State.line_modLine]
          simp
      · exact h
    · rename_i hnot
      have hfree := Standing.isBound_eq_false hnot
      have hreleased : Dealt k (s.releaseHeld e.line e.held) ∧ RosterLaw (s.releaseHeld e.line e.held) ∧
          e ∈ (s.releaseHeld e.line e.held).roster := by
        obtain ⟨hroster, hserial, -⟩ := s.releaseHeld_roster e.line e.held
        refine ⟨?_, hr.of_eq hroster hserial, hroster ▸ hmem⟩
        unfold State.releaseHeld
        split
        · exact h.modLine _ ⟨rfl, rfl, rfl⟩
        · exact h
      obtain ⟨hd, hrr, hmem'⟩ := hreleased
      dsimp only
      split <;> exact hd.bindEntry hrr hmem' (hidle e hmem) mem _ (.inl hfree)

/-! ## The sweep of a line -/

/-- The CLOSED of a sweep close the requests of the line's FORGETs, census and records (R31, R74, R122). -/
theorem tags_of_sweep (h : Dealt k s) (hr : RosterLaw s) (l : Line) (t : Tag) :
    t ∈ (sweepReports s l).map (·.tag) ↔
      t ∈ (((s.line l).census.map (Census.job l)).toList ++ (s.line l).queue.map (Txn.job l)).map Job.tag := by
  have hcensus : t ∈ (((s.line l).census.map (censusClosed · .lineDown)).toList).map (·.tag) ↔
      t ∈ (((s.line l).census.map (Census.job l)).toList).map Job.tag := by
    cases (s.line l).census <;> simp [censusClosed, Census.job]
  have hrecords : t ∈ ((s.boundEntries l).filterMap unpoweredForget).map (·.tag) ∨
      t ∈ ((s.line l).queue.filterMap (closedTxn .lineDown)).map (·.tag) ↔
      t ∈ ((s.line l).queue.map (Txn.job l)).map Job.tag := by
    simp only [List.mem_map, List.mem_filterMap, exists_exists_and_eq_and]
    constructor
    · rintro (⟨x, ⟨e, he, hx⟩, rfl⟩ | ⟨x, ⟨r, hmem, hx⟩, rfl⟩)
      · obtain ⟨hmem, hbound⟩ := List.mem_filter.mp he
        obtain ⟨tag, hf, rfl⟩ := Option.map_eq_some_iff.mp hx
        obtain ⟨r, hmem', htag, -, -⟩ := h.named.forgets e hmem tag hf
        simp only [Entry.boundOn, Bool.and_eq_true, beq_iff_eq] at hbound
        exact ⟨r, hbound.1 ▸ hmem', htag⟩
      · by_cases hw : r.work = .release
        · rw [closedTxn, if_pos hw] at hx
          exact nomatch hx
        · rw [closedTxn, if_neg hw] at hx
          obtain rfl := Option.some.inj hx
          exact ⟨r, hmem, rfl⟩
    · rintro ⟨r, hmem, rfl⟩
      by_cases hw : r.work = .release
      · obtain ⟨e, he, hi, hbound⟩ := h.named.target l r hmem
        have hf := h.named.forgetting_of_release hr.2.1 he hmem hi.symm hw
        refine .inl ⟨_, ⟨e, List.mem_filter.mpr ⟨he, hbound⟩, by rw [unpoweredForget, hf]; rfl⟩, rfl⟩
      · exact .inr ⟨_, ⟨r, hmem, if_neg hw⟩, rfl⟩
  rw [sweepReports_eq, List.map_append, List.map_append, List.mem_append, List.mem_append, hcensus, List.map_append,
    List.mem_append, ← hrecords]
  exact or_left_comm

/-- Is an identity that of an entry of this line? -/
def State.standsOn (s : State) (l : Line) (i : Ident) : Bool := s.roster.any fun e => e.identity == i && e.line == l

theorem lineDown (h : Dealt k s) (hr : RosterLaw s)
    (hidle : ∀ e ∈ s.roster, e.standing.isBound = false → e.pendingTx = 0 ∧ e.forgetting = none) (l : Line) :
    Dealt k (s.lineDown l) := by
  have hstands : ∀ e ∈ s.roster, (State.standsOn s l e.identity = true ↔ e.line = l) := fun e he => by
    rw [State.standsOn, List.any_eq_true]
    constructor
    · rintro ⟨x, hx, hxe⟩
      simp only [Bool.and_eq_true, beq_iff_eq] at hxe
      exact RosterLaw.identity_inj hr hx he hxe.1 ▸ hxe.2
    · exact fun hl => ⟨e, he, by simp [hl]⟩
  have hapart : ∀ e ∈ s.roster, e.line ≠ l → { e with
      pendingTx := e.pendingTx - (s.line l).queue.countP (·.target == e.identity) } = e := fun e he hl => by
    rw [h.named.countP_eq_zero_of_line hr.2.1 he hl (rs := (s.line l).queue) fun _ hmem => hmem, Nat.sub_zero]
  have htarget : ∀ m, ∀ r ∈ s.queues m, (State.standsOn s l r.target = true ↔ m = l) := fun m r hmem => by
    obtain ⟨e, he, hi, -⟩ := h.named.target m r hmem
    rw [← hi, hstands e he, (h.named.line_of_target hr.2.1 he hmem hi.symm).1]
  rw [State.lineDown_eq hr]
  refine h.closed (gone := ((s.line l).census.map (Census.job l)).toList ++ (s.line l).queue.map (Txn.job l)) (by simp)
    (by simp) (State.jobs_perm_of_line (l := l) ?_ fun m hm => other_jobs m hm) (h.tags_of_sweep hr l) ?_
  · rw [State.line_setLine, LineState.jobs, LineState.jobs]
    simp only [Option.map_none, Option.toList_none, List.map_nil, List.nil_append]
    rw [← List.append_assoc]
    exact List.perm_append_comm
  · rw [State.setLine_roster, queues_setLine]
    refine h.named.leave (State.standsOn s l) (fun y hy => ?_) (fun x hx hno => ?_) fun m => ?_
    · obtain ⟨z, hz, rfl⟩ := List.mem_map.mp hy
      obtain ⟨x, hx, hxz⟩ := List.mem_filterMap.mp hz
      by_cases hl : x.line = l
      · have hon := (hstands x hx).mpr hl
        rcases unpoweredEntry_cases hxz with ⟨rfl, hun⟩ | ⟨hf, -, rfl⟩ | ⟨o, hst, -, rfl⟩
        · exact .inr ⟨hon, (hidle z hx (by rw [hun hl]; rfl)).2, fun hb => absurd hb (by simp [hun hl, Standing.isBound])⟩
        · exact .inr ⟨hon, hf, fun hb => nomatch hb⟩
        · exact .inr ⟨hon, (hidle x hx (by rw [hst]; rfl)).2, fun hb => nomatch hb⟩
      · have hsame : unpoweredEntry l x = some x := if_neg hl
        obtain rfl : x = z := Option.some.inj (hsame.symm.trans hxz)
        refine .inl ⟨?_, Bool.eq_false_iff.mpr fun hon => hl ((hstands x hx).mp hon)⟩
        rw [hapart x hx hl]
        exact hx
    · have hl : x.line ≠ l := fun hl => Bool.false_ne_true (hno.symm.trans ((hstands x hx).mpr hl))
      exact List.mem_map.mpr ⟨x, List.mem_filterMap.mpr ⟨x, hx, if_neg hl⟩, hapart x hx hl⟩
    · by_cases hm : m = l
      · subst hm
        rw [Function.update_self, eq_comm, List.filter_eq_nil_iff]
        exact fun r hmem => by simp [(htarget m r hmem).mpr rfl]
      · rw [Function.update_of_ne hm]
        refine Eq.trans ?_ (List.filter_eq_self.mpr fun r hmem => ?_).symm
        · cases m <;> rfl
        · exact Bool.not_eq_true' _ ▸ Bool.eq_false_iff.mpr fun hon => hm ((htarget m r hmem).mp hon)

end Dealt

end Sys2Proof.Machine
end

section
/-! Requests, work and records in agreement, kept by every command of the lines. -/

namespace Sys2Proof.Machine

open Sys2Proof.Statements

/-- Entries are legal, and requests, work and records agree. -/
structure Agreed (k : Prop) (s : State) : Prop where
  entries : EntryLaws s
  dealt : Dealt k s

theorem EntryLaws.idle {s : State} (h : EntryLaws s) :
    ∀ e ∈ s.roster, e.standing.isBound = false → e.pendingTx = 0 ∧ e.forgetting = none := fun e he hb => by
  obtain ⟨-, hpending, hforget⟩ := (h.2.2 e he).2.2 hb
  exact ⟨hpending, hforget⟩

/-- The record of an attempt, with the fields that an attempt writes, put upon a record. -/
def Txn.runAs (y x : Txn) : Txn :=
  if x.tag = y.tag then { x with attempts := y.attempts, unheard := y.unheard, halt := y.halt, inFlight := y.inFlight } else x

theorem Txn.runAs_keeps (y x : Txn) : (y.runAs x).tag = x.tag ∧ (y.runAs x).work = x.work ∧ (y.runAs x).target = x.target := by
  unfold Txn.runAs
  split <;> exact ⟨rfl, rfl, rfl⟩

namespace Agreed

variable {k : Prop} {s t u : State} {l : Line}

theorem roster (h : Agreed k s) : RosterLaw s := h.entries.1

theorem host (h : Agreed k s) (hk : HostOnly s t) (hd : Dealt k t) : Agreed k t := ⟨h.entries.host hk, hd⟩

/-- A change of a line that leaves its jobs. -/
theorem modLine (h : Agreed k s) (l : Line) {f : LineState → LineState} (hf : (s.line l).SameJobs (f (s.line l))) :
    Agreed k (s.modLine l f) := ⟨h.entries.modLine l f, h.dealt.modLine l hf⟩

theorem settle (h : Agreed k s) : Agreed k s.settle :=
  ⟨EntryLaws.bookLaw.same h.entries (.settle s), h.dealt.settle⟩

theorem passTo (h : Agreed k s) (x : Clock) : Agreed k (s.passTo x) :=
  ⟨EntryLaws.bookLaw.passTo h.entries x, h.dealt.passTo x⟩

theorem countWindow (h : Agreed k s) (l : Line) (w : WindowClass) : Agreed k (s.countWindow l w) :=
  ⟨EntryLaws.bookLaw.countWindow h.entries l w, h.dealt.countWindow l w⟩

theorem counted (h : Agreed k s) (l : Line) (w : WindowClass) (b : Bool) :
    Agreed k ((s.countWindow l w).countMismatch l b) :=
  ⟨EntryLaws.bookLaw.counted h.entries l w b, h.dealt.counted l w b⟩

theorem closePower (h : Agreed k s) (l : Line) (o : CloseOutcome) (p : LinePower) (n : Nat) :
    Agreed k (s.closePower l o p n) :=
  ⟨EntryLaws.bookLaw.same h.entries (.closePower s l o p n), h.dealt.closePower l o p n⟩

theorem lineDown (h : Agreed k s) (l : Line) : Agreed k (s.lineDown l) :=
  ⟨h.entries.lineDown l, h.dealt.lineDown h.roster h.entries.idle l⟩

theorem goOff (h : Agreed k s) (l : Line) : Agreed k (s.goOff l) :=
  (lineDown (s := s.unpower l .off) (h.modLine l ⟨rfl, rfl, rfl⟩) l).closePower l _ _ _

theorem endOp (h : Agreed k s) (l : Line) : Agreed k (s.endOp l) := by
  have hop : Agreed k (s.modLine l fun L => { L with op := none }) := h.modLine l ⟨rfl, rfl, rfl⟩
  unfold State.endOp
  dsimp only
  split
  · exact hop.goOff l
  · exact hop

theorem beginOp (h : Agreed k s) (l : Line) (w : OpWork) (c : Call) : Agreed k (s.beginOp l w c) :=
  h.modLine l ⟨rfl, rfl, rfl⟩

theorem setReqState (h : Agreed k s) (tag : Tag) (f : ReqState → ReqState) : Agreed k (s.setReqState tag f) :=
  h.host (.setReqState s tag f) (h.dealt.setReqState tag f)

theorem pushEvent (h : Agreed k s) (tag : Tag) (e : Event) : Agreed k (s.pushEvent tag e) :=
  h.host (.pushEvent s tag e) (h.dealt.pushEvent tag e)

/-! ## Slots -/

theorem closeCensus (h : Agreed k s) (l : Line) (o : CloseOutcome) : Agreed k (s.closeCensus l o) :=
  ⟨EntryLaws.bookLaw.same h.entries (.of_censusOnly (.closeCensus s l o)), h.dealt.closeCensus l o⟩

/-- The census of a line goes on under its tag. -/
theorem modCensus (h : Agreed k s) (l : Line) {f : Census → Census} (hf : ∀ c, (f c).tag = c.tag) :
    Agreed k (s.modCensus l f) := by
  refine h.modLine l (f := fun L => { L with census := L.census.map f }) ⟨?_, rfl, rfl⟩
  rw [Option.map_map]
  exact congrArg (Option.map · _) (funext hf)

theorem roundEnd (h : Agreed k s) (l : Line) (c : Census) : Agreed k (s.roundEnd l c) := by
  have hp := h.pushEvent c.tag (c.summary s.params)
  unfold State.roundEnd
  dsimp only
  split
  · exact hp.closeCensus l _
  · split
    · exact hp.closeCensus l _
    · split
      · exact hp.closeCensus l _
      · refine hp.modCensus l ?_; exact fun _ => rfl

theorem slotEnd (h : Agreed k s) (l : Line) (event : Option (Nat → Nat → Event)) : Agreed k (s.slotEnd l event) := by
  cases hc : (s.line l).census with
  | none => rwa [State.slotEnd_of_none hc]
  | some c =>
    have ht : Agreed k (s.tell c event) ∧ ((s.tell c event).line l).census = some c := by
      cases event with
      | none => exact ⟨h, hc⟩
      | some v => exact ⟨h.pushEvent _ _, by rw [State.tell, (HostOnly.pushEvent s _ _).line]; exact hc⟩
    obtain ⟨htold, hcensus⟩ := ht
    have hcounted : Agreed k ((s.tell c event).modLine l fun L => { L with census := some (slotCounted c) }) :=
      htold.modLine l ⟨by rw [hcensus]; rfl, rfl, rfl⟩
    rw [State.slotEnd_of_census hc, State.passSlot]
    dsimp only
    split
    · exact hcounted.roundEnd l _
    · split
      · exact hcounted.closeCensus l _
      · exact hcounted

theorem endSlot (h : Agreed k s) (l : Line) {f : Census → Census} (hf : ∀ c, (f c).tag = c.tag)
    (event : Option (Nat → Nat → Event)) : Agreed k ((s.modCensus l f).finishSlot l event) :=
  ((h.modCensus l hf).slotEnd l event).endOp l

theorem openingWindow (h : Agreed k s) (l : Line) (w : WindowClass) : Agreed k (s.openingWindow l w) := by
  have hc := h.countWindow l w
  unfold State.openingWindow
  dsimp only
  split
  · refine hc.endSlot l ?_ _; exact fun _ => rfl
  · refine (hc.modCensus l ?_).beginOp l _ _; exact fun _ => rfl
  · refine hc.endSlot l ?_ _; exact fun _ => rfl

theorem find (h : Agreed k s) (l : Line) (i : Ident) (mem : Nat) : Agreed k (s.find l i mem).1 :=
  ⟨h.entries.find l i mem, h.dealt.find h.roster h.entries.idle l i mem⟩

theorem claimHeard (h : Agreed k s) (l : Line) (n : Handle) (w : WindowClass) : Agreed k (s.claimHeard l n w) := by
  have hc := h.countWindow l w
  unfold State.claimHeard
  dsimp only
  split
  · split
    · split
      · rename_i u n a lease v heq
        obtain rfl : _ = u := congrArg Prod.fst heq
        exact (hc.find l _ _).beginOp l _ _
      · rename_i u r v heq
        obtain rfl : _ = u := congrArg Prod.fst heq
        exact (hc.find l _ _).beginOp l _ _
    · refine hc.endSlot l ?_ _; exact fun _ => rfl
  · refine hc.endSlot l ?_ _; exact fun _ => rfl

theorem bindHeard (h : Agreed k s) (l : Line) (n : Nat) (i : Ident) (mem : Nat) (v : FindEvent) (a : Address)
    (w : WindowClass) : Agreed k (s.bindHeard l n i mem v a w) := by
  have hc := h.counted l w (mismatch w i)
  have hbind : ∀ b, Agreed k (((s.countWindow l w).countMismatch l (mismatch w i)).bindOutcome n b) := fun b =>
    ⟨EntryLaws.bookLaw.bindOutcome hc.entries n b, hc.dealt.bindOutcome hc.roster n b⟩
  unfold State.bindHeard
  dsimp only
  split
  · refine (hbind true).settle.endSlot l ?_ _; exact fun _ => rfl
  · refine (hbind false).settle.endSlot l ?_ _; exact fun _ => rfl

/-! ## Polls and attempts -/

theorem pollHeard (h : Agreed k s) (l : Line) (n : Nat) (i : Ident) (a : Address) (w : WindowClass) :
    Agreed k (s.pollHeard l n i a w) :=
  ⟨EntryLaws.bookLaw.pollHeard h.entries l n i a w, h.dealt.pollHeard h.roster l n i a w⟩

/-- The records behind the head are those of other tags. -/
theorem tail_eq (h : Agreed k s) {r : Txn} {rest : List Txn} (hq : (s.line l).queue = r :: rest) :
    (∀ x ∈ rest, x.tag ≠ r.tag) ∧ (s.line l).queue.filter (·.tag != r.tag) = rest := by
  have htags := h.dealt.tags_queue l
  rw [hq, List.map_cons, List.nodup_cons] at htags
  have hne : ∀ x ∈ rest, x.tag ≠ r.tag := fun x hx htag => htags.1 (htag ▸ List.mem_map_of_mem hx)
  refine ⟨hne, ?_⟩
  rw [hq, List.filter_cons_of_neg (by simp)]
  exact List.filter_eq_self.mpr fun x hx => by simpa using hne x hx

/-- The head of a queue run on, or between attempts. -/
theorem setHead (h : Agreed k s) {r y : Txn} {rest : List Txn} (hq : (s.line l).queue = r :: rest)
    (hy : y.tag = r.tag ∧ y.work = r.work ∧ y.target = r.target) : Agreed k (s.setQueue l (y :: rest)) := by
  obtain ⟨htag, hwork, htarget⟩ := hy
  have hmap : (s.line l).queue.map y.runAs = y :: rest := by
    rw [hq, List.map_cons, Txn.runAs, if_pos htag.symm]
    refine congrArg₂ List.cons ?_ ?_
    · rw [← htag, ← hwork, ← htarget]
    · refine (List.map_congr_left fun x hx => ?_).trans (List.map_id _)
      exact if_neg (htag ▸ (h.tail_eq hq).1 x hx)
  exact ⟨EntryLaws.bookLaw.setQueue h.entries l _, hmap ▸ h.dealt.map_queue l y.runAs_keeps⟩

theorem judgedFrom (h : Agreed k s) {w : WindowClass} {i : Ident} {v : State} (hv : JudgedFrom (s.countWindow l w) l w i v) :
    Agreed k v := by
  have hc := h.counted l w (mismatch w i)
  rcases hv with rfl | rfl
  · exact hc
  · exact ⟨EntryLaws.bookLaw.answeredNamed hc.entries i, hc.dealt.answeredNamed i⟩

theorem missNamed (h : Agreed k s) (i : Ident) (c : LossCause) : Agreed k (s.missNamed i c) :=
  ⟨EntryLaws.bookLaw.missNamed h.entries i c, h.dealt.missNamed h.roster i c⟩

/-- The head of a queue, a READ or WRITE, closes. -/
theorem closeHead (h : Agreed k s) {r : Txn} {rest : List Txn} (hq : (s.line l).queue = r :: rest) (hw : r.work ≠ .release)
    (n : Nat) (o : CloseOutcome) (bs : Option (List Byte)) (c : Option RefusalCode) :
    Agreed k ((s.setQueue l rest).closeTxn (r.ended n) o bs c) := by
  refine ⟨EntryLaws.bookLaw.closeTxn (EntryLaws.bookLaw.setQueue h.entries l rest) _ _ _ _, ?_⟩
  have hclosed := h.dealt.recordLeaves h.roster (r := r) (x := r.ended n) (l := l) (hq ▸ List.mem_cons_self) hw
    ⟨rfl, rfl, rfl⟩ o bs c
  rwa [(h.tail_eq hq).2] at hclosed

/-- The record in flight at the head is the one whose call the line sends (R110). -/
theorem sentBy_of_flight {s : State} {l : Line} (hf : FlightLaw s l) {o : LineOp} (ho : (s.line l).op = some o) {r : Txn}
    {rest : List Txn} (hq : (s.line l).queue = r :: rest) (hr : r.inFlight = true) : r.sentBy o.call = true := by
  obtain ⟨p, hp, -, hsent⟩ := hf r (hq ▸ List.mem_cons_self) hr
  obtain rfl : o = p := Option.some.inj (ho.symm.trans hp)
  exact hsent

theorem attemptHeard (h : Agreed k s) (hf : FlightLaw s l) {o : LineOp} (ho : (s.line l).op = some o)
    (hc : o.call.isReadWrite = true) (w : WindowClass) : Agreed k (s.attemptHeard l w) := by
  rcases attemptHeard_cases s l w with ⟨heq, -⟩ | ⟨r, rest, hq, hr, heq⟩ <;> rw [heq]
  · exact h.countWindow l w
  · have hw : r.work ≠ .release := fun hw => by
      have hsent := sentBy_of_flight hf ho hq hr
      cases hcall : o.call <;> simp [hcall, Txn.sentBy, Call.isReadWrite, hw] at hsent hc
    have hqueue : ∀ {v}, JudgedFrom (s.countWindow l w) l w r.target v → (v.line l).queue = r :: rest := fun hv => by
      obtain ⟨⟨n, hn⟩, -⟩ := hv.line
      rw [hn, State.countWindow_eq, State.line_setLine]
      exact hq
    obtain ⟨v, n, hv, ⟨hres, -⟩ | ⟨o, bs, c, hres⟩ | hres⟩ :=
      attemptJudged_cases (s.countWindow l w) l r rest w <;> rw [hres]
    · exact (h.judgedFrom hv).setHead (hqueue hv) ⟨rfl, rfl, rfl⟩
    · exact (h.judgedFrom hv).closeHead (hqueue hv) hw n o bs c
    · exact ((h.judgedFrom hv).closeHead (hqueue hv) hw n _ _ _).missNamed _ _

theorem releaseHeard (h : Agreed k s) (hf : FlightLaw s l) {o : LineOp} (ho : (s.line l).op = some o)
    (hc : o.call.isRelease = true) (w : WindowClass) : Agreed k (s.releaseHeard l w) := by
  rcases releaseHeard_cases s l w with ⟨heq, -⟩ | ⟨r, rest, hq, hr, heq⟩ <;> rw [heq]
  · exact h.countWindow l w
  · have hw : r.work = .release := by
      have hsent := sentBy_of_flight hf ho hq hr
      cases hcall : o.call <;> simp [hcall, Txn.sentBy, Call.isRelease] at hsent hc
      exact hsent
    have hv := h.counted l w (mismatch w r.target)
    have hqueue : (((s.countWindow l w).countMismatch l (mismatch w r.target)).line l).queue = r :: rest := by
      rw [State.countMismatch_eq, State.countWindow_eq, State.line_setLine, State.line_setLine]
      exact hq
    obtain ⟨hres, -⟩ | ⟨b, hres⟩ := releaseJudged_cases (s.countWindow l w) l r rest w <;> rw [hres]
    · exact hv.setHead hqueue ⟨rfl, rfl, rfl⟩
    · exact ⟨EntryLaws.bookLaw.removal (EntryLaws.bookLaw.setQueue hv.entries l rest) _ _ _,
        hv.dealt.removal hv.roster hqueue hw b⟩

/-! ## Grants and calls -/

theorem lineGrant (h : Agreed k s) (he : exec (.lineGrant l) s = .next t) : Agreed k t := by
  rcases exec_lineGrant he with rfl | ⟨c, u, -, -, -, -, hu, rfl⟩
  · exact h
  · unfold State.countGrant
    refine modLine ?_ l ⟨rfl, rfl, rfl⟩
    cases c with
    | executor =>
      obtain ⟨r, rest, e, a, hq, -, -, rfl⟩ := beginAttempt_cases hu
      exact ((h.setHead (y := { r with attempts := r.attempts + 1, inFlight := true }) hq ⟨rfl, rfl, rfl⟩).beginOp l _
        _).setReqState _ _
    | scheduler =>
      obtain ⟨c, n, rest, e, a, -, -, -, -, rfl⟩ := beginPoll_cases hu
      exact (h.modLine l ⟨rfl, rfl, rfl⟩).beginOp l _ _
    | sequencer =>
      obtain ⟨c, hc, rfl⟩ := beginSlot_cases hu
      unfold slotBegun
      split
      · refine setReqState (s := s.setLine l _) ?_ _ _
        exact h.modLine l (f := fun L => { L with census := _, op := _ }) ⟨by rw [hc]; rfl, rfl, rfl⟩
      · exact (h.beginOp l _ _).setReqState _ _

theorem callSent (h : Agreed k s) (he : exec (.callSent l) s = .next t) : Agreed k t := by
  rcases callSent_frame he with rfl | ⟨o, p, hs, q, c, -, -, rfl, -⟩
  · exact h
  · have hhush : Agreed k ({ s with hush := hs } : State) :=
      ⟨h.entries.of_eq rfl rfl rfl, h.dealt.same rfl rfl (fun m => by cases m <;> exact .refl _) rfl⟩
    refine hhush.modLine l (f := fun _ => { s.line l with counters := c, quarantine := q, op := some p }) ?_
    cases l <;> exact ⟨rfl, rfl, rfl⟩

/-! ## The supervisor and the timers -/

theorem startCycle (h : Agreed k s) (l : Line) : Agreed k (s.startCycle l) := by
  rw [State.startCycle_eq]
  exact h.modLine l (f := fun _ => _) ⟨rfl, rfl, rfl⟩

theorem tripUp (h : Agreed k s) (l : Line) : Agreed k (s.tripUp l) := by
  have htold := (lineDown (s := s.unpower l .fault) (h.modLine l ⟨rfl, rfl, rfl⟩) l).pushEvent 0
    (.lineFault l s.clock (s.boundEntries l).length)
  unfold State.tripUp
  dsimp only
  split
  · exact htold.closePower l _ _ _
  · exact htold

theorem inner {c : Instr} (h : Agreed k s) (hf : ∀ l, FlightLaw s l) (hc : Instr.inner c = true)
    (he : exec c s = .next t) : Agreed k t := by
  cases c with
  | settlingExpiry l =>
    rcases exec_settlingExpiry he with rfl | ⟨x, -, -, rfl⟩
    · exact h
    · exact (((h.passTo x).modLine l ⟨rfl, rfl, rfl⟩).startCycle l).closePower l _ _ _
  | overcurrentTrip l =>
    rcases exec_overcurrentTrip he with rfl | ⟨-, rfl⟩ | ⟨-, rfl⟩
    · exact h
    · exact h.tripUp l
    · exact closePower (s := s.unpower l .fault) (h.modLine l ⟨rfl, rfl, rfl⟩) l _ _ _
  | lineGrant l => exact h.lineGrant he
  | callSent l => exact h.callSent he
  | slotWindow l x =>
    rcases exec_slotWindow he with rfl | ⟨o, -, -, rfl⟩
    · exact h
    · exact h.openingWindow l _
  | claimWindow l x =>
    rcases exec_claimWindow he with rfl | ⟨o, -, -, rfl⟩
    · exact h
    · exact (h.claimHeard l _ _).settle
  | bindOutcome l x =>
    rcases exec_bindOutcome he with rfl | ⟨o, n, i, mem, v, -, -, rfl⟩
    · exact h
    · exact h.bindHeard l n i mem v _ _
  | hushWindow l x =>
    rcases exec_hushWindow he with rfl | ⟨o, i, r, v, m, -, -, rfl⟩
    · exact h
    · refine (h.countWindow l _).endSlot l ?_ _
      exact fun _ => rfl
  | pollWindow l x =>
    rcases exec_pollWindow he with rfl | ⟨o, n, i, -, -, rfl⟩
    · exact h
    · exact ((h.pollHeard l n i _ _).endOp l).settle
  | pollDue l =>
    rcases exec_pollDue he with rfl | ⟨c, -, ⟨-, rfl⟩ | ⟨-, rfl⟩⟩
    · exact h
    · exact (h.passTo _).modLine l ⟨rfl, rfl, rfl⟩
    · exact (h.passTo _).startCycle l
  | attemptWindow l x =>
    rcases exec_attemptWindow he with rfl | ⟨o, ⟨ho, -⟩, -, hcall, rfl⟩
    · exact h
    · exact (h.attemptHeard (hf l) ho hcall _).settle.endOp l
  | releaseWindow l x =>
    rcases exec_releaseWindow he with rfl | ⟨o, ⟨ho, -⟩, -, hcall, rfl⟩
    · exact h
    · exact (h.releaseHeard (hf l) ho hcall _).settle.endOp l
  | quarantineExpiry l =>
    rcases exec_quarantineExpiry he with rfl | ⟨x, rfl⟩
    · exact h
    · exact ⟨(h.passTo x).entries.expireDue l, (h.passTo x).dealt.expireDue l⟩
  | hushExpiry =>
    rcases exec_hushExpiry he with rfl | ⟨x, rfl⟩
    · exact h
    · exact ⟨(h.passTo x).entries.of_eq rfl rfl rfl,
        (h.passTo x).dealt.same rfl rfl (fun m => by cases m <;> exact .refl _) rfl⟩
  | _ => exact nomatch hc

end Agreed

end Sys2Proof.Machine
end

section
/-! The record in flight is the one whose call the line sends (R110): nothing but a grant sends a call of a record, and nothing
else sets a record in flight. -/

namespace Sys2Proof.Machine

open Sys2Proof.Statements

/-- An attempt that still holds the line afterwards held it before, with the same call, and what is in flight was. -/
def LineState.Sends (L M : LineState) : Prop :=
  M.attemptInFlight = true → (∃ o p, L.op = some o ∧ M.op = some p ∧ p.Continues o) ∧
    ∀ r ∈ M.queue, r.inFlight = true → ∃ x ∈ L.queue, x.inFlight = true ∧ x.work = r.work

theorem LineOp.Continues.trans {o p q : LineOp} (h : p.Continues o) (k : q.Continues p) : q.Continues o := by
  refine ⟨k.1.trans h.1, ?_⟩
  rcases k.2 with hq | ⟨i, r, v, m, m', hp, hq⟩
  · rw [hq]
    exact h.2
  · rcases h.2 with ho | ⟨i', r', v', n, n', ho, hp'⟩
    · exact .inr ⟨i, r, v, m, m', ho ▸ hp, hq⟩
    · obtain ⟨rfl, rfl, rfl, -⟩ := OpWork.slotHush.inj (hp.symm.trans hp')
      exact .inr ⟨i, r, v, n, m', ho, hq⟩

namespace LineState.Sends

variable {L M N : LineState}

/-- No attempt holds the line any more. -/
theorem of_free (h : M.attemptInFlight = false) : L.Sends M := fun hm => absurd (h.symm.trans hm) Bool.false_ne_true

/-- The operation goes on, and no record has been set in flight. -/
theorem of_op (ho : M.op = L.op) (hq : ∀ r ∈ M.queue, r.inFlight = true → ∃ x ∈ L.queue, x.inFlight = true ∧ x.work = r.work) :
    L.Sends M := fun hm => by
  refine ⟨?_, hq⟩
  cases hop : L.op with
  | none => simp [LineState.attemptInFlight, ho, hop] at hm
  | some o => exact ⟨o, o, rfl, ho.trans hop, rfl, .inl rfl⟩

theorem of_sublist (ho : M.op = L.op) (hq : M.queue.Sublist L.queue) : L.Sends M :=
  of_op ho fun r hr hin => ⟨r, hq.subset hr, hin, rfl⟩

theorem refl (L : LineState) : L.Sends L := of_sublist rfl (.refl _)

theorem of_claimed (h : L.ClaimedTo M) : L.Sends M := by
  obtain ⟨_, _, _, _, _, rfl, hq⟩ := h
  exact of_sublist rfl hq

theorem trans (h : L.Sends M) (k : M.Sends N) : L.Sends N := fun hn => by
  obtain ⟨⟨o, p, ho, hp, hcont⟩, hqueue⟩ := k hn
  have hm : M.attemptInFlight = true := by
    simpa [LineState.attemptInFlight, ho, hp, hcont.kinds.2.1] using hn
  obtain ⟨⟨o', p', ho', hp', hcont'⟩, hqueue'⟩ := h hm
  obtain rfl : o = p' := Option.some.inj (ho.symm.trans hp')
  refine ⟨⟨o', p, ho', hp, hcont'.trans hcont⟩, fun r hr hin => ?_⟩
  obtain ⟨x, hx, hxin, hxw⟩ := hqueue r hr hin
  obtain ⟨y, hy, hyin, hyw⟩ := hqueue' x hx hxin
  exact ⟨y, hy, hyin, hyw.trans hxw⟩

end LineState.Sends

/-- On both lines what is in flight was. -/
def Sends (s t : State) : Prop := ∀ l, (s.line l).Sends (t.line l)

theorem Txn.sentBy_congr {x r : Txn} (h : x.work = r.work) (c : Call) : x.sentBy c = r.sentBy c := by
  cases c <;> simp only [Txn.sentBy, h]

namespace Sends

variable {s t u : State} {l : Line}

theorem flightLaw (h : Sends s t) (hf : ∀ l, FlightLaw s l) (hq : QueueLaws t) (l : Line) : FlightLaw t l := fun r hr hin => by
  obtain ⟨-, -, hall⟩ := hq.2 l
  obtain ⟨-, -, hflying⟩ := hall r hr
  obtain ⟨⟨o, p, ho, hp, hcall, hwork⟩, hqueue⟩ := h l (hflying hin)
  obtain ⟨x, hx, hxin, hxw⟩ := hqueue r hr hin
  obtain ⟨o', ho', hattempt, hsent⟩ := hf l x hx hxin
  obtain rfl : o = o' := Option.some.inj (ho.symm.trans ho')
  refine ⟨p, hp, ?_, by rw [hcall, ← Txn.sentBy_congr hxw]; exact hsent⟩
  rcases hwork with hsame | ⟨i, d, v, m, m', hhush, -⟩
  · exact hsame.trans hattempt
  · exact nomatch hattempt.symm.trans hhush

theorem refl (s : State) : Sends s s := fun _ => .refl _

theorem trans (h : Sends s t) (k : Sends t u) : Sends s u := fun l => (h l).trans (k l)

theorem claimed (h : Sends s t) (k : Claimed t u) : Sends s u := h.trans fun l => .of_claimed (k.line l)

theorem of_line (hl : (s.line l).Sends (t.line l)) (ho : ∀ m, m ≠ l → (s.line m).Sends (t.line m)) : Sends s t := fun m => by
  by_cases hm : m = l
  · exact hm ▸ hl
  · exact ho m hm

theorem modLine (h : Sends s t) (l : Line) {f : LineState → LineState} (hf : (t.line l).Sends (f (t.line l))) :
    Sends s (t.modLine l f) :=
  h.trans (of_line (l := l) (by rwa [State.line_modLine]) fun m hm => by
    rw [State.line_modLine_of_ne _ hm]; exact .refl _)

/-- A line is changed, its operation and records staying. -/
theorem modLine_same (h : Sends s t) (l : Line) {f : LineState → LineState} (ho : (f (t.line l)).op = (t.line l).op)
    (hq : (f (t.line l)).queue = (t.line l).queue) : Sends s (t.modLine l f) :=
  h.modLine l (.of_sublist ho (hq ▸ .refl _))

theorem setQueue (h : Sends s t) (l : Line) {q : List Txn}
    (hq : ∀ r ∈ q, r.inFlight = true → ∃ x ∈ (t.line l).queue, x.inFlight = true ∧ x.work = r.work) :
    Sends s (t.setQueue l q) := h.modLine l (.of_op rfl hq)

theorem settle (h : Sends s t) : Sends s t.settle := h.trans fun l => by
  obtain ⟨_, _, _, _, _, heq, -⟩ := lineSettled_eq t l
  rw [State.line_settle, heq]
  exact .of_sublist rfl (.refl _)

theorem censusOnly (h : Sends s t) (k : CensusOnly t u l) : Sends s u := by
  obtain ⟨honly, c, hc⟩ := k
  refine h.trans (of_line (l := l) ?_ fun m hm => ?_)
  · rw [hc]; exact .of_sublist rfl (.refl _)
  · rw [honly.other m hm]; exact .refl _

theorem endOp (h : Sends s t) (l : Line) : Sends s (t.endOp l) := by
  obtain ⟨-, -, hself, hother⟩ := t.endOp_frame l
  refine h.trans (of_line (l := l) (.of_free ?_) fun m hm => .of_claimed (hother m hm))
  rcases hself with ⟨-, heq⟩ | ⟨-, hwent⟩
  · rw [heq, State.line_setLine]; rfl
  · rw [LineState.attemptInFlight, hwent.op]; rfl

theorem goOff (h : Sends s t) (l : Line) : Sends s (t.goOff l) := by
  obtain ⟨-, -, hwent, hother⟩ := t.goOff_frame l
  exact h.trans (of_line (l := l) (.of_free (by rw [LineState.attemptInFlight, hwent.op]; rfl)) fun m hm =>
    .of_claimed (hother m hm))

theorem closePower (h : Sends s t) (l : Line) (o : CloseOutcome) (p : LinePower) (n : Nat) : Sends s (t.closePower l o p n) := by
  obtain ⟨-, -, -, -, hself, hother⟩ := t.closePower_frame l o p n
  refine h.trans (of_line (l := l) ?_ fun m hm => ?_)
  · rw [hself]; exact .of_sublist rfl (.refl _)
  · rw [hother m hm]; exact .refl _

/-- Another operation than an attempt begins. -/
theorem beginOp (h : Sends s t) (l : Line) (w : OpWork) (c : Call) (hw : w ≠ .attempt) : Sends s (t.beginOp l w c) := by
  refine h.modLine l (.of_free ?_)
  simp only [LineState.attemptInFlight, Option.any_some, LineOp.isAttempt]

theorem endSlot (h : Sends s t) (l : Line) (f : Census → Census) (event : Option (Nat → Nat → Event)) :
    Sends s ((t.modCensus l f).finishSlot l event) :=
  ((h.censusOnly (.modCensus t l f)).censusOnly (.slotEnd _ l event)).endOp l

/-! ## Windows -/

theorem claimHeard (s : State) (l : Line) (n : Handle) (w : WindowClass) : Sends s (s.claimHeard l n w) := by
  have hc := (refl s).claimed ((Claimed.refl s).countWindow l w)
  unfold State.claimHeard
  dsimp only
  split
  · split
    · split
      · rename_i u n a lease v heq
        obtain rfl : _ = u := congrArg Prod.fst heq
        exact (hc.claimed ((Claimed.refl _).find l _ _)).beginOp l _ _ (by nofun)
      · rename_i u r v heq
        obtain rfl : _ = u := congrArg Prod.fst heq
        exact (hc.claimed ((Claimed.refl _).find l _ _)).beginOp l _ _ (by nofun)
    · exact hc.endSlot l _ _
  · exact hc.endSlot l _ _

theorem bindHeard (s : State) (l : Line) (n : Nat) (i : Ident) (mem : Nat) (v : FindEvent) (a : Address) (w : WindowClass) :
    Sends s (s.bindHeard l n i mem v a w) := by
  have hbind := fun b => (refl s).claimed
    ((((Claimed.refl s).countWindow l w).countMismatch l (mismatch w i)).bindOutcome n b)
  unfold State.bindHeard
  dsimp only
  split
  · exact (hbind true).settle.endSlot l _ _
  · exact (hbind false).settle.endSlot l _ _

theorem openingWindow (s : State) (l : Line) (w : WindowClass) : Sends s (s.openingWindow l w) := by
  have hc := (refl s).claimed ((Claimed.refl s).countWindow l w)
  unfold State.openingWindow
  dsimp only
  split
  · exact hc.endSlot l _ _
  · exact (hc.censusOnly (.modCensus _ l _)).beginOp l _ _ (by nofun)
  · exact hc.endSlot l _ _

/-- The head of a queue put back between attempts. -/
theorem setEnded (h : Sends s t) {l : Line} {r : Txn} {rest : List Txn} (hq : (t.line l).queue = r :: rest) (n : Nat) :
    Sends s (t.setQueue l (r.ended n :: rest)) := by
  refine h.setQueue l fun x hx hin => ?_
  rcases List.mem_cons.mp hx with rfl | hx
  · exact nomatch hin
  · exact ⟨x, hq ▸ List.mem_cons_of_mem r hx, hin, rfl⟩

theorem dropHead (h : Sends s t) {l : Line} {r : Txn} {rest : List Txn} (hq : (t.line l).queue = r :: rest) :
    Sends s (t.setQueue l rest) :=
  h.setQueue l fun x hx hin => ⟨x, hq ▸ List.mem_cons_of_mem r hx, hin, rfl⟩

theorem attemptHeard (s : State) (l : Line) (w : WindowClass) : Sends s (s.attemptHeard l w) := by
  have hc := (refl s).claimed ((Claimed.refl s).countWindow l w)
  rcases attemptHeard_cases s l w with ⟨heq, -⟩ | ⟨r, rest, hq, -, heq⟩ <;> rw [heq]
  · exact hc
  · obtain ⟨v, n, hv, ⟨hres, -⟩ | ⟨o, bs, c, hres⟩ | hres⟩ :=
      attemptJudged_cases (s.countWindow l w) l r rest w <;> rw [hres]
    all_goals
      have hvs := hc.claimed hv.claimed
      have hvq : (v.line l).queue = r :: rest := by
        obtain ⟨⟨m, hm⟩, -⟩ := hv.line
        rw [hm, State.countWindow_eq, State.line_setLine]
        exact hq
    · exact hvs.setEnded hvq n
    · exact (hvs.dropHead hvq).claimed ((Claimed.refl _).closeTxn _ _ _ _)
    · exact (hvs.dropHead hvq).claimed (((Claimed.refl _).closeTxn _ _ _ _).missNamed _ _)

theorem releaseHeard (s : State) (l : Line) (w : WindowClass) : Sends s (s.releaseHeard l w) := by
  have hc := (refl s).claimed ((Claimed.refl s).countWindow l w)
  rcases releaseHeard_cases s l w with ⟨heq, -⟩ | ⟨r, rest, hq, -, heq⟩ <;> rw [heq]
  · exact hc
  · have hvs := hc.claimed ((Claimed.refl _).countMismatch l (mismatch w r.target))
    have hvq : (((s.countWindow l w).countMismatch l (mismatch w r.target)).line l).queue = r :: rest := by
      rw [State.countMismatch_eq, State.countWindow_eq, State.line_setLine, State.line_setLine]
      exact hq
    obtain ⟨hres, -⟩ | ⟨b, hres⟩ := releaseJudged_cases (s.countWindow l w) l r rest w <;> rw [hres]
    · exact hvs.setEnded hvq _
    · exact (hvs.dropHead hvq).claimed ((Claimed.refl _).removal _ _ _)

/-! ## Commands of the lines -/

theorem passTo (h : Sends s t) (x : Clock) : Sends s (t.passTo x) := h.trans fun l => by
  rw [State.line_passTo]
  exact .refl _

theorem startCycle (h : Sends s t) (l : Line) : Sends s (t.startCycle l) := by
  rw [State.startCycle_eq]
  exact h.modLine_same l (f := fun _ => _) rfl rfl

theorem tripUp (s : State) (l : Line) : Sends s (s.tripUp l) := by
  obtain ⟨-, -, hswept, hother⟩ := (s.unpower l .fault).lineDown_frame l
  have hdown : Sends s ((s.unpower l .fault).lineDown l) :=
    ((refl s).modLine_same (t := s) l rfl rfl).trans (of_line (s := s.unpower l .fault) (l := l)
      (.of_free (by rw [LineState.attemptInFlight, hswept.op]; rfl)) fun m hm => .of_claimed (hother m hm))
  have htold := hdown.claimed ((Claimed.refl _).pushEvent 0 (.lineFault l s.clock (s.boundEntries l).length))
  unfold State.tripUp
  dsimp only
  split
  · exact htold.closePower l _ _ _
  · exact htold

/-- A grant sends the call of the head record, if it begins an attempt (R110). -/
theorem lineGrant (hf : ∀ l, FlightLaw s l) (hq : QueueLaws t) (he : exec (.lineGrant l) s = .next t) (m : Line) :
    FlightLaw t m := by
  rcases exec_lineGrant he with rfl | ⟨c, u, -, -, -, -, hu, rfl⟩
  · exact hf m
  have hcount : Sends u (u.countGrant l c (s.waits l)) := (refl u).modLine_same l rfl rfl
  cases c with
  | executor =>
    obtain ⟨r, rest, e, a, hqueue, -, -, rfl⟩ := beginAttempt_cases hu
    have hgranted : ∀ m, (((attemptBegun s l r rest a).countGrant l .executor (s.waits l)).line m).queue =
          ((attemptBegun s l r rest a).line m).queue ∧
        (((attemptBegun s l r rest a).countGrant l .executor (s.waits l)).line m).op =
          ((attemptBegun s l r rest a).line m).op := fun m => by
      by_cases hm : m = l
      · subst hm
        rw [State.line_countGrant]
        exact ⟨rfl, rfl⟩
      · rw [State.countGrant, State.line_modLine_of_ne _ hm]
        exact ⟨rfl, rfl⟩
    have hbegun : (attemptBegun s l r rest a).line l = { s.line l with
        queue := { r with attempts := r.attempts + 1, inFlight := true } :: rest
        op := some ⟨.attempt, r.call a s.params.hushTime, false⟩ } := by cases l <;> rfl
    obtain ⟨hgq, hgo⟩ := hgranted m
    intro x hx hin
    by_cases hm : m = l
    · subst hm
      obtain ⟨-, htail, -⟩ := hq.2 m
      rw [hgq, hbegun] at hx htail
      rw [hgo, hbegun]
      rcases List.mem_cons.mp hx with rfl | hx
      · refine ⟨_, rfl, rfl, ?_⟩
        cases hw : r.work <;> simp [Txn.sentBy, Txn.call, hw]
      · exact absurd (htail x hx).2 (by simp [hin])
    · have hsame : (attemptBegun s l r rest a).line m = s.line m := by
        rw [attemptBegun, State.setRunning, (HostOnly.setReqState _ _ _).line, State.beginOp, State.line_modLine_of_ne _ hm,
          State.setQueue, State.line_modLine_of_ne _ hm]
      rw [hgq, hsame] at hx
      rw [hgo, hsame]
      exact hf m x hx hin
  | scheduler =>
    obtain ⟨c, n, rest, e, a, -, -, -, -, rfl⟩ := beginPoll_cases hu
    exact flightLaw ((((refl s).modLine_same l rfl rfl).beginOp l _ _ (by nofun)).trans hcount) hf hq m
  | sequencer =>
    obtain ⟨c, -, rfl⟩ := beginSlot_cases hu
    refine flightLaw (trans ?_ hcount) hf hq m
    unfold slotBegun
    split
    · refine claimed (of_line (l := l) (.of_free ?_) fun m hm => ?_) ((Claimed.refl _).setReqState _ _)
      · rw [State.line_setLine]; rfl
      · rw [State.line_setLine_of_ne _ hm]; exact .refl _
    · exact ((refl s).beginOp l _ _ (by nofun)).claimed ((Claimed.refl _).setReqState _ _)

theorem callSent (he : exec (.callSent l) s = .next t) : Sends s t := by
  rcases callSent_frame he with rfl | ⟨o, p, hs, q, c, ho, hp, rfl, -⟩
  · exact refl _
  · refine of_line (l := l) (fun _ => ?_) fun m hm => ?_
    · rw [State.line_setLine]
      exact ⟨⟨o, p, ho, rfl, hp⟩, fun r hr hin => ⟨r, hr, hin, rfl⟩⟩
    · rw [State.line_setLine_of_ne _ hm, State.line_with_hush]
      exact .refl _

theorem inner {c : Instr} (hf : ∀ l, FlightLaw s l) (hq : QueueLaws t) (hc : Instr.inner c = true)
    (he : exec c s = .next t) (m : Line) : FlightLaw t m := by
  have hsame := refl s
  cases c with
  | lineGrant l => exact lineGrant hf hq he m
  | callSent l => exact (callSent he).flightLaw hf hq m
  | settlingExpiry l =>
    rcases exec_settlingExpiry he with rfl | ⟨x, -, -, rfl⟩
    · exact hf m
    · exact Sends.flightLaw ((((hsame.passTo x).modLine_same l rfl rfl).startCycle l).closePower l _ _ _) hf hq m
  | overcurrentTrip l =>
    rcases exec_overcurrentTrip he with rfl | ⟨-, rfl⟩ | ⟨-, rfl⟩
    · exact hf m
    · exact (tripUp s l).flightLaw hf hq m
    · exact Sends.flightLaw (closePower (t := s.unpower l .fault) (hsame.modLine_same l rfl rfl) l _ _ _) hf hq m
  | slotWindow l x =>
    rcases exec_slotWindow he with rfl | ⟨o, -, -, rfl⟩
    · exact hf m
    · exact (openingWindow s l _).flightLaw hf hq m
  | claimWindow l x =>
    rcases exec_claimWindow he with rfl | ⟨o, -, -, rfl⟩
    · exact hf m
    · exact (claimHeard s l _ _).settle.flightLaw hf hq m
  | bindOutcome l x =>
    rcases exec_bindOutcome he with rfl | ⟨o, n, i, mem, v, -, -, rfl⟩
    · exact hf m
    · exact (bindHeard s l n i mem v _ _).flightLaw hf hq m
  | hushWindow l x =>
    rcases exec_hushWindow he with rfl | ⟨o, i, r, v, m, -, -, rfl⟩
    · exact hf _
    · exact Sends.flightLaw ((hsame.claimed ((Claimed.refl s).countWindow l _)).endSlot l _ _) hf hq _
  | pollWindow l x =>
    rcases exec_pollWindow he with rfl | ⟨o, n, i, -, -, rfl⟩
    · exact hf m
    · exact Sends.flightLaw ((hsame.claimed ((Claimed.refl s).pollHeard l n i _ _)).endOp l).settle hf hq m
  | pollDue l =>
    rcases exec_pollDue he with rfl | ⟨c, -, ⟨-, rfl⟩ | ⟨-, rfl⟩⟩
    · exact hf m
    · exact Sends.flightLaw ((hsame.passTo _).modLine_same l rfl rfl) hf hq m
    · exact Sends.flightLaw ((hsame.passTo _).startCycle l) hf hq m
  | attemptWindow l x =>
    rcases exec_attemptWindow he with rfl | ⟨o, -, -, -, rfl⟩
    · exact hf m
    · exact Sends.flightLaw ((attemptHeard s l _).settle.endOp l) hf hq m
  | releaseWindow l x =>
    rcases exec_releaseWindow he with rfl | ⟨o, -, -, -, rfl⟩
    · exact hf m
    · exact Sends.flightLaw ((releaseHeard s l _).settle.endOp l) hf hq m
  | quarantineExpiry l =>
    rcases exec_quarantineExpiry he with rfl | ⟨x, rfl⟩
    · exact hf m
    · exact Sends.flightLaw ((hsame.passTo x).claimed ((Claimed.refl _).expireDue l)) hf hq m
  | hushExpiry =>
    rcases exec_hushExpiry he with rfl | ⟨x, rfl⟩
    · exact hf m
    · exact Sends.flightLaw ((hsame.passTo x).trans fun l => by cases l <;> exact .refl _) hf hq m
  | _ => exact nomatch hc

end Sends

end Sys2Proof.Machine
end

section
/-! The halt claims of CANCEL and STOP (R71, R116, R120, R152, R154), and what they leave of requests, work and records in
agreement. -/

namespace Sys2Proof.Machine

open Sys2Proof.Statements

/-- The operation of a line goes on, and its records stood before, perhaps without a mark. -/
def LineState.Halted (l : Line) (L M : LineState) : Prop :=
  M.op = L.op ∧ ∀ r ∈ M.queue, ∃ x ∈ L.queue, x.inFlight = r.inFlight ∧ x.work = r.work ∧ x.job l = r.job l

/-- So it is on both lines. -/
def Halted (s t : State) : Prop := ∀ l, (s.line l).Halted l (t.line l)

theorem LineState.Halted.of_sublist {l : Line} {L M : LineState} (ho : M.op = L.op) (hq : M.queue.Sublist L.queue) :
    L.Halted l M := ⟨ho, fun r hr => ⟨r, hq.subset hr, rfl, rfl, rfl⟩⟩

theorem LineState.Halted.refl (l : Line) (L : LineState) : L.Halted l L := .of_sublist rfl (.refl _)

namespace Halted

variable {s t u : State} {l : Line}

theorem refl (s : State) : Halted s s := fun l => .refl l _

theorem trans (h : Halted s t) (k : Halted t u) : Halted s u := fun l => by
  obtain ⟨ho, hq⟩ := h l
  obtain ⟨ho', hq'⟩ := k l
  refine ⟨ho'.trans ho, fun r hr => ?_⟩
  obtain ⟨x, hx, hin, hw, hj⟩ := hq' r hr
  obtain ⟨y, hy, hin', hw', hj'⟩ := hq x hx
  exact ⟨y, hy, hin'.trans hin, hw'.trans hw, hj'.trans hj⟩

theorem sends (h : Halted s t) : Sends s t := fun l => by
  obtain ⟨ho, hq⟩ := h l
  refine .of_op ho fun r hr hin => ?_
  obtain ⟨x, hx, hxin, hxw, -⟩ := hq r hr
  exact ⟨x, hx, hxin.trans hin, hxw⟩

theorem claimed (h : Halted s t) (k : Claimed t u) : Halted s u := h.trans fun l => by
  obtain ⟨_, _, _, _, _, heq, hq⟩ := k.line l
  rw [heq]
  exact .of_sublist rfl hq

theorem modLine (h : Halted s t) (l : Line) {f : LineState → LineState} (hf : (t.line l).Halted l (f (t.line l))) :
    Halted s (t.modLine l f) := h.trans fun m => by
  by_cases hm : m = l
  · subst hm; rwa [State.line_modLine]
  · rw [State.line_modLine_of_ne _ hm]; exact .refl m _

theorem haltCensus (s : State) (l : Line) (m : Halt) : Halted s (s.haltCensus l m) := by
  unfold State.haltCensus
  split
  · split
    · exact refl s
    · split
      · exact ((refl s).modLine l (.refl l _)).claimed ((Claimed.refl _).setReqState _ _)
      · refine fun n => ?_
        obtain ⟨hself, hother⟩ := s.closeCensus_line l m.outcome
        by_cases hn : n = l
        · subst hn; rw [hself]; exact .refl n _
        · rw [hother n hn]; exact .refl n _
  · exact refl s

theorem haltTxn (s : State) (l : Line) (tag : Tag) (m : Halt) : Halted s (s.haltTxn l tag m) := by
  unfold State.haltTxn
  split
  · exact refl s
  · split
    · refine ((refl s).modLine l ⟨rfl, fun y hy => ?_⟩).claimed ((Claimed.refl _).setReqState _ _)
      obtain ⟨x, hx, rfl⟩ := List.mem_map.mp hy
      refine ⟨x, hx, ?_⟩
      split <;> exact ⟨rfl, rfl, rfl⟩
    · exact (refl s).claimed (((Claimed.refl s).setQueue l List.filter_sublist).closeTxn _ _ _ _)

theorem haltForget (s : State) (l : Line) (tag : Tag) (i : Ident) (m : Halt) : Halted s (s.haltForget l tag i m) := by
  unfold State.haltForget
  split
  · exact (refl s).claimed ((((Claimed.refl s).setQueue l List.filter_sublist).updNamed _ _).close _ _ _)
  · exact refl s

theorem haltRequest (s : State) (m : Halt) (q : Req) : Halted s (s.haltRequest m q) := by
  unfold State.haltRequest
  split
  · exact haltCensus s _ m
  · exact haltTxn s _ _ m
  · exact haltTxn s _ _ m
  · exact haltForget s _ _ _ m
  · exact refl s

end Halted

/-- Every record of a request's tag is the job of the request. -/
def State.Fits (s : State) (q : Req) : Prop := ∀ l, ∀ r ∈ (s.line l).queue, r.tag = q.tag → r.job l = q.job

theorem State.Fits.halted {s t : State} {q : Req} (h : s.Fits q) (k : Halted s t) : t.Fits q := fun l r hr ht => by
  obtain ⟨x, hx, -, -, hj⟩ := (k l).2 r hr
  have htag : x.tag = r.tag := congrArg Job.tag hj
  exact hj ▸ h l x hx (htag.trans ht)

theorem State.settleStop_of_stopLaw {s : State} (h : StopLaw s) : s.settleStop = s := by
  unfold State.settleStop
  split
  · rename_i r hr
    rw [if_neg]
    simpa using h (by rw [hr]; rfl)
  · rfl

/-- A STOP with no request open closes (R155). -/
theorem State.settleStop_of_empty {s : State} {r : StopRec} (hs : s.stop = some r) (ht : s.table = []) :
    s.settleStop = { s.push r.tag (.closed .done (.stop r.openCount)) with stop := none } := by
  simp only [State.settleStop, hs, ht, List.isEmpty_nil, if_true]

namespace Dealt

variable {k : Prop} {s : State} {q : Req}

theorem fits (h : Dealt k s) (hq : q ∈ s.table) : s.Fits q := fun _ _ hr ht =>
  h.record_of_tag (h.jobs.subset (List.mem_map_of_mem hq)) hr ht

/-- A halt claim on a census marks it, or closes it (R71, R72). -/
theorem haltCensus (h : Dealt k s) (l : Line) (m : Halt) : Dealt k (s.haltCensus l m) := by
  unfold State.haltCensus
  split
  · split
    · exact h
    · split
      · refine setReqState (h.modLine l (f := fun L => { L with census := L.census.map fun c => { c with halt := some m } })
          ⟨?_, rfl, rfl⟩) _ _
        rw [Option.map_map]
        rfl
      · exact h.closeCensus l _
  · exact h

/-- A halt claim on a READ or WRITE marks its record, or closes it (R116). -/
theorem haltTxn (h : Dealt k s) (hr : RosterLaw s) (hq : s.Fits q) (hk : q.kind ≠ .forget) (l : Line) (m : Halt) :
    Dealt k (s.haltTxn l q.tag m) := by
  unfold State.haltTxn
  split
  · exact h
  · rename_i r hfound
    have hmem : r ∈ (s.line l).queue := List.mem_of_find?_eq_some hfound
    have htag : r.tag = q.tag := by simpa using List.find?_some hfound
    split
    · refine (h.map_queue l fun x => ?_).setReqState _ _
      split <;> exact ⟨rfl, rfl, rfl⟩
    · have hw : r.work ≠ .release := fun hw => hk <| by
        have := congrArg Job.kind (hq l r hmem htag)
        rwa [Txn.job, hw, eq_comm] at this
      rw [← htag]
      exact h.recordLeaves hr hmem hw ⟨rfl, rfl, rfl⟩ _ _ _

/-- A halt claim on a FORGET takes a RELEASE not yet granted (R120). -/
theorem haltForget (h : Dealt k s) (hr : RosterLaw s) (hq : s.Fits q) (hk : q.kind = .forget) {i : Ident}
    (hi : q.target = some i) (l : Line) (m : Halt) : Dealt k (s.haltForget l q.tag i m) := by
  unfold State.haltForget
  split
  · rename_i hqueued
    obtain ⟨r, hmem, hrt⟩ := List.any_eq_true.mp hqueued
    have htag : r.tag = q.tag := by
      simp only [Bool.and_eq_true, beq_iff_eq] at hrt
      exact hrt.1
    have hjob := hq l r hmem htag
    have hw : r.work = .release := by
      have hkind : r.work.kind = q.kind := congrArg Job.kind hjob
      rw [hk] at hkind
      cases hwork : r.work <;> rw [hwork] at hkind <;> first | rfl | exact nomatch hkind
    have htarget : r.target = i := by
      have hto : some r.target = if q.kind.ofRecord then q.target else none := congrArg Job.target hjob
      rw [hk, hi] at hto
      exact Option.some.inj hto
    rw [← htag, ← htarget]
    exact h.releaseLeaves hr hmem hw _ _
  · exact h

theorem haltRequest (h : Dealt k s) (hr : RosterLaw s) (hq : s.Fits q) (m : Halt) : Dealt k (s.haltRequest m q) := by
  unfold State.haltRequest
  split
  · exact h.haltCensus _ m
  · exact h.haltTxn hr hq (by simp [*]) _ m
  · exact h.haltTxn hr hq (by simp [*]) _ m
  · exact h.haltForget hr hq (by assumption) (by assumption) _ m
  · exact h

end Dealt

namespace Agreed

variable {k : Prop} {s : State}

theorem haltRequest (h : Agreed k s) {q : Req} (hq : s.Fits q) (m : Halt) : Agreed k (s.haltRequest m q) :=
  ⟨EntryLaws.bookLaw.haltRequest h.entries m q, h.dealt.haltRequest h.roster hq m⟩

/-- STOP's halt claims, in table order (R154). -/
theorem haltAll {qs : List Req} (h : Agreed k s) (hq : ∀ q ∈ qs, s.Fits q) :
    Agreed k (qs.foldl (fun t r => t.haltRequest .stop r) s) := by
  induction qs generalizing s with
  | nil => exact h
  | cons q qs ih =>
    refine ih (h.haltRequest (hq q List.mem_cons_self) .stop) fun x hx => ?_
    exact (hq x (List.mem_cons_of_mem q hx)).halted (.haltRequest s .stop q)

/-- STOP, admitted with requests open or with none (R154, R155). -/
theorem admitStop (h : Agreed k s) (hstop : s.stop = none) (tag : Tag) : Agreed k (s.admitStop tag) := by
  unfold State.admitStop
  dsimp only
  by_cases hempty : s.table = []
  · have hnone : ∀ u : State, s.table.foldl (fun t r => t.haltRequest .stop r) u = u := fun u => by rw [hempty]; rfl
    rw [hnone, State.settleStop_of_empty (s := { s.push tag (.taken .stop) with
      stop := some { tag := tag, openCount := s.table.length } }) rfl hempty]
    refine settle (h.host ⟨rfl, rfl, rfl, rfl, fun l => by cases l <;> rfl⟩ (h.dealt.same rfl hstop.symm ?_ rfl))
    exact fun l => by cases l <;> exact .refl _
  · have hopen : Agreed k { s.push tag (.taken .stop) with stop := some { tag := tag, openCount := s.table.length } } :=
      h.host ⟨rfl, rfl, rfl, rfl, fun l => by cases l <;> rfl⟩ ⟨h.dealt.tags, h.dealt.jobs, fun _ => hempty, h.dealt.named⟩
    have hhalted := hopen.haltAll (qs := s.table) fun q hq => h.dealt.fits hq
    rw [State.settleStop_of_stopLaw hhalted.dealt.stop]
    exact hhalted.settle

end Agreed

theorem Sends.admitStop (s : State) (tag : Tag) : Sends s (s.admitStop tag) := by
  have hfold : ∀ (qs : List Req) {u : State}, Halted s u → Halted s (qs.foldl (fun t r => t.haltRequest .stop r) u) := by
    intro qs
    induction qs with
    | nil => exact fun hu => hu
    | cons q qs ih => exact fun hu => ih (hu.trans (.haltRequest _ .stop q))
  have hopen : Halted s { s.push tag (.taken .stop) with stop := some { tag := tag, openCount := s.table.length } } :=
    fun l => by cases l <;> exact .refl _ _
  exact ((hfold s.table hopen).claimed ((Claimed.refl _).settleStop)).sends.settle

end Sys2Proof.Machine
end

section
/-! Long requests admitted: each joins the table with its work, and what leaves with it closes (R57, R109, R118, R127). -/

namespace Sys2Proof.Machine

open Sys2Proof.Statements

/-- A CENSUS admitted finds none on its line (R56). -/
theorem State.censusRefusal_eq_none {s : State} {l : Line} {e n : Nat} (h : s.censusRefusal l e n = none) :
    (s.line l).census = none := by
  unfold State.censusRefusal at h
  split at h
  · exact nomatch h
  split at h
  · exact nomatch h
  · rename_i hc
    simpa using hc

/-- What a READ_NODE or WRITE_NODE admitted finds (R109). -/
theorem State.txnRefusal_eq_none {s : State} {i : Ident} {off len : Nat} (h : s.txnRefusal i off len = none) :
    ∃ e, s.lookup i = some e ∧ e.standing.isBound = true ∧ e.forgetting = none := by
  unfold State.txnRefusal at h
  split at h
  · exact nomatch h
  · rename_i e he
    split at h
    · exact nomatch h
    rename_i hb
    split at h
    · exact nomatch h
    rename_i hf
    exact ⟨e, he, by simpa using hb, by simpa using hf⟩

/-- What a FORGET admitted finds (R118). -/
theorem State.forgetRefusal_eq_none {s : State} {i : Ident} {e : Entry} (he : s.lookup i = some e)
    (h : s.forgetRefusal i = none) : e.forgetting = none := by
  unfold State.forgetRefusal at h
  rw [he] at h
  dsimp only at h
  split at h
  · exact nomatch h
  · rename_i hf
    simpa using hf

namespace Dealt

variable {k : Prop} {s u : State} {l : Line}

/-- A request is admitted, and work of the lines, its own perhaps among it, leaves with its requests. -/
theorem admitted (h : Dealt k s) {q : Req} (hf : FreeTag s q.tag) {gone : List Job} {rs : List Report}
    (ht : u.table = s.table ++ [q]) (hs : u.stop = s.stop) (hjobs : (s.jobs ++ [q.job]).Perm (u.jobs ++ gone))
    (htags : ∀ t, t ∈ rs.map (·.tag) ↔ t ∈ gone.map Job.tag) (hn : Named k u.roster u.queues) : Dealt k (u.closeAll rs) := by
  obtain ⟨-, hfree, hstop, -⟩ := hf
  refine of_closings (J := s.jobs ++ [q.job]) ?_ ?_ (fun hsome => ?_) hjobs htags hn
  · rw [ht, List.map_append, List.nodup_append]
    refine ⟨h.tags, List.nodup_singleton _, fun x hx y hy => ?_⟩
    obtain ⟨p, hp, rfl⟩ := List.mem_map.mp hx
    rw [List.map_singleton, List.mem_singleton] at hy
    exact hy ▸ hfree p hp
  · rw [ht, List.map_append]
    exact h.jobs.append_right _
  · rw [hs, hstop] at hsome
    exact nomatch hsome

/-- A request is admitted, and its work joins a line. -/
theorem joined (h : Dealt k s) {q : Req} (hf : FreeTag s q.tag) (ht : u.table = s.table ++ [q]) (hs : u.stop = s.stop)
    (hself : ((u.line l).jobs l).Perm ((s.line l).jobs l ++ [q.job])) (ho : ∀ m, m ≠ l → (s.line m).jobs m = (u.line m).jobs m)
    (hn : Named k u.roster u.queues) : Dealt k u := by
  refine h.admitted (rs := []) (gone := []) hf ht hs ?_ (fun t => .rfl) hn
  rw [List.append_nil]
  exact (State.jobs_perm_of_line hself ho).symm

/-- A request is admitted and closes at once. -/
theorem servedAtOnce (h : Dealt k s) {q : Req} (hf : FreeTag s q.tag) (ht : u.table = s.table ++ [q]) (hs : u.stop = s.stop)
    (hl : ∀ m, (s.line m).SameJobs (u.line m)) (hn : Named k u.roster s.queues) (o : CloseOutcome) (x : CloseResult) :
    Dealt k (u.close q.tag o x) := by
  refine h.admitted (rs := [report q.tag (.closed o x)]) (gone := [q.job]) hf ht hs ?_ (fun t => .rfl) ?_
  · rw [State.jobs_eq_of_lines (s := s) (u := u) fun m => (hl m).jobs m]
  · rwa [show u.queues = s.queues from funext fun m => (hl m).queue]

/-- CENSUS makes its context (R57). -/
theorem withCensus (h : Dealt k s) {tag : Tag} (hf : FreeTag s tag) (hnone : (s.line l).census = none) {c : Census}
    (hc : c.tag = tag) : Dealt k (s.withCensus tag l c) := by
  refine h.joined (q := { tag := tag, kind := .census, line := l, state := .queued, target := none }) (l := l) hf
    (by rw [State.withCensus, State.modLine_eq_setLine, State.setLine_table]; rfl)
    (by rw [State.withCensus, State.modLine_eq_setLine, State.setLine_stop]; rfl) ?_ (fun m hm => ?_) ?_
  · rw [State.withCensus, State.line_modLine, State.line_take, LineState.jobs, LineState.jobs, hnone, ← hc]
    exact List.perm_append_singleton _ _ |>.symm
  · rw [State.withCensus, State.line_modLine_of_ne _ hm, State.line_take]
  · rw [State.withCensus, State.modLine_eq_setLine, State.setLine_roster, queues_setLine, State.line_take]
    have hqueues : (s.take { tag := tag, kind := .census, line := l, state := .queued, target := none }).queues = s.queues :=
      funext fun m => by rw [State.queues, State.line_take]
    rw [hqueues, Function.update_eq_self]
    exact h.named

/-! ## A record joins a queue -/

/-- A record joins a queue that others leave. -/
theorem jobs_of_join {p : Txn → Bool} {r : Txn} (hself : (u.line l).queue = ((s.line l).queue.filter fun x => !p x) ++ [r])
    (hcensus : (u.line l).census = (s.line l).census) (hpower : (u.line l).openPower = (s.line l).openPower)
    (ho : ∀ m, m ≠ l → (s.line m).jobs m = (u.line m).jobs m) :
    (s.jobs ++ [r.job l]).Perm (u.jobs ++ ((s.line l).queue.filter p).map (Txn.job l)) := by
  let v := s.setQueue l ((s.line l).queue.filter fun x => !p x)
  have hline : v.line l = { s.line l with queue := (s.line l).queue.filter fun x => !p x } := State.line_modLine ..
  have hother : ∀ m, m ≠ l → v.line m = s.line m := fun m hm => State.line_modLine_of_ne _ hm _
  have hleft : s.jobs.Perm (v.jobs ++ ((s.line l).queue.filter p).map (Txn.job l)) :=
    jobs_of_queue (by rw [hline]) (by rw [hline]) (by rw [hline]) fun m hm => by rw [hother m hm]
  have hjoins : u.jobs.Perm (v.jobs ++ [r.job l]) := by
    refine State.jobs_perm_of_line (l := l) ?_ fun m hm => by rw [hother m hm, ho m hm]
    rw [LineState.jobs, LineState.jobs, hline, hself, hcensus, hpower, List.map_append, List.append_assoc, List.append_assoc,
      List.append_assoc]
    exact (List.perm_append_comm.append_left _).append_left _
  refine ((hleft.append_right _).trans ?_).trans (hjoins.symm.append_right _)
  rw [List.append_assoc, List.append_assoc]
  exact List.perm_append_comm.append_left _

/-- A READ_NODE, WRITE_NODE or FORGET is admitted: its record joins the queue of its target's line, READs and WRITEs
perhaps leaving it (R109, R118). -/
theorem recordJoins (h : Dealt k s) (hr : RosterLaw s) {q : Req} (hf : FreeTag s q.tag) {e : Entry} (he : e ∈ s.roster)
    (hb : e.standing.isBound = true) (hforget : e.forgetting = none) {r : Txn} (hjob : q.job = r.job e.line)
    {p : Txn → Bool} (hp : ∀ x ∈ (s.line e.line).queue, p x = true → x.work ≠ .release)
    (ht : u.table = s.table ++ [q]) (hs : u.stop = s.stop)
    (hroster : u.roster = lessPendingBy ((s.line e.line).queue.filter p) (Named.plusOne r s.roster))
    (hself : u.line e.line = { s.line e.line with queue := ((s.line e.line).queue.filter fun x => !p x) ++ [r] })
    (ho : ∀ m, m ≠ e.line → u.line m = s.line m) (hi : r.target = e.identity) {rs : List Report}
    (htags : rs.map (·.tag) = ((s.line e.line).queue.filter p).map (·.tag)) : Dealt k (u.closeAll rs) := by
  refine h.admitted (gone := ((s.line e.line).queue.filter p).map (Txn.job e.line)) hf ht hs ?_ (fun x => ?_) ?_
  · rw [hjob]
    exact jobs_of_join (by rw [hself]) (by rw [hself]) (by rw [hself]) fun m hm => by rw [ho m hm]
  · rw [htags, List.map_map]
    rfl
  · rw [hroster]
    exact h.named.join hr.2.1 he hb hforget hi hp (by rw [State.queues, hself]) fun m hm => by
      rw [State.queues, ho m hm]

/-- READ_NODE and WRITE_NODE (R109). -/
theorem admitTxn (h : Dealt k s) (hr : RosterLaw s) {tag : Tag} (hf : FreeTag s tag) {w : TxnWork} (hw : w ≠ .release)
    {i : Ident} {off len : Nat} (hadm : s.txnRefusal i off len = none) : Dealt k (s.admitTxn tag w.kind i w) := by
  obtain ⟨e, he, hb, hforget⟩ := State.txnRefusal_eq_none hadm
  obtain ⟨hmem, hi⟩ := State.mem_of_lookup he
  unfold State.admitTxn
  rw [he]
  dsimp only
  rw [← State.closeAll_nil (State.updNamed _ _ _)]
  refine h.recordJoins (rs := []) (p := fun _ => false) (r := {
      tag := tag, work := w, target := i, attempts := 0, unheard := 0, halt := none, inFlight := false })
    (q := { tag := tag, kind := w.kind, line := e.line, state := .queued, target := some i }) hr hf hmem hb hforget ?_
    (fun _ _ => nofun) ?_ ?_ ?_ ?_ (fun m hm => ?_) hi.symm ?_
  · rw [Req.job, if_pos w.kind_ofRecord]
    rfl
  · simp only [State.updNamed, State.setQueue, State.modLine_eq_setLine, State.setLine_table]
    rfl
  · simp only [State.updNamed, State.setQueue, State.modLine_eq_setLine, State.setLine_stop]
    rfl
  · simp only [List.filter_false, lessPendingBy_nil, Named.plusOne, withEntry, if_neg hw, State.updNamed, State.setQueue,
      State.modLine_roster]
    rfl
  · rw [State.line_updNamed, State.setQueue, State.line_modLine, State.line_take]
    simp
  · rw [State.line_updNamed, State.setQueue, State.line_modLine_of_ne _ hm, State.line_take]
  · simp

end Dealt

end Sys2Proof.Machine
end

section
/-! FORGET, LINE_POWER, SET_PARAM and the resets, with requests, work and records in agreement. -/

namespace Sys2Proof.Machine

open Sys2Proof.Statements

/-- A line that is not SETTLING and takes a LINE_POWER has none open (R127). -/
theorem LineState.Sound.openPower_eq_none {L : LineState} (h : L.Sound) (hn : L.power ≠ .settling) {d : Direction}
    (hbusy : L.powerBusy d = false) : L.openPower = none := by
  have hon : L.openPower.any (·.2 == .on) = false := Bool.eq_false_iff.mpr fun hon => hn (h.opening.mpr hon)
  have hoff : L.offOpen = false := Bool.eq_false_iff.mpr fun hoff =>
    nomatch hbusy.symm.trans (LineState.powerBusy_iff.mpr (.inr hoff))
  unfold LineState.offOpen at hoff
  cases hp : L.openPower with
  | none => rfl
  | some x =>
    obtain ⟨tag, _ | _⟩ := x
    · simp [hp] at hoff
    · simp [hp] at hon

namespace Dealt

variable {k : Prop} {s u : State} {l : Line}

/-! ## FORGET (R34, R118) -/

theorem admitForget_bound (h : Dealt k s) (hr : RosterLaw s) {tag : Tag} (hf : FreeTag s tag) {e : Entry} (he : e ∈ s.roster)
    (hb : e.standing.isBound = true) (hforget : e.forgetting = none) : Dealt k (s.admitForget tag e) := by
  have hreads : ∀ x ∈ (s.line e.line).queue, (x.target == e.identity && x.attempts == 0) = true → x.work ≠ .release :=
    fun x hx hp hw => by
      simp only [Bool.and_eq_true, beq_iff_eq] at hp
      exact nomatch hforget.symm.trans (h.named.forgetting_of_release hr.2.1 he hx hp.1 hw)
  unfold State.admitForget
  dsimp only
  rw [if_pos hb, State.closeTxns_eq_closeAll (by decide)]
  refine h.recordJoins (p := fun x => x.target == e.identity && x.attempts == 0) (r := {
      tag := tag, work := .release, target := e.identity, attempts := 0, unheard := 0, halt := none, inFlight := false })
    (q := { tag := tag, kind := .forget, line := e.line, state := .queued, target := some e.identity }) hr hf he hb hforget rfl
    hreads ?_ ?_ ?_ ?_ (fun m hm => ?_) rfl ?_
  · simp only [State.setQueue, State.modLine_eq_setLine, State.setLine_table]
    rfl
  · simp only [State.setQueue, State.modLine_eq_setLine, State.setLine_stop]
    rfl
  · simp only [State.setQueue, State.modLine_roster, Named.plusOne, if_true]
    rfl
  · rw [State.setQueue, State.modLine_eq_setLine, State.setLine_with_roster, State.line_setLine]
    cases e.line <;> rfl
  · rw [State.setQueue, State.modLine_eq_setLine, State.setLine_with_roster, State.line_setLine_of_ne _ hm]
    cases m <;> rfl
  · rw [queuedFor, filterMap_closedTxn fun x hx => hreads x (List.mem_filter.mp hx).1 (List.mem_filter.mp hx).2, List.map_map]
    rfl

theorem admitForget_idle (h : Dealt k s) (hr : RosterLaw s) {tag : Tag} (hf : FreeTag s tag) {e : Entry} (he : e ∈ s.roster)
    (hb : e.standing.isBound = false) : Dealt k (s.admitForget tag e) := by
  unfold State.admitForget
  dsimp only
  rw [hb, if_neg Bool.false_ne_true, State.removeEntry_eq, State.closeForget]
  refine h.servedAtOnce (q := { tag := tag, kind := .forget, line := e.line, state := .queued, target := some e.identity }) hf
    (by simp only [State.setLine_table]; rfl) (by simp only [State.setLine_stop]; rfl) (fun m => ?_) ?_ _ _
  · by_cases hm : m = e.line
    · subst hm
      rw [State.line_setLine, State.line_take]
      exact ⟨rfl, rfl, rfl⟩
    · rw [State.line_setLine_of_ne _ hm]
      cases m <;> exact .refl _
  · rw [State.setLine_roster]
    refine h.named.unnamed (h.named.ne_of_not_bound hr.2.1 he hb) (fun x hx => .inl ?_) fun x hx hne => ?_
    · rwa [← mem_without, ← hr.filter_serial he]
    · exact (hr.filter_serial he).symm ▸ mem_without.mpr ⟨hx, hne⟩

theorem admitForget (h : Dealt k s) (hr : RosterLaw s) {tag : Tag} (hf : FreeTag s tag) {e : Entry}
    (he : s.lookup e.identity = some e) (hadm : s.forgetRefusal e.identity = none) : Dealt k (s.admitForget tag e) := by
  obtain ⟨hmem, -⟩ := State.mem_of_lookup he
  cases hb : e.standing.isBound with
  | true => exact h.admitForget_bound hr hf hmem hb (State.forgetRefusal_eq_none he hadm)
  | false => exact h.admitForget_idle hr hf hmem hb

/-! ## LINE_POWER (R127, R128, R130) -/

/-- A LINE_POWER is admitted and stays open. -/
theorem powerOpens (h : Dealt k s) {tag : Tag} (hf : FreeTag s tag) (hnone : (s.line l).openPower = none) {L : LineState}
    {d : Direction} (hc : L.census = (s.line l).census) (hq : L.queue = (s.line l).queue) (hp : L.openPower = some (tag, d)) :
    Dealt k ((s.takenPower tag l).setLine l L) := by
  refine h.joined (q := { tag := tag, kind := .linePower, line := l, state := .running, target := none }) (l := l) hf
    (by rw [State.setLine_table]; rfl) (by rw [State.setLine_stop]; rfl) ?_ (fun m hm => ?_) ?_
  · rw [State.line_setLine, LineState.jobs, LineState.jobs, hc, hq, hp, hnone, Option.map_none, Option.toList_none,
      List.append_nil, List.append_assoc]
    rfl
  · rw [State.line_setLine_of_ne _ hm, State.line_take]
  · have hqueues : (s.takenPower tag l).queues = s.queues := funext fun m => by rw [State.queues, State.line_take]
    rw [State.setLine_roster, queues_setLine, hq, hqueues, Function.update_eq_self]
    exact h.named

/-- A LINE_POWER is admitted and closes at once. -/
theorem powerServed (h : Dealt k s) {tag : Tag} (hf : FreeTag s tag) (o : CloseOutcome) (x : CloseResult) :
    Dealt k ((s.takenPower tag l).close tag o x) :=
  h.servedAtOnce (u := s.takenPower tag l) (q := { tag := tag, kind := .linePower, line := l, state := .running, target := none }) hf rfl rfl
    (fun m => by rw [State.line_take]; exact .refl _) h.named o x

/-- An off in SETTLING closes the on, and then itself (R130). -/
theorem offInSettling (h : Dealt k s) {tag : Tag} (hf : FreeTag s tag) {x : Tag} {d : Direction}
    (hp : (s.line l).openPower = some (x, d)) :
    Dealt k ((((s.takenPower tag l).unpower l .off).closePower l .cancelled .off 0).close tag .done (.linePower l .off 0)) := by
  have hline : ((s.takenPower tag l).unpower l .off).line l =
      { s.line l with power := .off, settleAt := none, speed := none } := by
    rw [State.unpower, State.line_modLine, State.line_take]
  rw [State.closePower_eq (by rw [hline]; exact hp), State.close_eq_closeAll, State.closeAll_closeAll, hline, State.unpower,
    State.modLine_eq_setLine, State.setLine_setLine]
  have hqueues : (s.takenPower tag l).queues = s.queues := funext fun m => by rw [State.queues, State.line_take]
  refine h.admitted (q := { tag := tag, kind := .linePower, line := l, state := .running, target := none })
    (gone := [powerJob l (x, d), powerJob l (tag, .off)]) hf (by rw [State.setLine_table]; rfl) (by rw [State.setLine_stop]; rfl)
    ?_ (fun t => .rfl) ?_
  · have hleft := State.jobs_perm_of_line (s := s) (l := l) (gone := [powerJob l (x, d)])
      (u := (s.takenPower tag l).setLine l { s.line l with power := .off, settleAt := none, speed := none, openPower := none })
      (by rw [State.line_setLine, LineState.jobs, LineState.jobs, hp]; simp)
      fun m hm => by rw [State.line_setLine_of_ne _ hm, State.line_take]
    exact (hleft.append_right [powerJob l (tag, .off)]).trans (by rw [List.append_assoc]; rfl)
  · rw [State.setLine_roster, queues_setLine, hqueues, Function.update_eq_self]
    exact h.named

end Dealt

namespace Agreed

variable {k : Prop} {s u : State} {l : Line}

theorem actPower (h : Agreed k s) {tag : Tag} (hf : FreeTag s tag) {d : Direction} (hs : (s.line l).Sound)
    (hbusy : (s.line l).powerBusy d = false) : Agreed k ((s.takenPower tag l).actPower l d tag) := by
  have htaken : EntryLaws (s.takenPower tag l) := EntryLaws.bookLaw.host h.entries (.take s _)
  have hnone : (s.line l).power ≠ .settling → (s.line l).openPower = none := fun hn => hs.openPower_eq_none hn hbusy
  refine ⟨EntryLaws.bookLaw.actPower htaken l d tag, ?_⟩
  unfold State.actPower
  rw [State.line_take]
  split
  · rename_i hp
    exact h.dealt.powerOpens hf (hnone (by rw [hp]; decide)) (by rw [State.line_take]) (by rw [State.line_take]) rfl
  · rename_i hp
    exact h.dealt.powerOpens hf (hnone (by rw [hp]; decide)) (by rw [State.line_take]) (by rw [State.line_take]) rfl
  · exact h.dealt.powerServed hf _ _
  · exact h.dealt.powerServed hf _ _
  · exact h.dealt.powerServed hf _ _
  · rename_i hp
    have hopened : Agreed k ((s.takenPower tag l).modLine l fun L => { L with openPower := some (tag, .off) }) :=
      ⟨EntryLaws.bookLaw.modLine htaken l rfl rfl, h.dealt.powerOpens hf (hnone (by rw [hp]; decide))
        (by rw [State.line_take]) (by rw [State.line_take]) rfl⟩
    dsimp only
    split
    · exact hopened.dealt
    · exact (hopened.goOff l).dealt
  · rename_i hp
    obtain ⟨⟨x, d⟩, hx, -⟩ := (Option.any_eq_true _ _).mp (hs.opening.mp hp)
    exact h.dealt.offInSettling hf hx
  · rename_i hp
    rw [LineState.powerBusy_iff.mpr (.inl ⟨hs.opening.mp hp, rfl⟩)] at hbusy
    exact nomatch hbusy

/-! ## SET_PARAM and the resets (R30, R156, R175) -/

/-- SET_PARAM stores, and a lowered miss_limit counts out (R30, R175). -/
theorem setParam (h : Agreed k s) (tag : Tag) {id v : Nat} (hnone : s.paramRefusal id v = none) :
    Agreed k (s.setParam tag id v) := by
  refine ⟨EntryLaws.bookLaw.setParam h.entries tag id v hnone, ?_⟩
  have hstored : Dealt k (s.stored tag id v) := h.dealt.same rfl rfl (fun m => by cases m <;> exact .refl _) rfl
  have hroster : RosterLaw (s.stored tag id v) := h.roster
  rw [State.setParam_eq]
  split
  · obtain ⟨-, hswept⟩ := countOut_foldl (P := fun _ u => RosterLaw u ∧ Dealt k u) (fun hu => hu.1)
      (fun hu he => ⟨RosterLaw.bookLaw.countOut hu.1 _ he, hu.2.countOut hu.1 he⟩) (es := overLimit (s.stored tag id v) v)
      ⟨hroster, hstored⟩ (fun e he => (List.mem_filter.mp he).1) ((List.filter_sublist.map _).nodup hroster.2.1)
    exact (hswept.pushLineEvents _).settle
  · exact hstored

/-- At a reset nothing is open, and nothing stands. -/
theorem of_reset (he : EntryLaws s) (ht : s.table = []) (hs : s.stop = none) (hr : s.roster = []) (hl : ∀ l, s.line l = .reset) :
    Agreed k s := by
  refine ⟨he, by rw [ht]; exact List.nodup_nil, ?_, fun hsome => ?_, ?_⟩
  · rw [ht, State.jobs, hl, hl]
    exact .refl _
  · rw [hs] at hsome
    exact nomatch hsome
  · have hq : ∀ l, s.queues l = [] := fun l => by rw [State.queues, hl]; rfl
    rw [hr]
    exact ⟨fun l r hr => by rw [hq] at hr; exact (nomatch hr), nofun, fun l r hr => by rw [hq] at hr; exact (nomatch hr),
      fun l => by rw [hq]; exact .nil, fun _ => nofun⟩

end Agreed

end Sys2Proof.Machine
end

section
/-! What every step keeps of requests, records and entries together (R33, R36, R57, R107, R110, R118, R127, R149, R150,
R155). -/

namespace Sys2Proof.Machine

open Sys2Proof.Statements

namespace Sends

variable {s t : State} {l : Line}

theorem of_lines (h : ∀ l, t.line l = s.line l) : Sends s t := fun l => h l ▸ .refl _

/-- A record joins a queue that others leave, its first attempt not yet granted. -/
theorem joins (h : Sends s t) (l : Line) {q : List Txn} {r : Txn} (hq : q.Sublist (t.line l).queue) (hr : r.inFlight = false) :
    Sends s (t.setQueue l (q ++ [r])) := by
  refine h.setQueue l fun x hx hin => ?_
  rcases List.mem_append.mp hx with hx | hx
  · exact ⟨x, hq.subset hx, hin, rfl⟩
  · rw [List.mem_singleton.mp hx, hr] at hin
    exact nomatch hin

theorem admitTxn (s : State) (tag : Tag) (k : LongKind) (i : Ident) (w : TxnWork) : Sends s (s.admitTxn tag k i w) := by
  unfold State.admitTxn
  split
  · exact (((refl s).claimed ((Claimed.refl s).take _)).joins _ (by rw [State.line_take]) rfl).claimed
      ((Claimed.refl _).updNamed _ _)
  · exact refl s

theorem admitForget (s : State) (tag : Tag) (e : Entry) : Sends s (s.admitForget tag e) := by
  have htaken := (refl s).claimed ((Claimed.refl s).take
    { tag := tag, kind := .forget, line := e.line, state := .queued, target := some e.identity })
  unfold State.admitForget
  dsimp only
  split
  · refine ((htaken.claimed ((Claimed.refl _).updNamed _ _)).joins _ ?_ rfl).claimed ((Claimed.refl _).closeTxns _ _)
    rw [State.line_updNamed, State.line_take]
    exact List.filter_sublist
  · exact htaken.claimed (((Claimed.refl _).removeEntry e).closeForget _ _ _)

theorem actPower (h : Sends s t) (l : Line) (d : Direction) (tag : Tag) : Sends s (t.actPower l d tag) := by
  unfold State.actPower
  split
  · exact h.modLine_same l rfl rfl
  · exact h.modLine_same l rfl rfl
  · exact h.claimed ((Claimed.refl _).close _ _ _)
  · exact h.claimed ((Claimed.refl _).close _ _ _)
  · exact h.claimed ((Claimed.refl _).close _ _ _)
  · have hopened : Sends s (t.modLine l fun L => { L with openPower := some (tag, .off) }) := h.modLine_same l rfl rfl
    dsimp only
    split
    · exact hopened
    · exact hopened.goOff l
  · exact (closePower (t := t.unpower l .off) (h.modLine_same l rfl rfl) l _ _ _).claimed ((Claimed.refl _).close _ _ _)
  · exact h.modLine_same l rfl rfl

theorem setParam (s : State) (tag : Tag) (id v : Nat) : Sends s (s.setParam tag id v) := by
  have hstored : Sends s (s.stored tag id v) := of_lines fun l => by cases l <;> rfl
  rw [State.setParam_eq]
  split
  · exact (hstored.claimed ((Claimed.refl _).limitSweep v)).settle
  · exact hstored

end Sends

/-- Requests, records and entries agree, and a record in flight is the one whose call the line sends: with the laws that
make it stay so. -/
structure Accounted (k : Prop) (s : State) : Prop where
  down : DownLaws s
  queues : QueueLaws s
  agreed : Agreed k s
  flights : ∀ l, FlightLaw s l

namespace Accounted

variable {k : Prop} {s t : State}

/-- A claim that sends no call and sets no record in flight. -/
theorem sends (h : Accounted k s) (hd : DownLaws t) (hq : QueueLaws t) (ha : Agreed k t) (hs : Sends s t) : Accounted k t :=
  ⟨hd, hq, ha, hs.flightLaw h.flights hq⟩

theorem of_reset (hd : DownLaws s) (hq : QueueLaws s) (he : EntryLaws s) (ht : s.table = []) (hs : s.stop = none)
    (hr : s.roster = []) (hl : ∀ l, s.line l = .reset) : Accounted k s :=
  ⟨hd, hq, .of_reset he ht hs hr hl, fun l r hr => by rw [hl] at hr; exact (nomatch hr)⟩

theorem coreLaw : CoreLaw (Accounted k) where
  same h hs := h.sends (DownLaws.coreLaw.same h.down hs) (QueueLaws.coreLaw.same h.queues hs)
    ⟨EntryLaws.bookLaw.coreLaw.same h.agreed.entries hs, h.agreed.dealt.same (by rw [hs.table]) hs.stop
      (fun m => by rw [hs.line]; exact .refl _) hs.roster⟩ (.of_lines hs.line)
  serveReset h tag := .of_reset (DownLaws.coreLaw.serveReset h.down tag) (QueueLaws.coreLaw.serveReset h.queues tag)
    (EntryLaws.bookLaw.serveReset h.agreed.entries tag) rfl rfl rfl fun l => by cases l <;> rfl
  powerOn := .of_reset DownLaws.coreLaw.powerOn QueueLaws.coreLaw.powerOn EntryLaws.bookLaw.powerOn rfl rfl rfl
    fun l => by cases l <;> rfl
  setParam h tag id v hnone := h.sends (DownLaws.coreLaw.setParam h.down tag id v hnone)
    (QueueLaws.coreLaw.setParam h.queues tag id v hnone) (h.agreed.setParam tag hnone) (.setParam _ tag id v)
  cancel h q hq hcan := h.sends (DownLaws.coreLaw.cancel h.down q hq hcan) (QueueLaws.coreLaw.cancel h.queues q hq hcan)
    (h.agreed.haltRequest (h.agreed.dealt.fits hq) .cancel).settle (Halted.haltRequest _ .cancel q).sends.settle
  stop h tag hzero hfree hnone := h.sends (DownLaws.coreLaw.stop h.down tag hzero hfree hnone)
    (QueueLaws.coreLaw.stop h.queues tag hzero hfree hnone) (h.agreed.admitStop hnone tag) (.admitStop _ tag)
  census {s} h tag l policy exponent budget n bits hf hadm := by
    have hcore := EntryLaws.bookLaw.coreLaw.census h.agreed.entries tag l policy exponent budget n bits hf hadm
    refine h.sends (DownLaws.coreLaw.census h.down tag l policy exponent budget n bits hf hadm)
      (QueueLaws.coreLaw.census h.queues tag l policy exponent budget n bits hf hadm)
      ⟨hcore, h.agreed.dealt.withCensus hf (State.censusRefusal_eq_none hadm) rfl⟩ ?_
    exact ((Sends.refl s).claimed ((Claimed.refl s).take _)).modLine_same l rfl rfl
  txn h tag w i off len hf hw hadm := h.sends (DownLaws.coreLaw.txn h.down tag w i off len hf hw hadm)
    (QueueLaws.coreLaw.txn h.queues tag w i off len hf hw hadm)
    ⟨EntryLaws.bookLaw.coreLaw.txn h.agreed.entries tag w i off len hf hw hadm, h.agreed.dealt.admitTxn h.agreed.roster hf hw hadm⟩
    (.admitTxn _ tag w.kind i w)
  forget h tag e hf he hadm := h.sends (DownLaws.coreLaw.forget h.down tag e hf he hadm)
    (QueueLaws.coreLaw.forget h.queues tag e hf he hadm)
    ⟨EntryLaws.bookLaw.admitForget h.agreed.entries tag he, h.agreed.dealt.admitForget h.agreed.roster hf he hadm⟩
    (.admitForget _ tag e)
  power h tag l d hf hbusy := h.sends (DownLaws.coreLaw.power h.down tag l d hf hbusy)
    (QueueLaws.coreLaw.power h.queues tag l d hf hbusy) (h.agreed.actPower hf (h.down.1 l) hbusy)
    (((Sends.refl _).claimed ((Claimed.refl _).take _)).actPower l d tag)
  inner h hc he := by
    have hq := QueueLaws.coreLaw.inner h.queues hc he
    exact ⟨DownLaws.coreLaw.inner h.down hc he, hq, h.agreed.inner h.flights hc he, Sends.inner h.flights hq hc he⟩

end Accounted

/-- The table law is kept by itself. -/
theorem tableLaw_hostLaw : HostLaw TableLaw where
  same _ _ := fun ⟨_, _, _, ht, hs⟩ h => TableLaw.congr ht hs h
  quiet _ _ hq h := hq.table h
  stored _ _ _ _ _ h := h
  serveReset _ _ _ := by simp [TableLaw, State.serveReset, State.reset]
  powerOn _ := by simp [TableLaw, State.reset]
  depart _ _ _ _ h := h

/-- The laws of O57, with or without that of the pending counts. -/
theorem accounted_iff {k : Prop} {s : State} : TableLaw s ∧ Accounted k s ↔
    (RosterLaw s ∧ ParamLaw s ∧ EntryLaw s ∧ TableLaw s ∧ RequestLaw s ∧ StopLaw s ∧ OnBothLines DownLaw s ∧
      OnBothLines PowerLaw s ∧ OnBothLines QueueLaw s ∧ OnBothLines FlightLaw s ∧ OnBothLines TargetLaw s ∧
      OnBothLines ForgetLaw s ∧ OnBothLines WorkLaw s) ∧ (k → PendingLaw s) := by
  simp only [onBothLines_iff]
  constructor
  · rintro ⟨htable, hdown, ⟨-, hqueues⟩, ⟨⟨hroster, hparams, hentries⟩, htags, hjobs, hstop, hnamed⟩, hflights⟩
    obtain ⟨-, hdowns, hpowers⟩ := downLaws_iff.mp hdown
    obtain ⟨hrequests, hworks⟩ := (jobs_perm_iff htags).mp hjobs
    obtain ⟨htargets, hforgets, hpending⟩ := named_iff.mp hnamed
    exact ⟨⟨hroster, hparams, hentries, htable, hrequests, hstop, hdowns, hpowers, hqueues, hflights, htargets, hforgets,
      hworks⟩, hpending⟩
  · rintro ⟨⟨hroster, hparams, hentries, htable, hrequests, hstop, hdowns, hpowers, hqueues, hflights, htargets, hforgets,
      hworks⟩, hpending⟩
    have htags := htable.2.1
    exact ⟨htable, downLaws_iff.mpr ⟨hroster, hdowns, hpowers⟩, ⟨hparams, hqueues⟩, ⟨⟨hroster, hparams, hentries⟩, htags,
      (jobs_perm_iff htags).mpr ⟨hrequests, hworks⟩, hstop, named_iff.mpr ⟨htargets, hforgets, hpending⟩⟩, hflights⟩

theorem accounted_kept (k : Prop) : KeptByEveryStep fun s => TableLaw s ∧ Accounted k s := fun s t ⟨htable, h⟩ hstep =>
  ⟨tableLaw_hostLaw.keptByEveryStep s t htable hstep, Accounted.coreLaw.keptByEveryStep s t h hstep⟩

end Sys2Proof.Machine

open Sys2Proof.Machine Sys2Proof.Statements

/-- Settles O57: open requests and the work of the lines are one list of jobs, up to order, from which a claim takes both
sides of a job or to which it adds both; records leave with their entries. -/
theorem everyStepKeepsRecordsAndRequests : Obligations.EveryStepKeepsRecordsAndRequests := by
  constructor
  · intro s t hs hstep
    exact (accounted_iff.mp (accounted_kept False s t (accounted_iff.mpr ⟨hs, False.elim⟩) hstep)).1
  · intro s t ⟨hs, hpending⟩ hstep
    obtain ⟨ht, hpending'⟩ := accounted_iff.mp (accounted_kept True s t (accounted_iff.mpr ⟨hs, fun _ => hpending⟩) hstep)
    exact ⟨ht, hpending' trivial⟩

end
